-- ==== Sys2Proof/Word.lean ====
section
/-! DEFINITION. Word.lean: the few plain data the whole model uses: the byte, the saturating sum, the clamp, the two bays and
a pair of values held one per bay. -/

namespace Sys2Proof

/-- Eight bits: an originator code, a mask, a filter code, the check of a frame (sections 11.1 and 11.3 write each as two hex digits). -/
abbrev Byte := BitVec 8

/-- A date of the hall calendar, as the number of days after 2000-01-01 (section "Time": 2000-01-01 .. 2099-12-31). -/
abbrev Date := Nat

/-- A saturating sum: it stays at `top` when it would pass it (section "Numbers and ranges"). -/
def satAdd (top x n : Nat) : Nat := min top (x + n)

/-- The value brought into `lo..hi`. -/
def clampInt (lo hi x : Int) : Int := max lo (min hi x)

/-- The two lamp positions (section 1.1). -/
inductive Bay where
  | bayA | bayB
  deriving DecidableEq, Repr

/-- The other bay. -/
def Bay.other : Bay → Bay
  | .bayA => .bayB
  | .bayB => .bayA

/-- 0 for bay A and 1 for bay B: on a tie bay A comes first (R13, R16). -/
def Bay.idx : Bay → Nat
  | .bayA => 0
  | .bayB => 1

/-- One value for each bay. -/
structure PerBay (α : Type) where
  /-- the value of bay A -/
  a : α
  /-- the value of bay B -/
  b : α
  deriving DecidableEq, Repr

namespace PerBay

variable {α : Type}

/-- The value of one bay. -/
def get (p : PerBay α) : Bay → α
  | .bayA => p.a
  | .bayB => p.b

/-- The pair with one bay's value replaced. -/
def set (p : PerBay α) (b : Bay) (v : α) : PerBay α :=
  match b with
  | .bayA => { p with a := v }
  | .bayB => { p with b := v }

/-- The pair made by a rule applied to each bay. -/
def make (f : Bay → α) : PerBay α := ⟨f .bayA, f .bayB⟩

/-- The same value for both bays. -/
def both (v : α) : PerBay α := ⟨v, v⟩

@[simp] theorem get_make (f : Bay → α) (b : Bay) : (make f).get b = f b := by cases b <;> rfl
@[simp] theorem get_both (v : α) (b : Bay) : (both v).get b = v := by cases b <;> rfl
@[simp] theorem get_set_self (p : PerBay α) (b : Bay) (v : α) : (p.set b v).get b = v := by cases b <;> rfl
@[simp] theorem get_set_other (p : PerBay α) (b : Bay) (v : α) : (p.set b v).get b.other = p.get b.other := by
  cases b <;> rfl

theorem get_set (p : PerBay α) (b c : Bay) (v : α) : (p.set b v).get c = if c = b then v else p.get c := by
  cases b <;> cases c <;> rfl

theorem ext_get {p q : PerBay α} (h : ∀ b, p.get b = q.get b) : p = q := by
  cases p; cases q
  have ha := h .bayA
  have hb := h .bayB
  simp only [get] at ha hb
  rw [ha, hb]

end PerBay

end Sys2Proof
end

