-- ==== Sys2Proof/Syntax.lean ====
section
/-! DEFINITION. Syntax.lean: the commands and events of the part: one constructor of `Instr` for each row of
spec/opcode_table.json, with its operands. -/

namespace Sys2Proof

/-- The classes of senders, in rising order (section "Orders"). -/
inductive Cls where
  | viewer | presenter | operator | facility
  deriving DecidableEq, Repr

/-- The place of a class in the order Viewer < Presenter < Operator < Facility. -/
def Cls.rank : Cls → Nat
  | .viewer => 0
  | .presenter => 1
  | .operator => 2
  | .facility => 3

/-- The two ports a command frame may arrive on. -/
inductive CmdPort where
  | line | lectern
  deriving DecidableEq, Repr

/-- Who sent a command: the port it came on, the class the port gave it (R171, R175), the originator code the reply repeats
(R174), and whether it was a broadcast (R170). -/
structure Sender where
  port : CmdPort
  cls : Cls
  orig : Byte
  broadcast : Bool
  deriving DecidableEq, Repr

/-- The hall settings (section 11.5). -/
inductive SettingName where
  | address | plan | mount | defmode | condint | autoscan | prewarm | grace | idle | idlelock
  deriving DecidableEq, Repr

/-- The records of the Settings Store (section 12.4). Places, slots, filters and masks are numbered from 1. -/
inductive RecKey where
  | lamp (b : Bay)
  | profile (n : Nat)
  | booking (n : Nat)
  | exceptions
  | master
  | code (n : Nat)
  | filter (n : Nat)
  | mask (n : Nat)
  | ceiling
  | limits
  | setting (k : SettingName)
  deriving DecidableEq, Repr

/-- How an open frame ended bad (R168). The inter-character gap is a row of its own. A start character that ends an open frame opens a
new one, so that cause carries it. The first four are of the Line Port; the last is a character of the Lectern Port that arrives
without its stop bit (R168, R175). -/
inductive BadCause where
  | framingError
  | overlength
  | newStart (c : Char)
  | failedCheck
  | lecternFramingError
  deriving DecidableEq, Repr

/-- What the inputs of the part show when power is applied, and which stored copies fail the store's integrity check (R185). -/
structure PowerOnInputs where
  /-- the ADDRDEF strap is asserted (R170) -/
  strap : Bool
  /-- the lamp doors that stand open -/
  doorOpen : PerBay Bool
  /-- the ballast fault inputs that are asserted -/
  ballast : PerBay Bool
  /-- the lit sense inputs that are asserted -/
  lit : PerBay Bool
  /-- the records whose stored copy is unreadable -/
  unreadable : List RecKey
  deriving DecidableEq, Repr

/-- What one video input shows at a sample: its signal-present input and its class on the port status bus (section 5.1). -/
structure PortReading where
  present : Bool
  cls : Nat
  deriving DecidableEq, Repr

/-- The commands and events of the part: one constructor for each row of spec/opcode_table.json, in the table's order.
A command carries its sender and the words that follow its verb (and, where the row's name fixes a word of the command, the words
around it: SETTING PLAN carries the words after PLAN, CEILING mode PERSIST carries the mode). -/
inductive Instr where
  | powerOn (inp : PowerOnInputs)
  | restart (snd : Sender) (args : List String)
  | lineFrame (chars : List Char)
  | badFrame (cause : BadCause)
  | interCharacterGap
  | lineDeafEnd
  | lecternFrame (chars : List Char)
  | noticeSend
  | storeWriteDone (ok : Bool)
  | lampon (snd : Sender) (args : List String)
  | lampoff (snd : Sender) (args : List String)
  | settingPlan (snd : Sender) (args : List String)
  | igniterGrant
  | strikeSuccess (b : Bay)
  | strikeWindowEnd (b : Bay)
  | warmUpEnd (b : Bay)
  | litSenseDrop (b : Bay)
  | coolingEnd (b : Bay)
  | restEnd (b : Bay)
  | strikeHoldoffEnd (b : Bay)
  | doorOpen (b : Bay)
  | doorClose (b : Bay)
  | ballastFaultAsserted (b : Bay)
  | ballastFaultReleased (b : Bay)
  | spacingEnd
  | strikeListExpiry (b : Bay)
  | lossBarEnd (b : Bay)
  | lampLostExpiry (b : Bay)
  | litSecond
  | wearCarry (b : Bay)
  | unsavedWrite (b : Bay)
  | install (snd : Sender) (args : List String)
  | replace (snd : Sender) (args : List String)
  | remove (snd : Sender) (args : List String)
  | revive (snd : Sender) (args : List String)
  | lampinfo (snd : Sender) (args : List String)
  | mode (snd : Sender) (args : List String)
  | settingDefmode (snd : Sender) (args : List String)
  | ceilingPersist (snd : Sender) (args : List String)
  | ceilingTemp (snd : Sender) (args : List String)
  | ceilingCleartemp (snd : Sender)
  | ecoMinute (b : Bay)
  | conditioningDue (b : Bay)
  | settingCondint (snd : Sender) (args : List String)
  | fullRunComplete (b : Bay)
  | modeinfo (snd : Sender) (args : List String)
  | thermistorConversion (housing ambient : Int)
  | housingSensorFault
  | thermalLevelChange
  | hotHallChange
  | tachPulse
  | fanStall
  | heatinfo (snd : Sender) (args : List String)
  | portSample (readings : List PortReading)
  | portinfo (snd : Sender) (args : List String)
  | profile (snd : Sender) (args : List String)
  | unprofile (snd : Sender) (args : List String)
  | trim (snd : Sender) (args : List String)
  | profinfo (snd : Sender) (args : List String)
  | profinfoTable (snd : Sender)
  | source (snd : Sender) (args : List String)
  | switchLock
  | switchTimeout
  | signalLoss
  | classChange
  | classChangeTimerEnd
  | nosignalLock
  | scanStart
  | dwellLock
  | dwellEnd
  | settingAutoscan (snd : Sender) (args : List String)
  | muteOn (snd : Sender)
  | muteOff (snd : Sender)
  | sourceQuery (snd : Sender)
  | tiltRead (reading : Option Int)
  | tiltInvalid
  | cadenceComputation
  | autoTiltConfirm
  | warpReady
  | warpReplyWindowEnd
  | nudge (snd : Sender) (args : List String)
  | limits (snd : Sender) (args : List String)
  | settingMount (snd : Sender) (args : List String)
  | geoinfo (snd : Sender) (args : List String)
  | minuteEdge
  | clockEnd
  | setclock (snd : Sender) (args : List String)
  | clock (snd : Sender) (args : List String)
  | settingPrewarm (snd : Sender) (args : List String)
  | settingGrace (snd : Sender) (args : List String)
  | book (snd : Sender) (args : List String)
  | rebook (snd : Sender) (args : List String)
  | unbook (snd : Sender) (args : List String)
  | skip (snd : Sender) (args : List String)
  | unskip (snd : Sender) (args : List String)
  | bookinfo (snd : Sender) (args : List String)
  | booklist (snd : Sender) (args : List String)
  | extend (snd : Sender) (args : List String)
  | endnow (snd : Sender) (args : List String)
  | idleAutoOff
  | settingIdle (snd : Sender) (args : List String)
  | occinfo (snd : Sender) (args : List String)
  | settingIdlelock (snd : Sender) (args : List String)
  | relock (snd : Sender) (args : List String)
  | unlock (snd : Sender) (args : List String)
  | attempts (snd : Sender) (args : List String)
  | setcode (snd : Sender) (args : List String)
  | delcode (snd : Sender) (args : List String)
  | setmaster (snd : Sender) (args : List String)
  | freeze (snd : Sender) (args : List String)
  | maintOn (snd : Sender)
  | maintOff (snd : Sender)
  | lockinfo (snd : Sender) (args : List String)
  | filter (snd : Sender) (args : List String)
  | mask (snd : Sender) (args : List String)
  | lineinfo (snd : Sender) (args : List String)
  | settingAddress (snd : Sender) (args : List String)
  | settingQuery (snd : Sender) (args : List String)
  | clearfault (snd : Sender) (args : List String)
  | faults (snd : Sender) (args : List String)
  | status (snd : Sender) (args : List String)
  | replySend (port : CmdPort)
  deriving DecidableEq, Repr

end Sys2Proof
end

