-- ==== Sys2Proof/Decode.lean ====
section
/-! DEFINITION. Decode.lean: the commands that a word spells. The part takes no machine words: spec/opcode_table.json gives no row any
bits, so no word spells a command. The commands of the manual arrive as frames of text, and Machine/Line.lean reads those. -/

/-- The command that a word spells by the table's bits. The table gives no row bits (notes/assumptions/5.md). -/
def Sys2Proof.decodeTableWord (_nbits _w : Nat) : Option Sys2Proof.Instr := none
end

