-- ==== Sys2Proof/Config.lean ====
section
/-! DEFINITION. Config.lean: the free values: what the manual leaves open while the part goes on. They have no body, so nothing
can be proved of the value any of them takes. -/

namespace Sys2Proof.Config

/-- Which of several steps that have fallen due at one moment is taken next ("either may be taken first", R3, R27, R54, R92 and
others). The model applies it to a counter that State holds. DESIGN CHOICE, notes/assumptions/2.md. -/
opaque dueChoice : Nat → Nat

/-- Whether a line frame that was waiting to be taken is still taken once Deaf has ended. R173 takes no frame in Deaf and does not
say what becomes of one that arrived before. DESIGN CHOICE, notes/assumptions/12.md. -/
opaque deafKeepsFrame : Nat → Bool

end Sys2Proof.Config
end

