-- ==== Sys2Proof/Machine/Constants.lean ====
section
/-! DEFINITION. Machine/Constants.lean: the periods and limits the rules give, in milliseconds of uptime unless said. -/

namespace Sys2Proof.Machine

/-- One second. -/
def second : Nat := 1000
/-- The strike window: 4 s (R2). -/
def strikeWindow : Nat := 4 * second
/-- The warm-up: 45 s (R3). -/
def warmUp : Nat := 45 * second
/-- The retry rest after a failed strike, and the rest after REVIVE: 30 s (R4, R11). -/
def shortRest : Nat := 30 * second
/-- Cooling: 90 s (R6). -/
def coolingTime : Nat := 90 * second
/-- The Rest that follows Cooling: 60 s (R6). -/
def restTime : Nat := 60 * second
/-- The rest after power-on and RESTART, and the strike holdoff: 150 s (R2, R24, R25). -/
def holdoff : Nat := 150 * second
/-- The igniter spacing: 5 s (R17). -/
def spacingTime : Nat := 5 * second
/-- The strike budget's span, the loss bar and the age at which LampLost ends: 3600 s (R10, R18). -/
def hour : Nat := 3600 * second
/-- The stall time of the fan: 5 s (R70). -/
def stallTime : Nat := 5 * second
/-- The switch timeout: 5 s (R90). -/
def switchTime : Nat := 5 * second
/-- The class-change timer: 1 s (R94). -/
def classTime : Nat := second
/-- The NoSignal time before a scan: 10 s (R96). -/
def scanWait : Nat := 10 * second
/-- A dwell: 3 s (R97). -/
def dwellTime : Nat := 3 * second
/-- The reply window of the warp link: 200 ms (R112). -/
def warpWindow : Nat := 200
/-- The longest gap between two characters of a frame: 200 ms (R168). -/
def charGap : Nat := 200
/-- The line idle that ends Deaf: 3 s (R173). -/
def deafIdle : Nat := 3 * second
/-- The line idle before a notice: 20 ms (R182). -/
def noticeIdle : Nat := 20
/-- The top of the wear counter (R30). -/
def wearTop : Nat := 16777215
/-- The top of the lit seconds field (R30). -/
def litSecTop : Nat := 4294967295
/-- The unsaved count at which a record is written (R36). -/
def unsavedTop : Nat := 600
/-- A full run: 600 s at Full (R56). -/
def fullRun : Nat := 600
/-- The last date of the hall calendar, 2099-12-31, in days after 2000-01-01. -/
def lastDate : Date := 36524

end Sys2Proof.Machine
end

