-- ==== Sys2Proof/Machine/State.lean ====
section
/-! DEFINITION. Machine/State.lean: every piece of state the manual gives the part, block by block, as plain data, and the state
right after power-on of a part as it is shipped. Times of uptime are in milliseconds since power-on. -/

namespace Sys2Proof.Machine

/-! ## The words of the manual -/

/-- The states of a lamp bay (section 1.1). -/
inductive BaySt where
  | empty | dark | striking | warming | lit | cooling | rest | failed
  deriving DecidableEq, Repr

/-- The door-cycled flag of a bay (R19). -/
inductive DoorFlag where
  | clear | opened | cycled
  deriving DecidableEq, Repr

/-- The writer of the last change to the demand count (section 1.1). -/
inductive DemandOrigin where
  | presenter | operator | facility | schedule | idle | heat | maint | restart | powerOn
  deriving DecidableEq, Repr

/-- The hall setting PLAN (R22). -/
inductive Plan where
  | single | dual
  deriving DecidableEq, Repr

/-- The life stage of a lamp (R33). -/
inductive Stage where
  | good | low | spent | exhausted
  deriving DecidableEq, Repr

/-- The lamp modes, in rising order (section "Orders"). Off is the absence of a mode. -/
inductive LampMode where
  | eco | standard | full
  deriving DecidableEq, Repr

/-- A bay's conditioning override (R57). -/
inductive Override where
  | none | normal | forced
  deriving DecidableEq, Repr

/-- The thermal level (R65). -/
inductive Thermal where
  | normal | warn | shutdown
  deriving DecidableEq, Repr

/-- The fan level (R69). -/
inductive Fan where
  | low | normal | high
  deriving DecidableEq, Repr

/-- The eight video input ports. -/
inductive VPort where
  | p1 | p2 | p3 | p4 | p5 | p6 | p7 | p8
  deriving DecidableEq, Repr

/-- The aspects the scaler may be told to use (section 5.2). -/
inductive Aspect where
  | r16x10 | r16x9 | r4x3
  deriving DecidableEq, Repr

/-- What happens at a loss of signal (section 5.2). -/
inductive LossB where
  | hold | blank
  deriving DecidableEq, Repr

/-- The states of the Source Selector (section 6.1). -/
inductive SelSt where
  | settled | switching | noSignal | scanning
  deriving DecidableEq, Repr

/-- The origins of a switch request, with the priorities of section 6.1. -/
inductive SwOrigin where
  | facility | operator | schedule | presenter
  deriving DecidableEq, Repr

/-- How the projector is hung (R116). -/
inductive Mount where
  | floor | ceiling
  deriving DecidableEq, Repr

/-- The days of the week, in the order of R120. -/
inductive Weekday where
  | mon | tue | wed | thu | fri | sat | sun
  deriving DecidableEq, Repr

/-- The lock of a booking (section 8.2). -/
inductive BookLock where
  | lockOpen | panel | exam
  deriving DecidableEq, Repr

/-- The idle lock (section 10.1). -/
inductive IdleLock where
  | lockOpen | panel
  deriving DecidableEq, Repr

/-- The lock level (R154). -/
inductive LockLevel where
  | levelOpen | panel | exam | maintenance
  deriving DecidableEq, Repr

/-- The phases of an occurrence (section 9.1). -/
inductive Phase where
  | prewarm | running | grace
  deriving DecidableEq, Repr

/-- The code that last set the unlocked flag (section 10.1). -/
inductive UnlockedBy where
  | slot (n : Nat)
  | master
  deriving DecidableEq, Repr

/-- The state of a fault entry (section 12.1). -/
inductive FaultSt where
  | clear | active | latched
  deriving DecidableEq, Repr

/-- The entries of the Fault Table (section 12.1). -/
inductive FaultId where
  | strikeFailed (b : Bay)
  | lampFailed (b : Bay)
  | lampLost (b : Bay)
  | ballastFault (b : Bay)
  | doorOpen (b : Bay)
  | lampLow (b : Bay)
  | lampExhausted (b : Bay)
  | thermalWarn
  | thermalShutdown
  | housingSensor
  | fanStall
  | tiltInvalid
  | warpNoReply
  | storeFault
  | lineDeaf
  | noClock
  deriving DecidableEq, Repr

/-- The kinds of notices (section 12.2). -/
inductive NoticeKind where
  | fault | heat | lamp | lock | booking | source | life
  deriving DecidableEq, Repr

/-- The subjects of notices (section 12.2). -/
inductive Subject where
  | fault (f : FaultId)
  | housing
  | ambient
  | bay (b : Bay)
  | level
  | upcoming
  | active
  | selector
  deriving DecidableEq, Repr

/-! ## The persistent records -/

/-- A lamp record (section 2.1). The rated quarter-units, the per-mille and the stage are derived from it. -/
structure LampRecord where
  identity : String
  ratedLife : Nat
  wear : Nat
  fraction : Nat
  litSeconds : Nat
  strikeCount : Nat
  failedCount : Nat
  consecutive : Nat
  failed : Bool
  installed : Option Date
  deriving DecidableEq, Repr

/-- A source profile (section 5.2). An absent class is ANY, an absent rank is "not scanned". -/
structure Profile where
  port : VPort
  cls : Option Nat
  label : Option String
  aspect : Aspect
  vTrim : Int
  hTrim : Int
  autoTilt : Bool
  loss : LossB
  rank : Option Nat
  deriving DecidableEq, Repr

/-- The dates of a booking: its kind with the fields of that kind (section 8.2). -/
inductive BookDates where
  | weekly (days : List Weekday) (validFrom validUntil : Option Date)
  | once (date : Date)
  deriving DecidableEq, Repr

/-- A booking record (section 8.2). Times are minutes from midnight. -/
structure Booking where
  dates : BookDates
  start : Nat
  stop : Nat
  source : Option Nat
  mode : Option LampMode
  lamps : Option Nat
  lock : BookLock
  owner : Option Nat
  ownerOnly : Bool
  grace : Nat
  label : Option String
  deriving DecidableEq, Repr

/-- An exception: it cancels one occurrence of a WEEKLY booking (section 8.6). -/
structure Exc where
  booking : Nat
  date : Date
  deriving DecidableEq, Repr

/-- A presenter code (section 10.1). -/
structure Code where
  digits : String
  label : Option String
  expiry : Option Date
  deriving DecidableEq, Repr

/-- An acceptance filter (R171). The mask is the selector 1, 2 or 3. -/
structure Filter where
  code : Byte
  mask : Nat
  cls : Cls
  on : Bool
  deriving DecidableEq, Repr

/-- The hall settings (section 11.5). -/
structure Settings where
  address : Nat
  plan : Plan
  mount : Mount
  defmode : LampMode
  condint : Nat
  autoscan : Bool
  prewarm : Nat
  grace : Nat
  idle : Nat
  idlelock : IdleLock
  deriving DecidableEq, Repr

/-- The persistent records of the part (section 12.4): the blocks' working copies, and the store's stored copies, are one of
these each. Places, slots, filters and masks are lists whose first element is number 1. -/
structure Records where
  lamps : PerBay (Option LampRecord)
  profiles : List (Option Profile)
  bookings : List (Option Booking)
  exceptions : List Exc
  master : Option String
  codes : List (Option Code)
  filters : List Filter
  masks : List Byte
  ceiling : LampMode
  limV : Nat
  limH : Nat
  settings : Settings
  deriving DecidableEq, Repr

/-! ## The blocks -/

/-- The input lines that hold a level between events: lit sense, ballast fault and lamp door of each bay, and the strap as it
was sampled at power-on (section 11.7). -/
structure Pins where
  lit : PerBay Bool
  ballast : PerBay Bool
  door : PerBay Bool
  strap : Bool
  deriving DecidableEq, Repr

/-- A write in progress: the record's key, the records as they stood when the write started, and the ports whose reply waits for its
end (R184). -/
structure WriteJob where
  key : RecKey
  snap : Records
  waiters : List CmdPort
  deriving DecidableEq, Repr

/-- A write that a command asked for and that waits to start (R184). -/
structure WriteReq where
  key : RecKey
  waiters : List CmdPort
  deriving DecidableEq, Repr

/-- The Settings Store (section 12.4). -/
structure Store where
  /-- the stored copies -/
  stored : Records
  /-- the records whose stored copy fails the integrity check -/
  unreadable : List RecKey
  /-- the unsaved set -/
  unsaved : List RecKey
  /-- the write in progress -/
  busy : Option WriteJob
  /-- waiting writes that commands asked for, oldest first -/
  cmdQ : List WriteReq
  /-- waiting writes of the Wear Counter, the Schedule Engine and power-on, oldest first -/
  ownQ : List RecKey
  deriving DecidableEq, Repr

/-- What the Lamp Controller holds for one bay (section 1.1). -/
structure BayCtl where
  st : BaySt
  /-- the state timer: the uptime at which it ends -/
  timer : Option Nat
  lastExt : Option Nat
  strikes : List Nat
  doorFlag : DoorFlag
  lastLoss : Option Nat
  lossBar : Option Nat
  /-- the waiter stamp: an uptime and the number of the event -/
  stamp : Option (Nat × Nat)
  causeMark : Bool
  /-- the LampLost condition: the uptime of the loss it measures from (R10) -/
  lampLost : Option Nat
  /-- the DoorOpen condition (R9) -/
  doorFault : Bool
  /-- the model's own: the uptime at which the bay last entered Warming, for R27 -/
  burnSince : Nat
  /-- the model's own: the uptime at which the bay last entered Lit, for R53 -/
  litSince : Nat
  /-- the model's own: the second boundary at which the bay's unsaved count last reached its top, for R36 -/
  topAt : Option Nat
  deriving DecidableEq, Repr

/-- The Lamp Controller (section 1.1). -/
structure LampCtl where
  bays : PerBay BayCtl
  count : Nat
  origin : DemandOrigin
  wanted : PerBay Bool
  igniter : Option Bay
  /-- the spacing: an uptime and the bay that left Striking (R17) -/
  spacing : Option (Nat × Bay)
  deriving DecidableEq, Repr

/-- What the Mode Unit holds for one bay (section 3.1). An absent effective mode is Off. -/
structure BayMode where
  effective : Option LampMode
  ecoSec : Nat
  ecoMin : Nat
  debt : Nat
  credit : Nat
  run : Nat
  override : Override
  deriving DecidableEq, Repr

/-- The Mode Unit (section 3.1); the default mode, the persistent ceiling and the interval are among the records. -/
structure ModeUnit where
  requested : LampMode
  temp : Option LampMode
  persistUsed : Bool
  bays : PerBay BayMode
  deriving DecidableEq, Repr

/-- The Heat Monitor (section 4.1). -/
structure Heat where
  housing : Option Int
  ambient : Option Int
  faultCount : Nat
  clearCount : Nat
  sensorFault : Bool
  level : Thermal
  atLeast78 : Nat
  atLeast92 : Nat
  below80 : Nat
  below70 : Nat
  hot : Bool
  atLeast35 : Nat
  below32 : Nat
  fan : Fan
  /-- the stall timer: the uptime it counts from, absent while it is stopped -/
  stallFrom : Option Nat
  stall : Bool
  deriving DecidableEq, Repr

/-- The latest sample of a port (section 5.1). -/
structure PortSample where
  present : Option Bool
  cls : Nat
  prev : Option Nat
  deriving DecidableEq, Repr

/-- A run of consecutive samples of one class (section 6.1). -/
structure Run where
  cls : Nat
  count : Nat
  deriving DecidableEq, Repr

/-- The in-flight switch request (section 6.1). -/
structure SwitchReq where
  port : VPort
  named : Option Nat
  origin : SwOrigin
  /-- the uptime at which the switch began -/
  start : Nat
  deriving DecidableEq, Repr

/-- The Source Selector (section 6.1). The Switch mute cause is derived. -/
structure Selector where
  st : SelSt
  port : VPort
  settledCls : Option Nat
  beforeLoss : Option Nat
  active : Option Nat
  named : Option Nat
  lossB : LossB
  req : Option SwitchReq
  lockRun : Run
  lossRun : Nat
  classRun : Run
  /-- the class-change timer: the uptime it counts from, absent while it is stopped -/
  classTimer : Option Nat
  /-- the NoSignal timer: the uptime of the NoSignal entry -/
  noSigFrom : Nat
  scanPort : VPort
  /-- the dwell timer: the uptime at which the dwell began -/
  dwellFrom : Nat
  muteLoss : Bool
  muteUser : Bool
  deriving DecidableEq, Repr

/-- A corner set (section 7.1). -/
structure Corners where
  tlX : Int
  tlY : Int
  trX : Int
  trY : Int
  brX : Int
  brY : Int
  blX : Int
  blY : Int
  aspect : Aspect
  deriving DecidableEq, Repr

/-- The Geometry Engine (section 7.1); the limits and the mount are among the records. -/
structure Geo where
  /-- the tilt ring, oldest first; an invalid reading is absent -/
  ring : List (Option Int)
  invalidRun : Nat
  /-- the TiltInvalid condition (R105) -/
  tiltInvalid : Bool
  applied : Int
  cand : Option Int
  agree : Nat
  imm : Bool
  vAdj : Int
  hAdj : Int
  v : Int
  h : Int
  clampV : Bool
  clampH : Bool
  computed : Corners
  appliedSet : Option Corners
  /-- the in-flight set and the uptime at which its reply window began -/
  inFlight : Option (Corners × Nat)
  nextSlot : Option Corners
  /-- the WarpNoReply condition (R113) -/
  warpNoReply : Bool
  deriving DecidableEq, Repr

/-- The hall clock: a date and a time of day in seconds (R120). -/
structure HallClock where
  date : Date
  secs : Nat
  deriving DecidableEq, Repr

/-- An occurrence record (section 9.1). -/
structure Occ where
  booking : Nat
  date : Date
  start : Nat
  stop : Nat
  grace : Nat
  phase : Phase
  raised : Bool
  late : Bool
  deriving DecidableEq, Repr

/-- The Schedule Engine; bookings, exceptions and settings are among the records. ClockValid is "the clock is present". -/
structure Sched where
  clock : Option HallClock
  /-- the model's own: the clock has entered a new minute whose edge is not yet taken (R120) -/
  minuteDue : Bool
  /-- the model's own: the clock has passed the last second of 2099-12-31 (R121) -/
  endDue : Bool
  active : Option Occ
  upcoming : Option Occ
  lastEnded : Option (Nat × Date)
  /-- the idle timer, in seconds -/
  idle : Nat
  deriving DecidableEq, Repr

/-- The Lock Unit; the codes and the idle lock are among the records. -/
structure LockUnit where
  maint : Bool
  unlocked : Bool
  unlockedBy : Option UnlockedBy
  attempts : Nat
  frozen : Bool
  deriving DecidableEq, Repr

/-- A reply that has not begun to be sent (R174, R184). -/
structure Waiting where
  orig : Byte
  words : List String
  /-- the address the reply carries, where it is not the unit address when the reply is sent (R176) -/
  addr : Option Nat
  /-- the writes it waits for -/
  outstanding : Nat
  /-- one of its writes has failed -/
  failed : Bool
  deriving DecidableEq, Repr

/-- One command port: its receiver, its waiting frames, its waiting reply and its transmitter. -/
structure Channel where
  /-- the characters of the open frame, absent while no frame is open (R168) -/
  rx : Option (List Char)
  /-- the uptime of the last character received -/
  lastChar : Nat
  /-- good frames that were classed and wait to be taken (R174) -/
  inbox : List (Sender × List String)
  reply : Option Waiting
  /-- the uptime until which the transmitter sends -/
  txUntil : Option Nat
  /-- the last frame sent -/
  sent : Option (List Char)
  deriving DecidableEq, Repr

/-- The Line Port and the Lectern Port; the filters, the masks and the address are among the records. -/
structure Comms where
  line : Channel
  lectern : Channel
  /-- the line error count (R173) -/
  errCount : Nat
  /-- the line state is Deaf (R173); Attentive and Guarded follow the count -/
  deaf : Bool
  /-- a RESTART that waits for the write in progress (R184) -/
  restartBy : Option Sender
  deriving DecidableEq, Repr

/-- The Fault Table: one entry per fault kind and subject (section 12.1). -/
structure FaultTable where
  strikeFailed : PerBay FaultSt
  lampFailed : PerBay FaultSt
  lampLost : PerBay FaultSt
  ballastFault : PerBay FaultSt
  doorOpen : PerBay FaultSt
  lampLow : PerBay FaultSt
  lampExhausted : PerBay FaultSt
  thermalWarn : FaultSt
  thermalShutdown : FaultSt
  housingSensor : FaultSt
  fanStall : FaultSt
  tiltInvalid : FaultSt
  warpNoReply : FaultSt
  storeFault : FaultSt
  lineDeaf : FaultSt
  noClock : FaultSt
  deriving DecidableEq, Repr

/-- A notice (section 12.2). Its priority follows from its kind; its age is its place in the queue. -/
structure Notice where
  kind : NoticeKind
  subject : Subject
  fields : List String
  deriving DecidableEq, Repr

/-- The Notice Queue, oldest place first (section 12.2). -/
structure NoticeQ where
  queue : List Notice
  overflow : Bool
  deriving DecidableEq, Repr

/-- The whole part. -/
structure State where
  /-- the commands and events that wait, first in, first out -/
  pending : List Instr
  /-- uptime, in milliseconds since power-on -/
  uptime : Nat
  /-- the model's own: how many events have been taken; the event half of a waiter stamp (R16) -/
  events : Nat
  /-- the model's own: how many free choices of order have been made -/
  choices : Nat
  /-- the model's own: the second boundaries LIT_SECOND has taken (R27) -/
  secondsDone : Nat
  /-- the model's own: the second boundaries CADENCE_COMPUTATION has taken (R107) -/
  cadenceDone : Nat
  pins : Pins
  /-- the blocks' working copies of the persistent records -/
  work : Records
  store : Store
  lamp : LampCtl
  /-- each bay's unsaved count (section 2.1) -/
  wear : PerBay Nat
  mode : ModeUnit
  heat : Heat
  /-- the latest sample of each port, P1 first -/
  ports : List PortSample
  sel : Selector
  geo : Geo
  sched : Sched
  lock : LockUnit
  comms : Comms
  faults : FaultTable
  notices : NoticeQ
  deriving DecidableEq, Repr

/-- Why the part would stop. No rule of the manual stops it, so no meaning raises one. -/
inductive Fault where
  /-- Never raised: every command and event of the manual ends in a next state. Safe. -/
  | neverRaised
  deriving DecidableEq, Repr

/-- Why a command would be refused by the model. -/
inductive Refusal where
  /-- Raised by `exec` for a row of the table that has no meaning yet; no row is so. Safe. -/
  | notModelled (mnemonic : String)
  deriving DecidableEq, Repr

/-! ## The state right after power-on of a part as shipped -/

/-- The hall settings as shipped (section 11.5). -/
def Settings.shipped : Settings :=
  { address := 1, plan := .single, mount := .floor, defmode := .standard, condint := 240, autoscan := true,
    prewarm := 3, grace := 10, idle := 20, idlelock := .panel }

/-- A filter that is shipped disabled (R171). -/
def Filter.unused : Filter := { code := 0x00, mask := 1, cls := .viewer, on := false }

/-- The records as shipped (R22, R49, R76, R115, R134, R159, R171). -/
def Records.shipped : Records :=
  { lamps := .both none
    profiles := List.replicate 16 none
    bookings := List.replicate 48 none
    exceptions := []
    master := none
    codes := List.replicate 8 none
    filters :=
      [{ code := 0xF0, mask := 2, cls := .facility, on := true },
       { code := 0xE0, mask := 2, cls := .operator, on := true },
       { code := 0x00, mask := 3, cls := .viewer, on := true },
       .unused, .unused, .unused, .unused, .unused]
    masks := [0xFF, 0xF0, 0x00]
    ceiling := .full
    limV := 40
    limH := 30
    settings := .shipped }

/-- A bay's part of the Lamp Controller after power-on, in a given state and with a given timer (R24). -/
def BayCtl.fresh (st : BaySt) (timer : Option Nat) : BayCtl :=
  { st := st, timer := timer, lastExt := none, strikes := [], doorFlag := .clear, lastLoss := none, lossBar := none,
    stamp := none, causeMark := false, lampLost := none, doorFault := false, burnSince := 0, litSince := 0,
    topAt := none }

/-- A bay's part of the Mode Unit with every counter at 0 (R60, R61). -/
def BayMode.fresh : BayMode :=
  { effective := none, ecoSec := 0, ecoMin := 0, debt := 0, credit := 0, run := 0, override := .none }

/-- The Heat Monitor after power-on, with the fan at Low (R71). -/
def Heat.fresh : Heat :=
  { housing := none, ambient := none, faultCount := 0, clearCount := 0, sensorFault := false, level := .normal,
    atLeast78 := 0, atLeast92 := 0, below80 := 0, below70 := 0, hot := false, atLeast35 := 0, below32 := 0,
    fan := .low, stallFrom := none, stall := false }

/-- A port before its first sample (R74). -/
def PortSample.fresh : PortSample := { present := none, cls := 0, prev := none }

/-- A run of no samples. -/
def Run.zero : Run := { cls := 0, count := 0 }

/-- The full panel: the corner set of V = 0 and H = 0 (R110). -/
def Corners.panel (aspect : Aspect) : Corners :=
  { tlX := 0, tlY := 0, trX := 1919, trY := 0, brX := 1919, brY := 1199, blX := 0, blY := 1199, aspect := aspect }

/-- A port with nothing received, waiting or sent. -/
def Channel.fresh : Channel :=
  { rx := none, lastChar := 0, inbox := [], reply := none, txUntil := none, sent := none }

/-- Every entry Clear (R180). -/
def FaultTable.clear : FaultTable :=
  { strikeFailed := .both .clear, lampFailed := .both .clear, lampLost := .both .clear, ballastFault := .both .clear,
    doorOpen := .both .clear, lampLow := .both .clear, lampExhausted := .both .clear, thermalWarn := .clear,
    thermalShutdown := .clear, housingSensor := .clear, fanStall := .clear, tiltInvalid := .clear,
    warpNoReply := .clear, storeFault := .clear, lineDeaf := .clear, noClock := .clear }

/-- The part right after power-on, as shipped: both bays Empty (R24), the selector in NoSignal on P1 with no profile (R102), the
first corner set on its way to the scaler (R118), the clock unset (R123), and the two LAMP notices of R24 queued. The input lines
are taken at their unasserted levels (notes/assumptions/4.md). -/
def State.reset : State :=
  { pending := []
    uptime := 0
    events := 0
    choices := 0
    secondsDone := 0
    cadenceDone := 0
    pins := { lit := .both false, ballast := .both false, door := .both false, strap := false }
    work := .shipped
    store := { stored := .shipped, unreadable := [], unsaved := [], busy := none, cmdQ := [], ownQ := [] }
    lamp := { bays := .both (.fresh .empty none), count := 0, origin := .powerOn, wanted := .both false,
              igniter := none, spacing := none }
    wear := .both 0
    mode := { requested := .standard, temp := none, persistUsed := false, bays := .both .fresh }
    heat := .fresh
    ports := List.replicate 8 .fresh
    sel := { st := .noSignal, port := .p1, settledCls := none, beforeLoss := none, active := none, named := none,
             lossB := .blank, req := none, lockRun := .zero, lossRun := 0, classRun := .zero, classTimer := none,
             noSigFrom := 0, scanPort := .p1, dwellFrom := 0, muteLoss := true, muteUser := false }
    geo := { ring := [none, none, none, none], invalidRun := 0, tiltInvalid := false, applied := 0, cand := none,
             agree := 0, imm := true, vAdj := 0, hAdj := 0, v := 0, h := 0, clampV := false, clampH := false,
             computed := .panel .r16x10, appliedSet := none, inFlight := some (.panel .r16x10, 0), nextSlot := none,
             warpNoReply := false }
    sched := { clock := none, minuteDue := false, endDue := false, active := none, upcoming := none, lastEnded := none,
               idle := 0 }
    lock := { maint := false, unlocked := false, unlockedBy := none, attempts := 5, frozen := false }
    comms := { line := .fresh, lectern := .fresh, errCount := 0, deaf := false, restartBy := none }
    faults := .clear
    notices := { queue := [⟨.lamp, .bay .bayA, ["EMPTY"]⟩, ⟨.lamp, .bay .bayB, ["EMPTY"]⟩], overflow := false } }

end Sys2Proof.Machine
end

