-- ==== Sys2Proof/Machine/Text.lean ====
section
/-! DEFINITION. Machine/Text.lean: the words of frames: numbers, hex digits, and the words each value is written with. -/

namespace Sys2Proof.Machine

/-! ## Reading -/

/-- The value of a decimal digit. -/
def digitVal (c : Char) : Option Nat :=
  if '0' ≤ c ∧ c ≤ '9' then some (c.toNat - '0'.toNat) else none

/-- The sixteen hex digits in the upper case that the part writes, in the order of their values (R169). -/
def hexDigits : List Char := "0123456789ABCDEF".toList

/-- The value of a hex digit, in either case (R169): its place among the sixteen. -/
def hexVal (c : Char) : Option Nat := hexDigits.idxOf? c.toUpper

/-- The number that a run of decimal digits adds to a value read so far. -/
def digitsVal : Nat → List Char → Option Nat
  | acc, [] => some acc
  | acc, c :: cs =>
    match digitVal c with
    | some d => digitsVal (acc * 10 + d) cs
    | none => none

/-- A whole number without a sign. -/
def natOfChars (cs : List Char) : Option Nat :=
  match cs with
  | [] => none
  | _ :: _ => digitsVal 0 cs

/-- A whole number without a sign. -/
def parseNat (w : String) : Option Nat := natOfChars w.toList

/-- A whole number with or without a leading + or - (section 5.6). -/
def parseInt (w : String) : Option Int :=
  match w.toList with
  | '+' :: cs => (natOfChars cs).map Int.ofNat
  | '-' :: cs => (natOfChars cs).map (fun n => -(Int.ofNat n))
  | cs => (natOfChars cs).map Int.ofNat

/-- A whole number within bounds. -/
def parseNatIn (lo hi : Nat) (w : String) : Option Nat :=
  match parseNat w with
  | some n => if lo ≤ n ∧ n ≤ hi then some n else none
  | none => none

/-- Two hex digits. -/
def hexOfChars (x y : Char) : Option Byte :=
  match hexVal x, hexVal y with
  | some i, some j => some (BitVec.ofNat 8 (i * 16 + j))
  | _, _ => none

/-- A word of two hex digits. -/
def parseHex (w : String) : Option Byte :=
  match w.toList with
  | [x, y] => hexOfChars x y
  | _ => none

/-- A printable character other than space and `*`. -/
def labelChar (c : Char) : Bool := 33 ≤ c.toNat && c.toNat ≤ 126 && c != '*'

/-- A label of 1 to `top` printable characters other than space and `*` (sections 2.1, 5.2, 8.2 and 10.1). -/
def isLabel (top : Nat) (w : String) : Bool :=
  let cs := w.toList
  1 ≤ cs.length && cs.length ≤ top && cs.all labelChar

/-- A code of `lo` to `hi` decimal digits. -/
def isDigits (lo hi : Nat) (w : String) : Bool :=
  let cs := w.toList
  lo ≤ cs.length && cs.length ≤ hi && cs.all (fun c => (digitVal c).isSome)

/-- The words of a body: its parts between single spaces. Two spaces together, or a space at the end, give an empty word. -/
def splitWords : List Char → List (List Char)
  | [] => [[]]
  | c :: cs =>
    if c = ' ' then [] :: splitWords cs
    else
      match splitWords cs with
      | w :: ws => (c :: w) :: ws
      | [] => [[c]]

/-! ## Writing -/

/-- Words joined by single spaces. -/
def joinWords : List String → List Char
  | [] => []
  | [w] => w.toList
  | w :: ws => w.toList ++ ' ' :: joinWords ws

/-- Strings joined one after the other. -/
def joinStrings : List String → String
  | [] => ""
  | w :: ws => w ++ joinStrings ws

/-- Strings joined by commas. -/
def joinCommas : List String → String
  | [] => ""
  | [w] => w
  | w :: ws => w ++ "," ++ joinCommas ws

/-- A whole number. -/
def showNat (n : Nat) : String := toString n

/-- A signed whole number. -/
def showInt (i : Int) : String := toString i

/-- Two decimal digits. -/
def show2 (n : Nat) : String := if n < 10 then "0" ++ toString n else toString n

/-- One upper-case hex digit (R169). -/
def hexDigit (n : Nat) : Char := hexDigits.getD n '0'

/-- Two upper-case hex digits. -/
def hexChars (b : Byte) : List Char := [hexDigit (b.toNat / 16), hexDigit (b.toNat % 16)]

/-- Two upper-case hex digits. -/
def showHex (b : Byte) : String := String.ofList (hexChars b)

/-- YES or NO. -/
def showYes (x : Bool) : String := if x then "YES" else "NO"

/-- ON or OFF. -/
def showOn (x : Bool) : String := if x then "ON" else "OFF"

/-- ASSERTED or RELEASED. -/
def showLine (x : Bool) : String := if x then "ASSERTED" else "RELEASED"

/-- A value's word, or NONE. -/
def showOpt {α : Type} (f : α → String) : Option α → String
  | some x => f x
  | none => "NONE"

/-! ## The words of the values -/

def showBay : Bay → String
  | .bayA => "A"
  | .bayB => "B"

def parseBay : String → Option Bay
  | "A" => some .bayA
  | "B" => some .bayB
  | _ => none

/-- The words of the bay states (R1). -/
def showBaySt : BaySt → String
  | .empty => "EMPTY"
  | .dark => "DARK"
  | .striking => "STRIKING"
  | .warming => "WARMING"
  | .lit => "LIT"
  | .cooling => "COOLING"
  | .rest => "REST"
  | .failed => "FAILED"

def showOrigin : DemandOrigin → String
  | .presenter => "PRESENTER"
  | .operator => "OPERATOR"
  | .facility => "FACILITY"
  | .schedule => "SCHEDULE"
  | .idle => "IDLE"
  | .heat => "HEAT"
  | .maint => "MAINT"
  | .restart => "RESTART"
  | .powerOn => "POWERON"

def showDoorFlag : DoorFlag → String
  | .clear => "CLEAR"
  | .opened => "OPENED"
  | .cycled => "CYCLED"

def showStage : Stage → String
  | .good => "GOOD"
  | .low => "LOW"
  | .spent => "SPENT"
  | .exhausted => "EXHAUSTED"

def showMode : LampMode → String
  | .eco => "ECO"
  | .standard => "STANDARD"
  | .full => "FULL"

def parseMode : String → Option LampMode
  | "ECO" => some .eco
  | "STANDARD" => some .standard
  | "FULL" => some .full
  | _ => none

/-- The word of an effective mode: a mode, or OFF. -/
def showEff : Option LampMode → String
  | some m => showMode m
  | none => "OFF"

def showOverride : Override → String
  | .none => "NONE"
  | .normal => "NORMAL"
  | .forced => "FORCED"

def showThermal : Thermal → String
  | .normal => "NORMAL"
  | .warn => "WARN"
  | .shutdown => "SHUTDOWN"

def showFan : Fan → String
  | .low => "LOW"
  | .normal => "NORMAL"
  | .high => "HIGH"

def VPort.all : List VPort := [.p1, .p2, .p3, .p4, .p5, .p6, .p7, .p8]

def VPort.idx : VPort → Nat
  | .p1 => 0
  | .p2 => 1
  | .p3 => 2
  | .p4 => 3
  | .p5 => 4
  | .p6 => 5
  | .p7 => 6
  | .p8 => 7

def showPort : VPort → String
  | .p1 => "P1"
  | .p2 => "P2"
  | .p3 => "P3"
  | .p4 => "P4"
  | .p5 => "P5"
  | .p6 => "P6"
  | .p7 => "P7"
  | .p8 => "P8"

def parsePort : String → Option VPort
  | "P1" => some .p1
  | "P2" => some .p2
  | "P3" => some .p3
  | "P4" => some .p4
  | "P5" => some .p5
  | "P6" => some .p6
  | "P7" => some .p7
  | "P8" => some .p8
  | _ => none

def showAspect : Aspect → String
  | .r16x10 => "16:10"
  | .r16x9 => "16:9"
  | .r4x3 => "4:3"

def parseAspect : String → Option Aspect
  | "16:10" => some .r16x10
  | "16:9" => some .r16x9
  | "4:3" => some .r4x3
  | _ => none

def showLoss : LossB → String
  | .hold => "HOLD"
  | .blank => "BLANK"

def parseLoss : String → Option LossB
  | "HOLD" => some .hold
  | "BLANK" => some .blank
  | _ => none

def parseOn : String → Option Bool
  | "ON" => some true
  | "OFF" => some false
  | _ => none

def parseYes : String → Option Bool
  | "YES" => some true
  | "NO" => some false
  | _ => none

/-- The words of the selector states (R100). -/
def showSelSt : SelSt → String
  | .settled => "SETTLED"
  | .switching => "SWITCHING"
  | .noSignal => "NOSIGNAL"
  | .scanning => "SCANNING"

def showSwOrigin : SwOrigin → String
  | .facility => "FACILITY"
  | .operator => "OPERATOR"
  | .schedule => "SCHEDULE"
  | .presenter => "PRESENTER"

def showMount : Mount → String
  | .floor => "FLOOR"
  | .ceiling => "CEILING"

def parseMount : String → Option Mount
  | "FLOOR" => some .floor
  | "CEILING" => some .ceiling
  | _ => none

def showPlan : Plan → String
  | .single => "SINGLE"
  | .dual => "DUAL"

def parsePlan : String → Option Plan
  | "SINGLE" => some .single
  | "DUAL" => some .dual
  | _ => none

def Weekday.all : List Weekday := [.mon, .tue, .wed, .thu, .fri, .sat, .sun]

/-- The words of the weekdays (R120). -/
def showWeekday : Weekday → String
  | .mon => "MON"
  | .tue => "TUE"
  | .wed => "WED"
  | .thu => "THU"
  | .fri => "FRI"
  | .sat => "SAT"
  | .sun => "SUN"

def parseWeekday : String → Option Weekday
  | "MON" => some .mon
  | "TUE" => some .tue
  | "WED" => some .wed
  | "THU" => some .thu
  | "FRI" => some .fri
  | "SAT" => some .sat
  | "SUN" => some .sun
  | _ => none

def showBookLock : BookLock → String
  | .lockOpen => "OPEN"
  | .panel => "PANEL"
  | .exam => "EXAM"

def parseBookLock : String → Option BookLock
  | "OPEN" => some .lockOpen
  | "PANEL" => some .panel
  | "EXAM" => some .exam
  | _ => none

def showIdleLock : IdleLock → String
  | .lockOpen => "OPEN"
  | .panel => "PANEL"

def parseIdleLock : String → Option IdleLock
  | "OPEN" => some .lockOpen
  | "PANEL" => some .panel
  | _ => none

def showLevel : LockLevel → String
  | .levelOpen => "OPEN"
  | .panel => "PANEL"
  | .exam => "EXAM"
  | .maintenance => "MAINTENANCE"

def showPhase : Phase → String
  | .prewarm => "PREWARM"
  | .running => "RUNNING"
  | .grace => "GRACE"

def showBy : Option UnlockedBy → String
  | some (.slot n) => showNat n
  | some .master => "MASTER"
  | none => "NONE"

def showCls : Cls → String
  | .viewer => "VIEWER"
  | .presenter => "PRESENTER"
  | .operator => "OPERATOR"
  | .facility => "FACILITY"

def parseCls : String → Option Cls
  | "VIEWER" => some .viewer
  | "PRESENTER" => some .presenter
  | "OPERATOR" => some .operator
  | "FACILITY" => some .facility
  | _ => none

def parseMaskNo : String → Option Nat
  | "M1" => some 1
  | "M2" => some 2
  | "M3" => some 3
  | _ => none

/-- The word of a fault kind: capitals without spaces (section 12.1). -/
def showFaultKind : FaultId → String
  | .strikeFailed _ => "STRIKEFAILED"
  | .lampFailed _ => "LAMPFAILED"
  | .lampLost _ => "LAMPLOST"
  | .ballastFault _ => "BALLASTFAULT"
  | .doorOpen _ => "DOOROPEN"
  | .lampLow _ => "LAMPLOW"
  | .lampExhausted _ => "LAMPEXHAUSTED"
  | .thermalWarn => "THERMALWARN"
  | .thermalShutdown => "THERMALSHUTDOWN"
  | .housingSensor => "HOUSINGSENSOR"
  | .fanStall => "FANSTALL"
  | .tiltInvalid => "TILTINVALID"
  | .warpNoReply => "WARPNOREPLY"
  | .storeFault => "STOREFAULT"
  | .lineDeaf => "LINEDEAF"
  | .noClock => "NOCLOCK"

/-- The bay of a bay entry. -/
def FaultId.bay? : FaultId → Option Bay
  | .strikeFailed b | .lampFailed b | .lampLost b | .ballastFault b | .doorOpen b | .lampLow b | .lampExhausted b => some b
  | _ => none

/-- An entry's word: a bay entry takes a slash and the bay letter (section 12.1). -/
def showFault (f : FaultId) : String :=
  match f.bay? with
  | some b => showFaultKind f ++ "/" ++ showBay b
  | none => showFaultKind f

def showFaultSt : FaultSt → String
  | .clear => "CLEAR"
  | .active => "ACTIVE"
  | .latched => "LATCHED"

def showKind : NoticeKind → String
  | .fault => "FAULT"
  | .heat => "HEAT"
  | .lamp => "LAMP"
  | .lock => "LOCK"
  | .booking => "BOOKING"
  | .source => "SOURCE"
  | .life => "LIFE"

/-- The word of a notice's subject (section 12.2). -/
def showSubject : Subject → String
  | .fault f => showFault f
  | .housing => "HOUSING"
  | .ambient => "AMBIENT"
  | .bay b => showBay b
  | .level => "LEVEL"
  | .upcoming => "UPCOMING"
  | .active => "ACTIVE"
  | .selector => "SELECTOR"

/-- The word of a hall setting's name (section 11.5). -/
def showSetting : SettingName → String
  | .address => "ADDRESS"
  | .plan => "PLAN"
  | .mount => "MOUNT"
  | .defmode => "DEFMODE"
  | .condint => "CONDINT"
  | .autoscan => "AUTOSCAN"
  | .prewarm => "PREWARM"
  | .grace => "GRACE"
  | .idle => "IDLE"
  | .idlelock => "IDLELOCK"

def parseSetting : String → Option SettingName
  | "ADDRESS" => some .address
  | "PLAN" => some .plan
  | "MOUNT" => some .mount
  | "DEFMODE" => some .defmode
  | "CONDINT" => some .condint
  | "AUTOSCAN" => some .autoscan
  | "PREWARM" => some .prewarm
  | "GRACE" => some .grace
  | "IDLE" => some .idle
  | "IDLELOCK" => some .idlelock
  | _ => none

end Sys2Proof.Machine
end

