-- ==== Sys2Proof/Machine/Calendar.lean ====
section
/-! DEFINITION. Machine/Calendar.lean: dates, weekdays and times of day (section "Time", R120, R124). -/

namespace Sys2Proof.Machine

/-- The days of each month; `leap` says whether February has 29 (R120). -/
def monthDays (leap : Bool) : List Nat := [31, if leap then 29 else 28, 31, 30, 31, 30, 31, 31, 30, 31, 30, 31]

/-- The days before a year of 2000..2099, counted from 2000-01-01: a year divisible by 4 is a leap year (R120). -/
def daysBeforeYear (y : Nat) : Nat := (y - 2000) * 365 + (y - 2000 + 3) / 4

/-- The date of a year, month and day that exist in the calendar of 2000..2099. -/
def dateOf (y m d : Nat) : Option Date :=
  let len := (monthDays (y % 4 == 0)).getD (m - 1) 0
  if 2000 ≤ y ∧ y ≤ 2099 ∧ 1 ≤ m ∧ m ≤ 12 ∧ 1 ≤ d ∧ d ≤ len then
    some (daysBeforeYear y + ((monthDays (y % 4 == 0)).take (m - 1)).sum + (d - 1))
  else none

/-- The year of a date: every four years hold 1461 days, the leap year first. -/
def yearOf (d : Date) : Nat :=
  let r := d % 1461
  2000 + 4 * (d / 1461) + (if r < 366 then 0 else 1 + (r - 366) / 365)

/-- The month and the day of the month of a day counted from the first of a month. -/
def monthDay : List Nat → Nat → Nat → Nat × Nat
  | [], m, r => (m, r + 1)
  | l :: ls, m, r => if r < l then (m, r + 1) else monthDay ls (m + 1) (r - l)

/-- The weekday of a date: 2000-01-01 was a Saturday (R120). -/
def weekdayOf (d : Date) : Weekday :=
  match d % 7 with
  | 0 => .sat
  | 1 => .sun
  | 2 => .mon
  | 3 => .tue
  | 4 => .wed
  | 5 => .thu
  | _ => .fri

/-- A date written YYYY-MM-DD. -/
def showDate (d : Date) : String :=
  let y := yearOf d
  let md := monthDay (monthDays (y % 4 == 0)) 1 (d - daysBeforeYear y)
  toString y ++ "-" ++ show2 md.1 ++ "-" ++ show2 md.2

/-- Whether a word has the form YYYY-MM-DD, whether or not the date exists. -/
def dateForm (w : String) : Option (Nat × Nat × Nat) :=
  match w.toList with
  | [y1, y2, y3, y4, '-', m1, m2, '-', d1, d2] =>
    match natOfChars [y1, y2, y3, y4], natOfChars [m1, m2], natOfChars [d1, d2] with
    | some y, some m, some d => some (y, m, d)
    | _, _, _ => none
  | _ => none

/-- A date that exists and lies in 2000-01-01..2099-12-31. -/
def parseDate (w : String) : Option Date :=
  match dateForm w with
  | some (y, m, d) => dateOf y m d
  | none => none

/-- A time of day HH:MM:SS, in seconds (R122). -/
def parseTime (w : String) : Option Nat :=
  match w.toList with
  | [h1, h2, ':', m1, m2, ':', s1, s2] =>
    match natOfChars [h1, h2], natOfChars [m1, m2], natOfChars [s1, s2] with
    | some h, some m, some s => if h < 24 ∧ m < 60 ∧ s < 60 then some (h * 3600 + m * 60 + s) else none
    | _, _, _ => none
  | _ => none

/-- A time HH:MM, in minutes, from 00:00 to 24:00. -/
def parseMinute (w : String) : Option Nat :=
  match w.toList with
  | [h1, h2, ':', m1, m2] =>
    match natOfChars [h1, h2], natOfChars [m1, m2] with
    | some h, some m => if m < 60 ∧ h * 60 + m ≤ 1440 then some (h * 60 + m) else none
    | _, _ => none
  | _ => none

/-- A minute written HH:MM; minute 1440 is 24:00. -/
def showMinute (m : Nat) : String := show2 (m / 60) ++ ":" ++ show2 (m % 60)

/-- The end of a Grace window, written HH:MM, with +1 when it lies on the next date (R153). An end at minute 1440 itself is written
00:00+1, as a minute of the next date (DESIGN CHOICE, notes/assumptions/34.md). -/
def showUntil (m : Nat) : String := if m < 1440 then showMinute m else showMinute (m - 1440) ++ "+1"

/-- A time of day HH:MM:SS. -/
def showTime (s : Nat) : String := show2 (s / 3600) ++ ":" ++ show2 (s / 60 % 60) ++ ":" ++ show2 (s % 60)

end Sys2Proof.Machine
end

