-- ==== Sys2Proof/Machine/Ops.lean ====
section
/-! DEFINITION. Machine/Ops.lean: the named reads of the state that several blocks share (the stage of a lamp, the lock level, the
ceilings, the mute causes, the strike conditions), the placing of a notice, and the asking for a write of the Settings Store. -/

namespace Sys2Proof.Machine

/-! ## Places, bays and records -/

/-- The record at a place numbered from 1. -/
def place {α : Type} (l : List (Option α)) : Nat → Option α
  | 0 => none
  | k + 1 => l.getD k none

/-- The list with the record at a place numbered from 1 replaced. -/
def setPlace {α : Type} (l : List (Option α)) : Nat → Option α → List (Option α)
  | 0, _ => l
  | k + 1, v => l.set k v

/-- The numbers of the filled places, in ascending order. -/
def filledFrom {α : Type} : Nat → List (Option α) → List Nat
  | _, [] => []
  | n, some _ :: l => n :: filledFrom (n + 1) l
  | n, none :: l => filledFrom (n + 1) l

/-- The numbers of the filled places, in ascending order. -/
def filled {α : Type} (l : List (Option α)) : List Nat := filledFrom 1 l

/-- The lowest numbered empty place. -/
def firstEmpty {α : Type} : Nat → List (Option α) → Option Nat
  | _, [] => none
  | n, none :: _ => some n
  | n, some _ :: l => firstEmpty (n + 1) l

/-- What the Lamp Controller holds for a bay. -/
def bay (s : State) (b : Bay) : BayCtl := s.lamp.bays.get b

/-- The state with a bay's part of the Lamp Controller changed. -/
def modBay (b : Bay) (f : BayCtl → BayCtl) (s : State) : State :=
  { s with lamp := { s.lamp with bays := s.lamp.bays.set b (f (s.lamp.bays.get b)) } }

/-- A bay's lamp record, from the working records. -/
def lampRec (s : State) (b : Bay) : Option LampRecord := s.work.lamps.get b

/-- The state with a bay's lamp record replaced. -/
def setLampRec (b : Bay) (r : Option LampRecord) (s : State) : State :=
  { s with work := { s.work with lamps := s.work.lamps.set b r } }

/-- What the Mode Unit holds for a bay. -/
def bayMode (s : State) (b : Bay) : BayMode := s.mode.bays.get b

/-- The state with a bay's part of the Mode Unit changed. -/
def modBayMode (b : Bay) (f : BayMode → BayMode) (s : State) : State :=
  { s with mode := { s.mode with bays := s.mode.bays.set b (f (s.mode.bays.get b)) } }

/-- A bay that is Warming or Lit (section 1.1). -/
def BaySt.burning : BaySt → Bool
  | .warming | .lit => true
  | _ => false

/-- A bay that is Striking, Warming or Lit. -/
def BaySt.inUse : BaySt → Bool
  | .striking | .warming | .lit => true
  | _ => false

/-! ## Wear -/

/-- The rated quarter-units RQ (section 2.1). -/
def ratedUnits (r : LampRecord) : Nat := r.ratedLife * 240

/-- The per-mille P (R32). -/
def perMilleOf (r : LampRecord) : Nat := min 1999 (r.wear * 1000 / ratedUnits r)

/-- The stage that a per-mille gives (R33). -/
def stageAt (p : Nat) : Stage :=
  if p < 900 then .good else if p < 1000 then .low else if p < 1100 then .spent else .exhausted

/-- The stage of a record (R33). -/
def stageOfRec (r : LampRecord) : Stage := stageAt (perMilleOf r)

/-- A bay's per-mille; an Empty bay has none and counts as 0. -/
def perMille (s : State) (b : Bay) : Nat :=
  match lampRec s b with
  | some r => perMilleOf r
  | none => 0

/-- The stage of the lamp in a bay. -/
def stageOf (s : State) (b : Bay) : Option Stage := (lampRec s b).map stageOfRec

/-! ## The lock level and who may do what -/

/-- The booking whose occurrence is Running, as the Schedule Engine publishes it (R137). -/
def runningBooking (s : State) : Option Booking :=
  match s.sched.active with
  | some o => if o.phase = .running then place s.work.bookings o.booking else none
  | none => none

/-- The level that a booking's lock gives (R154). -/
def BookLock.level : BookLock → LockLevel
  | .lockOpen => .levelOpen
  | .panel => .panel
  | .exam => .exam

/-- The level that the idle lock gives (R154). -/
def IdleLock.level : IdleLock → LockLevel
  | .lockOpen => .levelOpen
  | .panel => .panel

/-- The lock level (R154). -/
def lockLevel (s : State) : LockLevel :=
  if s.lock.maint then .maintenance
  else
    match runningBooking s with
    | some bk => bk.lock.level
    | none => s.work.settings.idlelock.level

/-- The presenter level (R157). -/
def presenterLevel (s : State) : LockLevel :=
  match lockLevel s with
  | .panel => if s.lock.unlocked then .levelOpen else .panel
  | .exam => if s.lock.unlocked then .levelOpen else .exam
  | l => l

/-- Whether the lock level refuses a sender a command that changes state (R157, R158): a Presenter needs the presenter level
Open, an Operator any level but Maintenance, and a Facility sender is never refused. -/
def lockedOut (s : State) (c : Cls) : Bool :=
  match c with
  | .viewer => false
  | .presenter => presenterLevel s != .levelOpen
  | .operator => lockLevel s == .maintenance
  | .facility => false

/-- Whether Maintenance refuses a sender one of MUTE and RELOCK, which every other level allows (R98, R156, R157). -/
def maintOut (s : State) (c : Cls) : Bool :=
  match c with
  | .presenter | .operator => lockLevel s == .maintenance
  | _ => false

/-- Whether the Running occurrence's booking lock is EXAM (R137). -/
def examRunning (s : State) : Bool :=
  match runningBooking s with
  | some bk => bk.lock == .exam
  | none => false

/-! ## Modes and ceilings -/

/-- The place of a mode in the order Eco < Standard < Full. -/
def LampMode.rank : LampMode → Nat
  | .eco => 0
  | .standard => 1
  | .full => 2

/-- The lower of two modes. -/
def LampMode.lower (x y : LampMode) : LampMode := if x.rank ≤ y.rank then x else y

/-- The thermal ceiling; at Shutdown there is none (R51). -/
def thermalCeiling (s : State) : Option LampMode :=
  if s.heat.level = .shutdown then none
  else if s.heat.level = .warn ∨ s.heat.sensorFault ∨ s.heat.stall then some .eco
  else some .full

/-- The facility ceiling in force (R49). -/
def facilityCeiling (s : State) : LampMode := s.mode.temp.getD s.work.ceiling

/-- The interval in force, in eco-minutes (R54). -/
def intervalInForce (s : State) : Nat := if s.heat.hot then s.work.settings.condint / 2 else s.work.settings.condint

/-! ## Eligibility and the strike conditions -/

/-- A bay's loss bar is absent or past (R12). -/
def barClear (s : State) (b : Bay) : Bool :=
  match (bay s b).lossBar with
  | some t => t ≤ s.uptime
  | none => true

/-- The lamp in a bay may be chosen: installed, Failed flag clear, not Exhausted (R12). -/
def lampUsable (s : State) (b : Bay) : Bool :=
  match lampRec s b with
  | some r => !r.failed && stageOfRec r != .exhausted
  | none => false

/-- An eligible bay (R12): a usable lamp with no loss bar, or a bay in Striking, Warming or Lit that is already wanted. -/
def eligible (s : State) (b : Bay) : Bool :=
  (s.lamp.wanted.get b && (bay s b).st.inUse) || (lampUsable s b && barClear s b)

/-- 150 s have passed since power-on, and since the bay's last extinguish (condition 9 of R2). -/
def holdoffOver (s : State) (b : Bay) : Bool :=
  decide (holdoff ≤ s.uptime) &&
    match (bay s b).lastExt with
    | some t => t + holdoff ≤ s.uptime
    | none => true

/-- The strike conditions of R2: the bay is a waiter for the igniter exactly while they hold. -/
def strikeReady (s : State) (b : Bay) : Bool :=
  s.lamp.wanted.get b && (bay s b).st == .dark && decide ((bay s b).strikes.length < 4) && !s.pins.door.get b &&
    !s.pins.ballast.get b && s.heat.level != .shutdown && lockLevel s != .maintenance &&
    stageOf s b != some .exhausted && holdoffOver s b

/-- The number of wanted bays. -/
def wantedCount (s : State) : Nat := (if s.lamp.wanted.a then 1 else 0) + (if s.lamp.wanted.b then 1 else 0)

/-- The shortfall (R14). -/
def shortfall (s : State) : Nat := s.lamp.count - wantedCount s

/-! ## Mute causes and output lines -/

/-- The Switch cause: Switching, Scanning, or the class-change timer running (R88). -/
def muteSwitch (s : State) : Bool :=
  s.sel.st == .switching || s.sel.st == .scanning || s.sel.classTimer.isSome

/-- The words of the mute causes in force (R98). -/
def muteWords (s : State) : List String :=
  let l := (if muteSwitch s then ["SWITCH"] else []) ++ (if s.sel.muteLoss then ["LOSS"] else []) ++
    (if s.sel.muteUser then ["USER"] else [])
  if l.isEmpty then ["NONE"] else l

/-- The image mute line (R88). -/
def muteLine (s : State) : Bool := muteSwitch s || s.sel.muteLoss || s.sel.muteUser

/-- The port that the port select lines select (R87). -/
def selectedLine (s : State) : VPort :=
  match s.sel.st, s.sel.req with
  | .switching, some r => r.port
  | .scanning, _ => s.sel.scanPort
  | _, _ => s.sel.port

/-- The strike line of a bay (R1). -/
def strikeLine (s : State) (b : Bay) : Bool := (bay s b).st == .striking

/-- The mode lines of a bay; absent is Off (R1). -/
def modeLines (s : State) (b : Bay) : Option LampMode :=
  if (bay s b).st.burning then (bayMode s b).effective else none

/-! ## Profiles -/

/-- The profile at a place. -/
def profileAt (s : State) (n : Nat) : Option Profile := place s.work.profiles n

/-- The record of a profile place, or none. -/
def profileOf (s : State) (n : Option Nat) : Option Profile := n.bind (profileAt s)

/-- The place of the first profile with a port and a class (R79). -/
def findKey : Nat → List (Option Profile) → VPort → Option Nat → Option Nat
  | _, [], _, _ => none
  | n, some p :: l, port, c => if p.port = port ∧ p.cls = c then some n else findKey (n + 1) l port c
  | n, none :: l, port, c => findKey (n + 1) l port c

/-- The lookup of R79: the profile of the port and the class, otherwise the port's ANY profile, otherwise none. -/
def lookup (s : State) (port : VPort) (c : Nat) : Option Nat :=
  match (if c = 0 then none else findKey 1 s.work.profiles port (some c)) with
  | some n => some n
  | none => findKey 1 s.work.profiles port none

/-- The profile's hold on loss, or BLANK under the built-in defaults (R78). -/
def lossOf (s : State) (n : Option Nat) : LossB :=
  match profileOf s n with
  | some p => p.loss
  | none => .blank

/-! ## Notices -/

/-- The priority of a notice (R181). -/
def NoticeKind.prio : NoticeKind → Nat
  | .fault | .heat => 3
  | .lamp | .lock | .booking => 2
  | .source | .life => 1

/-- Two notices of the same kind and subject. -/
def Notice.same (x y : Notice) : Bool := x.kind == y.kind && x.subject == y.subject

/-- The lowest priority queued, or 4 for an empty queue. -/
def lowestPrio (q : List Notice) : Nat := q.foldr (fun n m => min n.kind.prio m) 4

/-- The queue without the newest entry of a priority. -/
def dropNewest (p : Nat) (q : List Notice) : List Notice := (q.reverse.eraseP (fun n => n.kind.prio == p)).reverse

/-- The queue after a notice is placed (R181). -/
def NoticeQ.put (n : Notice) (q : NoticeQ) : NoticeQ :=
  if q.queue.any n.same then { q with queue := q.queue.map (fun m => if n.same m then n else m) }
  else if q.queue.length < 8 then { q with queue := q.queue ++ [n] }
  else if lowestPrio q.queue < n.kind.prio then
    { queue := dropNewest (lowestPrio q.queue) q.queue ++ [n], overflow := true }
  else { q with overflow := true }

/-- A block places a notice. -/
def notify (k : NoticeKind) (sub : Subject) (fields : List String) (s : State) : State :=
  { s with notices := s.notices.put ⟨k, sub, fields⟩ }

/-- The LAMP notice of a bay's entry to Lit, Dark, Failed or Empty (R1). -/
def lampNotice (b : Bay) (st : BaySt) (s : State) : State := notify .lamp (.bay b) [showBaySt st] s

/-! ## The Settings Store -/

/-- One hall setting taken from other settings. -/
def copySetting (k : SettingName) (src dst : Settings) : Settings :=
  match k with
  | .address => { dst with address := src.address }
  | .plan => { dst with plan := src.plan }
  | .mount => { dst with mount := src.mount }
  | .defmode => { dst with defmode := src.defmode }
  | .condint => { dst with condint := src.condint }
  | .autoscan => { dst with autoscan := src.autoscan }
  | .prewarm => { dst with prewarm := src.prewarm }
  | .grace => { dst with grace := src.grace }
  | .idle => { dst with idle := src.idle }
  | .idlelock => { dst with idlelock := src.idlelock }

/-- One element of a list, numbered from 1, taken from another list. -/
def copyNth {α : Type} (n : Nat) (src dst : List α) : List α :=
  match n with
  | 0 => dst
  | k + 1 =>
    match src[k]? with
    | some v => dst.set k v
    | none => dst

/-- One record taken from other records. -/
def copyRec (k : RecKey) (src dst : Records) : Records :=
  match k with
  | .lamp b => { dst with lamps := dst.lamps.set b (src.lamps.get b) }
  | .profile n => { dst with profiles := copyNth n src.profiles dst.profiles }
  | .booking n => { dst with bookings := copyNth n src.bookings dst.bookings }
  | .exceptions => { dst with exceptions := src.exceptions }
  | .master => { dst with master := src.master }
  | .code n => { dst with codes := copyNth n src.codes dst.codes }
  | .filter n => { dst with filters := copyNth n src.filters dst.filters }
  | .mask n => { dst with masks := copyNth n src.masks dst.masks }
  | .ceiling => { dst with ceiling := src.ceiling }
  | .limits => { dst with limV := src.limV, limH := src.limH }
  | .setting k => { dst with settings := copySetting k src.settings dst.settings }

/-- A set kept as a list without repeats. -/
def addKey (k : RecKey) (l : List RecKey) : List RecKey := if k ∈ l then l else l ++ [k]

/-- A write starts: it takes the record's values as they stand, and a lamp record's unsaved count becomes 0 (R36, R184). -/
def beginWrite (k : RecKey) (ws : List CmdPort) (s : State) : State :=
  let s1 := { s with store := { s.store with busy := some ⟨k, s.work, ws⟩ } }
  match k with
  | .lamp b => { s1 with wear := s1.wear.set b 0 }
  | _ => s1

/-- With no write in progress, the next waiting write starts: those asked for by commands first (R184). -/
def startWrite (s : State) : State :=
  match s.store.busy with
  | some _ => s
  | none =>
    match s.store.cmdQ with
    | r :: rs => beginWrite r.key r.waiters { s with store := { s.store with cmdQ := rs } }
    | [] =>
      match s.store.ownQ with
      | k :: ks => beginWrite k [] { s with store := { s.store with ownQ := ks } }
      | [] => s

/-- Whether a write of a record waits to start. -/
def writeWaits (s : State) (k : RecKey) : Bool := s.store.cmdQ.any (fun r => r.key == k) || s.store.ownQ.contains k

/-- A block asks for a write of its own. A record that already waits is written once (R184). -/
def askOwn (k : RecKey) (s : State) : State :=
  if writeWaits s k then s
  else startWrite { s with store := { s.store with ownQ := s.store.ownQ ++ [k] } }

/-- A command asks for a write, and the reply on a port waits for it. A record that already waits is written once, and is then
among the writes that commands asked for (R184). -/
def askFor (w : List CmdPort) (k : RecKey) (s : State) : State :=
  if s.store.cmdQ.any (fun r => r.key == k) then
    { s with store := { s.store with
        cmdQ := s.store.cmdQ.map (fun r => if r.key == k then { r with waiters := r.waiters ++ w } else r) } }
  else
    startWrite { s with store := { s.store with ownQ := s.store.ownQ.erase k, cmdQ := s.store.cmdQ ++ [⟨k, w⟩] } }

end Sys2Proof.Machine
end

