-- ==== Sys2Proof/Machine/Flags.lean ====
section
/-! DEFINITION. Machine/Flags.lean: the Fault Table: the condition of each entry, how an entry moves, the report lines, and the
FAULT notices (sections 12.1, R178, R180). -/

namespace Sys2Proof.Machine

/-- The entry of a fault kind and subject. -/
def FaultTable.get (t : FaultTable) : FaultId → FaultSt
  | .strikeFailed b => t.strikeFailed.get b
  | .lampFailed b => t.lampFailed.get b
  | .lampLost b => t.lampLost.get b
  | .ballastFault b => t.ballastFault.get b
  | .doorOpen b => t.doorOpen.get b
  | .lampLow b => t.lampLow.get b
  | .lampExhausted b => t.lampExhausted.get b
  | .thermalWarn => t.thermalWarn
  | .thermalShutdown => t.thermalShutdown
  | .housingSensor => t.housingSensor
  | .fanStall => t.fanStall
  | .tiltInvalid => t.tiltInvalid
  | .warpNoReply => t.warpNoReply
  | .storeFault => t.storeFault
  | .lineDeaf => t.lineDeaf
  | .noClock => t.noClock

/-- The table whose entries a rule gives. -/
def FaultTable.make (f : FaultId → FaultSt) : FaultTable :=
  { strikeFailed := .make (fun b => f (.strikeFailed b))
    lampFailed := .make (fun b => f (.lampFailed b))
    lampLost := .make (fun b => f (.lampLost b))
    ballastFault := .make (fun b => f (.ballastFault b))
    doorOpen := .make (fun b => f (.doorOpen b))
    lampLow := .make (fun b => f (.lampLow b))
    lampExhausted := .make (fun b => f (.lampExhausted b))
    thermalWarn := f .thermalWarn
    thermalShutdown := f .thermalShutdown
    housingSensor := f .housingSensor
    fanStall := f .fanStall
    tiltInvalid := f .tiltInvalid
    warpNoReply := f .warpNoReply
    storeFault := f .storeFault
    lineDeaf := f .lineDeaf
    noClock := f .noClock }

@[simp] theorem FaultTable.get_make (f : FaultId → FaultSt) (i : FaultId) : (FaultTable.make f).get i = f i := by
  cases i <;> simp [FaultTable.get, FaultTable.make]

/-- The entries in the order of the table of section 12.1, bay A before bay B. -/
def FaultId.all : List FaultId :=
  [.strikeFailed .bayA, .strikeFailed .bayB, .lampFailed .bayA, .lampFailed .bayB, .lampLost .bayA, .lampLost .bayB,
   .ballastFault .bayA, .ballastFault .bayB, .doorOpen .bayA, .doorOpen .bayB, .lampLow .bayA, .lampLow .bayB,
   .lampExhausted .bayA, .lampExhausted .bayB, .thermalWarn, .thermalShutdown, .housingSensor, .fanStall, .tiltInvalid,
   .warpNoReply, .storeFault, .lineDeaf, .noClock]

/-- Whether an entry is actionable; the others are advisory (R178). -/
def FaultId.actionable : FaultId → Bool
  | .lampFailed _ | .ballastFault _ | .doorOpen _ | .lampExhausted _ | .thermalShutdown | .fanStall | .warpNoReply
  | .storeFault => true
  | _ => false

/-- The condition of an entry, as its owning block holds it (section 12.1). -/
def faultCond (s : State) : FaultId → Bool
  | .strikeFailed b =>
    match lampRec s b with
    | some r => r.consecutive == 1 || r.consecutive == 2
    | none => false
  | .lampFailed b => (bay s b).st == .failed
  | .lampLost b => (bay s b).lampLost.isSome
  | .ballastFault b => s.pins.ballast.get b
  | .doorOpen b => (bay s b).doorFault
  | .lampLow b => stageOf s b == some .low || stageOf s b == some .spent
  | .lampExhausted b => stageOf s b == some .exhausted
  | .thermalWarn => s.heat.level == .warn
  | .thermalShutdown => s.heat.level == .shutdown
  | .housingSensor => s.heat.sensorFault
  | .fanStall => s.heat.stall
  | .tiltInvalid => s.geo.tiltInvalid
  | .warpNoReply => s.geo.warpNoReply
  | .storeFault => !s.store.unsaved.isEmpty
  | .lineDeaf => s.comms.deaf
  | .noClock => s.sched.clock.isNone && s.work.bookings.any Option.isSome

/-- How an entry moves with its condition (R178). -/
def FaultSt.move (actionable cond : Bool) (e : FaultSt) : FaultSt :=
  match cond, e with
  | true, _ => .active
  | false, .active => if actionable then .latched else .clear
  | false, e => e

/-- The table after every entry has moved with its condition. -/
def movedFaults (s : State) : FaultTable :=
  .make (fun f => (s.faults.get f).move f.actionable (faultCond s f))

/-- An entry that becomes Active. -/
def faultRises (s : State) (f : FaultId) : Bool := faultCond s f && s.faults.get f != .active

/-- The FAULT notice of an entry (section 12.2). -/
def faultNotice (f : FaultId) : Notice := ⟨.fault, .fault f, ["ACTIVE"]⟩

/-- The Fault Table follows the conditions, and each entry that becomes Active places its FAULT notice (R178). -/
def syncFaults (s : State) : State :=
  { s with
    faults := movedFaults s
    notices := (FaultId.all.filter (faultRises s)).foldl (fun q f => q.put (faultNotice f)) s.notices }

/-- The judgement at RESTART: every entry is Active if its condition holds and Clear otherwise, and each Active entry places its
FAULT notice (R180). -/
def rejudgeFaults (s : State) : State :=
  { s with
    faults := .make (fun f => if faultCond s f then .active else .clear)
    notices := (FaultId.all.filter (faultCond s)).foldl (fun q f => q.put (faultNotice f)) s.notices }

/-- The FAULT line: asserted while any actionable entry is Active or Latched (R178). -/
def faultLine (s : State) : Bool := FaultId.all.any (fun f => f.actionable && s.faults.get f != .clear)

/-- The SERVICE line: asserted while any advisory entry is Active (R178). -/
def serviceLine (s : State) : Bool := FaultId.all.any (fun f => !f.actionable && s.faults.get f == .active)

end Sys2Proof.Machine
end

