-- ==== Sys2Proof/Machine/Lamps.lean ====
section
/-! DEFINITION. Machine/Lamps.lean: the Lamp Controller's operations: the bay choice, the demand, the ways a bay is put out, the
igniter, and the strike results with the Wear Counter's part in them (chapter 1, R28 to R36). -/

namespace Sys2Proof.Machine

/-! ## Choosing bays -/

/-- Lexicographic order of ranks: the smaller comes first. -/
def lexLess : List Nat → List Nat → Bool
  | [], [] => false
  | [], _ => true
  | _, [] => false
  | x :: xs, y :: ys => if x < y then true else if y < x then false else lexLess xs ys

/-- The bay that comes first in a ranking, among the bays that qualify; on a tie bay A. -/
def pickBay (ok : Bay → Bool) (rank : Bay → List Nat) : Option Bay :=
  match ok .bayA, ok .bayB with
  | true, true => if lexLess (rank .bayB) (rank .bayA) then some .bayB else some .bayA
  | true, false => some .bayA
  | false, true => some .bayB
  | false, false => none

/-- Step 1 of R13: the later state first, in the order Striking, Warming, Lit, and then the lower per-mille. -/
def keepRank (s : State) (b : Bay) : List Nat :=
  [match (bay s b).st with
    | .lit => 0
    | .warming => 1
    | _ => 2,
   perMille s b]

/-- The uptime at which a bay in Cooling or Rest enters Dark (R6). -/
def darkEntry (s : State) (b : Bay) : Nat :=
  match (bay s b).st with
  | .cooling => (bay s b).timer.getD s.uptime + restTime
  | .rest => (bay s b).timer.getD s.uptime
  | _ => s.uptime

/-- Steps 2 and 3 of R13: a set cause mark ranks last (R15), a Dark bay before a bay in its hold, the hold that ends first, and then
the lower per-mille. -/
def chooseRank (s : State) (b : Bay) : List Nat :=
  [if (bay s b).causeMark then 1 else 0, if (bay s b).st = .dark then 0 else 1, darkEntry s b, perMille s b]

/-- The bay choice for a count of 1 (R13). An ineligible bay is never chosen (R11). -/
def chooseBay (s : State) : Option Bay :=
  match pickBay (fun b => eligible s b && (bay s b).st.inUse) (keepRank s) with
  | some b => some b
  | none => pickBay (eligible s) (chooseRank s)

/-- The wanted set that a demand count calls for (R13, R14). -/
def chosenSet (s : State) : PerBay Bool :=
  match s.lamp.count with
  | 0 => .both false
  | 1 =>
    match chooseBay s with
    | some b => PerBay.set (.both false) b true
    | none => .both false
  | _ => .make (eligible s)

/-! ## Putting a bay out -/

/-- A bay enters Cooling (R6, R9). -/
def enterCooling (b : Bay) (s : State) : State :=
  modBay b (fun y => { y with st := .cooling, timer := some (s.uptime + coolingTime) }) s

/-- The bay's unsaved count reached its top at this boundary, and its write has started since, which set the count to 0: it serves an
exit at the boundary too (R36; notes/assumptions/36.md). -/
def writeServes (s : State) (b : Bay) : Bool := (bay s b).topAt == some s.uptime && s.wear.get b == 0

/-- A bay leaves Warming or Lit: its last extinguish is set, and its lamp record is written (R6, R36). -/
def leaveBurning (b : Bay) (s : State) : State :=
  let s1 := modBay b (fun y => { y with lastExt := some s.uptime }) s
  if writeServes s b then s1 else askOwn (.lamp b) s1

/-- The extinguish of a burning bay: Cooling with the effects of R6. -/
def extinguish (b : Bay) (s : State) : State := leaveBurning b (enterCooling b s)

/-- A bay leaves Striking: the igniter becomes free and the spacing is set (R17). -/
def leaveStriking (b : Bay) (s : State) : State :=
  { s with lamp := { s.lamp with igniter := none, spacing := some (s.uptime + spacingTime, b) } }

/-- The wanted set is replaced, and a Lit bay that is no longer wanted goes to Cooling by the ordinary extinguish (R6, R8). Where both
go, bay A's write is asked for first (DESIGN CHOICE, notes/assumptions/37.md). -/
def putWanted (w : PerBay Bool) (s : State) : State :=
  let s1 := { s with lamp := { s.lamp with wanted := w } }
  let out (b : Bay) (x : State) : State := if (bay x b).st = .lit ∧ w.get b = false then extinguish b x else x
  out .bayB (out .bayA s1)

/-- The Lamp Controller forms the wanted set anew for the count in force (R13, R14). -/
def formWanted (s : State) : State := putWanted (chosenSet s) s

/-- A bay leaves the wanted set, and the demand fails over while the count is above 0 (R15). A bay that was not wanted causes no
failover. -/
def leaveWanted (b : Bay) (s : State) : State :=
  if s.lamp.wanted.get b then
    let s1 := { s with lamp := { s.lamp with wanted := s.lamp.wanted.set b false } }
    if s1.lamp.count = 0 then s1 else formWanted s1
  else s

/-- A bay that has become eligible fills a shortfall (R15). -/
def fillShortfall (s : State) : State := if shortfall s = 0 then s else formWanted s

/-- A wanted bay that is Exhausted in Dark, Cooling or Rest leaves the wanted set (R7, R11). -/
def dropExhausted (b : Bay) (s : State) : State :=
  if stageOf s b = some .exhausted ∧ ((bay s b).st = .dark ∨ (bay s b).st = .cooling ∨ (bay s b).st = .rest) then
    leaveWanted b s
  else s

/-- A forced cause puts a bay in Striking, Warming or Lit into Cooling (R9). -/
def forceOut (b : Bay) (s : State) : State :=
  match (bay s b).st with
  | .striking => enterCooling b (leaveStriking b s)
  | .warming | .lit => extinguish b s
  | _ => s

/-- A bay goes out by its door or its ballast: if it was wanted its cause mark is set and the demand fails over (R9, R15). -/
def outByCause (b : Bay) (s : State) : State :=
  if (bay s b).st.inUse then
    if s.lamp.wanted.get b then leaveWanted b (modBay b (fun y => { y with causeMark := true }) (forceOut b s))
    else forceOut b s
  else s

/-! ## The demand -/

/-- Raises are refused at thermal level Shutdown and at lock level Maintenance (R12). -/
def raiseAllowed (s : State) : Bool := s.heat.level != .shutdown && lockLevel s != .maintenance

/-- The demand count changes, with its origin, and the wanted set is formed anew (R12). -/
def setDemand (o : DemandOrigin) (n : Nat) (s : State) : State :=
  if n = s.lamp.count then s else formWanted { s with lamp := { s.lamp with count := n, origin := o } }

/-- A raise of the demand that the Lamp Controller takes: the larger of the two counts (R12). -/
def raise (o : DemandOrigin) (n : Nat) (s : State) : State := setDemand o (max s.lamp.count n) s

/-- A drop of the demand to 0 (R12). -/
def drop (o : DemandOrigin) (s : State) : State := setDemand o 0 s

/-- The lamp count of a booking, or of the plan: 1 under SINGLE and 2 under DUAL (R20, R22). -/
def planCount (s : State) : Nat :=
  match s.work.settings.plan with
  | .single => 1
  | .dual => 2

/-! ## Wear -/

/-- A record with quarter-units added to its wear, up to the top of the counter (R30). -/
def addWear (n : Nat) (r : LampRecord) : LampRecord := { r with wear := satAdd wearTop r.wear n }

/-- A bay's record changes its wear, and a change of stage places a LIFE notice (R32, R33). -/
def changeRecord (b : Bay) (f : LampRecord → LampRecord) (s : State) : State :=
  match lampRec s b with
  | none => s
  | some r =>
    let s1 := setLampRec b (some (f r)) s
    if stageOfRec (f r) = stageOfRec r then s1 else notify .life (.bay b) [showStage (stageOfRec (f r))] s1

/-- The record of a successful ignition (R29). -/
def strikeWon (r : LampRecord) : LampRecord :=
  addWear 40 { r with strikeCount := satAdd 65535 r.strikeCount 1, consecutive := 0 }

/-- The record of a failed strike; the third failure in a row sets the Failed flag (R29). -/
def strikeLost (r : LampRecord) : LampRecord :=
  let c := satAdd 3 r.consecutive 1
  addWear 20 { r with failedCount := satAdd 255 r.failedCount 1, consecutive := c, failed := r.failed || c == 3 }

/-! ## The igniter -/

/-- The spacing forbids a bay: it is set to the other bay and its uptime is not reached (R17). -/
def spacingForbids (s : State) (b : Bay) : Bool :=
  match s.lamp.spacing with
  | some (t, c) => b != c && decide (s.uptime < t)
  | none => false

/-- A bay that the arbiter may grant the igniter to: a waiter that the spacing does not forbid (R2, R16). -/
def grantable (s : State) (b : Bay) : Bool := strikeReady s b && (bay s b).stamp.isSome && !spacingForbids s b

/-- The order of waiters: the oldest stamp, then the lower per-mille, then bay A (R16). -/
def stampRank (s : State) (b : Bay) : List Nat :=
  match (bay s b).stamp with
  | some (t, e) => [t, e, perMille s b]
  | none => []

/-- The waiter that the arbiter grants the free igniter to (R16). -/
def grantee (s : State) : Option Bay :=
  match s.lamp.igniter with
  | some _ => none
  | none => pickBay (grantable s) (stampRank s)

/-- A bay enters Striking at the grant (R2, R18, R19). -/
def enterStriking (b : Bay) (s : State) : State :=
  modBay b
    (fun y => { y with st := .striking, timer := some (s.uptime + strikeWindow), strikes := y.strikes ++ [s.uptime],
                       doorFlag := .clear, stamp := none })
    { s with lamp := { s.lamp with igniter := some b } }

/-- The waiter stamps follow the strike conditions: a bay that has become a waiter takes a stamp of this uptime and this event, and
a bay that is no longer one loses its stamp (R2, R16). -/
def newStamp (s : State) (b : Bay) : Option (Nat × Nat) :=
  if strikeReady s b then
    match (bay s b).stamp with
    | some t => some t
    | none => some (s.uptime, s.events)
  else none

/-- The waiter stamps follow the strike conditions (R2, R16). -/
def syncWaiters (s : State) : State :=
  { s with lamp := { s.lamp with
      bays := .make (fun b => { s.lamp.bays.get b with stamp := newStamp s b }) } }

end Sys2Proof.Machine
end

