-- ==== Sys2Proof/Machine/Modes.lean ====
section
/-! DEFINITION. Machine/Modes.lean: the Mode Unit's effective modes and conditioning overrides, and the Heat Monitor's fan level
(R51 to R59, R69, R70). Each is worked out again after every event, from what it depends on. -/

namespace Sys2Proof.Machine

/-! ## Effective mode and override -/

/-- The effective mode that an override gives a burning bay (R52); at Shutdown there is no mode. -/
def modeUnder (s : State) (o : Override) : Option LampMode :=
  match thermalCeiling s with
  | none => none
  | some t =>
    match o with
    | .none => some ((s.mode.requested.lower (facilityCeiling s)).lower t)
    | .normal => some ((facilityCeiling s).lower t)
    | .forced => some t

/-- An override of the bay is postponed (R57). -/
def postponed (s : State) (b : Bay) : Bool :=
  decide ((bayMode s b).debt < 4) &&
    (facilityCeiling s != .full ||
      match runningBooking s with
      | some bk => bk.mode == some .standard || bk.mode == some .eco
      | none => false)

/-- The conditions of R57 for starting an override on a bay. -/
def overrideMayStart (s : State) (b : Bay) : Bool :=
  (bay s b).st == .lit && decide (0 < (bayMode s b).debt) && thermalCeiling s == some .full && !postponed s b

/-- The kind of an override follows the debt (R57, R58). -/
def overrideKind (debt : Nat) : Override := if 4 ≤ debt then .forced else .normal

/-- An override in progress goes on: the bay is Lit, the thermal ceiling is Full, and the facility ceiling does not end a Normal one
(R59). -/
def overrideGoesOn (s : State) (b : Bay) : Bool :=
  (bay s b).st == .lit && thermalCeiling s == some .full && decide (0 < (bayMode s b).debt) &&
    (overrideKind (bayMode s b).debt == .forced || facilityCeiling s == .full)

/-- A bay's override after the evaluation of R57 to R59. -/
def nextOverride (s : State) (b : Bay) : Override :=
  if (if (bayMode s b).override = .none then overrideMayStart s b else overrideGoesOn s b) then
    overrideKind (bayMode s b).debt
  else .none

/-- A bay's effective mode: Off unless it is Warming or Lit (R52). -/
def nextEffective (s : State) (b : Bay) : Option LampMode :=
  if (bay s b).st.burning then modeUnder s (nextOverride s b) else none

/-- A bay's part of the Mode Unit after the evaluation: the Full-run counter is 0 unless the bay is Lit at Full (R56). -/
def evalMode (s : State) (b : Bay) : BayMode :=
  { s.mode.bays.get b with
    override := nextOverride s b
    effective := nextEffective s b
    run := if (bay s b).st = .lit ∧ nextEffective s b = some .full then (bayMode s b).run else 0 }

/-- The Mode Unit evaluates both bays (R52, R57, R59). -/
def syncMode (s : State) : State := { s with mode := { s.mode with bays := .make (evalMode s) } }

/-! ## The fan -/

/-- A bay is in Cooling. -/
def anyCooling (s : State) : Bool := (bay s .bayA).st == .cooling || (bay s .bayB).st == .cooling

/-- A bay is in Striking, Warming or Lit. -/
def anyInUse (s : State) : Bool := (bay s .bayA).st.inUse || (bay s .bayB).st.inUse

/-- The fan level that R69 chooses. -/
def fanChoice (s : State) : Fan :=
  if anyCooling s || s.heat.level != .normal || s.heat.sensorFault then .high
  else if anyInUse s then .normal
  else .low

/-- The fan follows the choice; the stall timer restarts at every change to Normal or High and stops at Low (R69, R70). -/
def syncFan (s : State) : State :=
  if fanChoice s = s.heat.fan then s
  else
    { s with heat := { s.heat with
        fan := fanChoice s
        stallFrom := if fanChoice s = .low then none else some s.uptime } }

end Sys2Proof.Machine
end

