-- ==== Sys2Proof/Machine/Geometry.lean ====
section
/-! DEFINITION. Machine/Geometry.lean: the Geometry Engine's operations: the candidate computation, the stabiliser, the totals, the
corners and the scale, and the warp link (chapter 7). -/

namespace Sys2Proof.Machine

/-- The auto-tilt choice in use: the active profile's, or ON under the built-in defaults (R78, R106). -/
def autoTiltOn (s : State) : Bool :=
  match profileOf s s.sel.active with
  | some p => p.autoTilt
  | none => true

/-- The trims in use, 0 when the active profile is none (R109). -/
def trims (s : State) : Int × Int :=
  match profileOf s s.sel.active with
  | some p => (p.vTrim, p.hTrim)
  | none => (0, 0)

/-- The aspect in use, 16:10 under the built-in defaults (R110). -/
def aspectInUse (s : State) : Aspect :=
  match profileOf s s.sel.active with
  | some p => p.aspect
  | none => .r16x10

/-- The sum of the tilt ring, absent if any entry is invalid (R106). -/
def ringSum : List (Option Int) → Option Int
  | [] => some 0
  | none :: _ => none
  | some x :: l => (ringSum l).map (fun t => x + t)

/-- S ÷ 30 rounded to the nearest whole number, an exact half away from zero (R106). -/
def roundTilt (t : Int) : Int :=
  let m : Int := ((2 * t.natAbs + 30) / 60 : Nat)
  if t < 0 then -m else m

/-- A candidate computation: a new value of A, or none where it is skipped (R106). -/
def candidate (s : State) : Option Int :=
  (ringSum s.geo.ring).map (fun t => roundTilt (if s.work.settings.mount = .ceiling then -t else t))

/-- The Geometry Engine with auto-tilt OFF: the applied A is 0 and nothing awaits (R106, R108). -/
def tiltOff (g : Geo) : Geo := { g with applied := 0, cand := none, agree := 0, imm := false }

/-- The immediate flag at work: a candidate computation that gives a value applies it and clears the flag (R108). -/
def tiltImmediate (s : State) : Geo :=
  match candidate s with
  | some x => { s.geo with applied := x, imm := false }
  | none => s.geo

/-- How a computation settles the applied A (R106, R108, R109); only cadence computations move the stabiliser (R107). -/
def settleTilt (s : State) : Geo :=
  if !autoTiltOn s then tiltOff s.geo
  else if s.geo.imm then tiltImmediate s
  else s.geo

/-- The stabiliser at a cadence computation with auto-tilt ON and the immediate flag clear (R107). The third agreement in a row is
applied by AUTO_TILT_CONFIRM. -/
def stabilise (s : State) : Geo :=
  match candidate s with
  | none => { s.geo with cand := none, agree := 0 }
  | some x =>
    if x = s.geo.applied then { s.geo with cand := none, agree := 0 }
    else if s.geo.cand = some x then { s.geo with agree := satAdd 3 s.geo.agree 1 }
    else { s.geo with cand := some x, agree := 1 }

/-- The corners and the aspect of given totals (R110). -/
def cornersOf (v h : Int) (aspect : Aspect) : Corners :=
  let dv := 8 * (v.natAbs : Int)
  let dh := 6 * (h.natAbs : Int)
  { tlX := if 0 < v then dv else 0
    trX := if 0 < v then 1919 - dv else 1919
    blX := if v < 0 then dv else 0
    brX := if v < 0 then 1919 - dv else 1919
    tlY := if h < 0 then dh else 0
    blY := if h < 0 then 1199 - dh else 1199
    trY := if 0 < h then dh else 0
    brY := if 0 < h then 1199 - dh else 1199
    aspect := aspect }

/-- The scale of given totals, in thousandths (R111). -/
def scaleOf (v h : Int) : Nat :=
  min (1000 * (1920 - 2 * (8 * v.natAbs)) / 1920) (1000 * (1200 - 2 * (6 * h.natAbs)) / 1200)

/-- The sum for V before clamping (R109). -/
def vSum (s : State) : Int := s.geo.applied + (trims s).1 + s.geo.vAdj

/-- The sum for H before clamping (R109). -/
def hSum (s : State) : Int := (trims s).2 + s.geo.hAdj

/-- The totals, the clamp flags and the corner set of a computation (R109, R110). -/
def totals (s : State) : State :=
  let v := clampInt (-(s.work.limV : Int)) s.work.limV (vSum s)
  let h := clampInt (-(s.work.limH : Int)) s.work.limH (hSum s)
  { s with geo := { s.geo with
      v := v, h := h, clampV := v != vSum s, clampH := h != hSum s, computed := cornersOf v h (aspectInUse s) } }

/-- A set is sent: it becomes the in-flight set, and its reply window starts (R112). -/
def sendSet (c : Corners) (s : State) : State := { s with geo := { s.geo with inFlight := some (c, s.uptime) } }

/-- The computed set is handed to the warp link (R112). -/
def handOver (s : State) : State :=
  match s.geo.inFlight with
  | none =>
    let s1 := { s with geo := { s.geo with nextSlot := none } }
    if s.geo.appliedSet = some s.geo.computed then s1 else sendSet s.geo.computed s1
  | some (c, _) =>
    { s with geo := { s.geo with nextSlot := if s.geo.computed = c then none else some s.geo.computed } }

/-- A computation of the corner set other than the cadence computation (R109). -/
def computation (s : State) : State := handOver (totals { s with geo := settleTilt s })

/-- An event of R108 sets the immediate flag, with the candidate none and the agree count 0. -/
def setImmediate (s : State) : State := { s with geo := { s.geo with imm := true, cand := none, agree := 0 } }

/-- The nudges are cleared (R114). -/
def clearNudges (s : State) : State := { s with geo := { s.geo with vAdj := 0, hAdj := 0 } }

/-- A profile change handed on by the Source Selector: the nudges are cleared, the auto-tilt term is applied at once, and a
computation follows (R87, R108, R114). -/
def profileChange (s : State) : State := computation (setImmediate (clearNudges s))

end Sys2Proof.Machine
end

