-- ==== Sys2Proof/Machine/Selector.lean ====
section
/-! DEFINITION. Machine/Selector.lean: the Source Selector's operations: the scan list, resolution, requests and switches, the runs of
samples, the locks and losses, scanning, and what a change of the profile table does to it (chapter 6, R80, R85). -/

namespace Sys2Proof.Machine

/-! ## The scan list -/

/-- A profile place with its rank and port, put in order of rank; equal ranks stay in the order of their places (R80). -/
def insertRank (x : Nat × VPort) : List (Nat × VPort) → List (Nat × VPort)
  | [] => [x]
  | y :: l => if y.1 ≤ x.1 then y :: insertRank x l else x :: y :: l

/-- The ranked ports of a table, by rank and then by place (R80). -/
def rankedPorts (l : List (Option Profile)) : List (Nat × VPort) :=
  l.foldl (fun acc p =>
    match p with
    | some q =>
      match q.rank with
      | some r => insertRank (r, q.port) acc
      | none => acc
    | none => acc) []

/-- Ports without those that already stand earlier (R80). -/
def distinctPorts : List VPort → List VPort → List VPort
  | _, [] => []
  | seen, p :: l => if p ∈ seen then distinctPorts seen l else p :: distinctPorts (p :: seen) l

/-- The scan list of a profile table (R80). -/
def scanListOf (l : List (Option Profile)) : List VPort := distinctPorts [] ((rankedPorts l).map Prod.snd)

/-- The scan list as it stands (R80). -/
def scanList (s : State) : List VPort := scanListOf s.work.profiles

/-- The port that follows another in a list, if any. -/
def portAfter (p : VPort) : List VPort → Option VPort
  | [] => none
  | x :: l => if x = p then l.head? else portAfter p l

/-- The port of the next dwell: the one that follows the dwell port, and the first after the last or when the dwell port has left the
list (R97). -/
def nextDwellPort (l : List VPort) (p : VPort) : Option VPort := (portAfter p l).or l.head?

/-! ## Resolution, notices and the active profile -/

/-- A profile fits a port at a class (R90). -/
def Profile.fits (p : Profile) (port : VPort) (c : Nat) : Bool := p.port == port && (p.cls == none || p.cls == some c)

/-- The resolved profile of a port and a class under a named profile (R90). -/
def resolved (s : State) (port : VPort) (c : Nat) (named : Option Nat) : Option Nat :=
  match profileOf s named with
  | some p => if p.fits port c then named else lookup s port c
  | none => lookup s port c

/-- The label of a profile place, or NONE. -/
def labelWord (s : State) (n : Option Nat) : String := showOpt id ((profileOf s n).bind Profile.label)

/-- The fields of the SOURCE notice (R87). -/
def sourceFields (s : State) : List String :=
  [showSelSt s.sel.st, showPort s.sel.port, showNat (s.sel.settledCls.getD 0), showOpt showNat s.sel.active,
   labelWord s s.sel.active]

/-- The SOURCE notice (R87). -/
def sourceNotice (s : State) : State := notify .source .selector (sourceFields s) s

/-- The selector's part replaced by a rule. -/
def modSel (f : Selector → Selector) (s : State) : State := { s with sel := f s.sel }

/-- A profile becomes the active one: where it differs this is a profile change (R87). -/
def putActive (n : Option Nat) (s : State) : State :=
  if n = s.sel.active then s else profileChange (modSel (fun x => { x with active := n }) s)

/-- The same at a lock or a class change, where an unchanged profile is computed again with the nudges kept (R90, R94). -/
def putActiveAnew (n : Option Nat) (s : State) : State := if n = s.sel.active then computation s else putActive n s

/-- The loss behaviour and the Loss cause are judged from a profile (R91, R95). -/
def judgeLoss (n : Option Nat) (s : State) : State :=
  modSel (fun x => { x with lossB := lossOf s n, muteLoss := lossOf s n == .blank }) s

/-- The selected port's fallback: the lookup for class 0 (R79). -/
def fallback (s : State) : Option Nat := lookup s s.sel.port 0

/-! ## Requests -/

/-- The priority of a request's origin (section 6.1). -/
def SwOrigin.prio : SwOrigin → Nat
  | .facility => 4
  | .operator => 3
  | .schedule => 2
  | .presenter => 1

/-- A request that causes no switch: its port is the settled one, and it resolves to the active profile (R89). -/
def noSwitch (s : State) (port : VPort) (named : Option Nat) : Bool :=
  s.sel.st == .settled && port == s.sel.port && resolved s port (s.sel.settledCls.getD 0) named == s.sel.active

/-- A request is refused BUSY while a switch of a higher priority is in flight (R89). -/
def requestBusy (s : State) (o : SwOrigin) : Bool :=
  s.sel.st == .switching &&
    match s.sel.req with
    | some r => decide (o.prio < r.origin.prio)
    | none => false

/-- A switch begins (R90). -/
def startSwitch (port : VPort) (named : Option Nat) (o : SwOrigin) (s : State) : State :=
  modSel (fun x =>
    { x with st := .switching, req := some ⟨port, named, o, s.uptime⟩, muteLoss := false, classTimer := none,
             lockRun := .zero, lossRun := 0, classRun := .zero }) s

/-- The selector takes a request according to its state (R89). -/
def takeRequest (port : VPort) (named : Option Nat) (o : SwOrigin) (s : State) : State :=
  if noSwitch s port named then modSel (fun x => { x with named := named }) s
  else if requestBusy s o then s
  else startSwitch port named o s

/-- The schedule's request for a booking's default source; a refused one is dropped (R101). -/
def scheduleRequest (n : Option Nat) (s : State) : State :=
  match profileOf s n with
  | some p => takeRequest p.port n .schedule s
  | none => s

/-! ## Samples -/

/-- The sample that a reading makes of a port; without a signal its class is 0 (R73). -/
def sampleOf (old : PortSample) (r : PortReading) : PortSample :=
  { present := some r.present
    cls := if r.present then r.cls else 0
    prev := if old.present.isSome then some old.cls else none }

/-- The eight ports sampled together; a port with no reading reads absent (R73, R74). -/
def samplePorts : List PortSample → List PortReading → List PortSample
  | [], _ => []
  | p :: ps, r :: rs => sampleOf p r :: samplePorts ps rs
  | p :: ps, [] => sampleOf p ⟨false, 0⟩ :: samplePorts ps []

/-- The latest sample of a port. -/
def portNow (s : State) (p : VPort) : PortSample := s.ports.getD p.idx .fresh

/-- An absent sample (R73). -/
def PortSample.absent (p : PortSample) : Bool := p.present == some false

/-- A lockable sample (R73). -/
def PortSample.lockable (p : PortSample) : Bool := p.present == some true && p.cls != 0

/-- A run of one class with a sample of that class or another added. -/
def Run.add (r : Run) (c : Nat) : Run := if r.count ≠ 0 ∧ r.cls = c then ⟨c, satAdd 2 r.count 1⟩ else ⟨c, 1⟩

/-- The lock run after a sample: an absent or unclassified one sets it to 0 (R90). -/
def Run.judge (r : Run) (p : PortSample) : Run := if p.lockable then r.add p.cls else .zero

/-- The class-change run after a sample of the settled port (R94). -/
def Run.judgeChange (r : Run) (settled : Option Nat) (p : PortSample) : Run :=
  if p.lockable then (if settled = some p.cls then .zero else r.add p.cls) else r

/-- The port that is judged for lock. -/
def judgedPort (s : State) : VPort := selectedLine s

/-- The selector judges a sample by its state (R90, R93, R94, R95, R97). -/
def judgeSample (s : State) : State :=
  let p := portNow s (judgedPort s)
  match s.sel.st with
  | .settled =>
    modSel (fun x =>
      { x with lossRun := if p.absent then satAdd 5 x.lossRun 1 else 0,
               classRun := x.classRun.judgeChange x.settledCls p }) s
  | .switching | .noSignal | .scanning => modSel (fun x => { x with lockRun := x.lockRun.judge p }) s

/-! ## Locks, losses and timeouts -/

/-- The selector enters Settled on a port at a class: every run is 0, the request is dropped and Loss is removed (R90, R95, R97). -/
def enterSettled (port : VPort) (c : Nat) (named : Option Nat) (s : State) : State :=
  modSel (fun x =>
    { x with st := .settled, port := port, settledCls := some c, named := named, req := none, lockRun := .zero, lossRun := 0,
             classRun := .zero, muteLoss := false }) s

/-- A switch locks (R90). -/
def switchLocks (s : State) : State :=
  match s.sel.req with
  | some r =>
    let c := s.sel.lockRun.cls
    sourceNotice (putActiveAnew (resolved s r.port c r.named) (enterSettled r.port c r.named s))
  | none => s

/-- The selector is in NoSignal from this moment, with every run 0 (R91, R93). -/
def enterNoSignal (before : Option Nat) (s : State) : State :=
  modSel (fun x =>
    { x with st := .noSignal, settledCls := none, beforeLoss := before, noSigFrom := s.uptime, lockRun := .zero, lossRun := 0,
             classRun := .zero }) s

/-- A switch times out (R91). -/
def switchTimesOut (s : State) : State :=
  match s.sel.req with
  | some r =>
    let s1 := enterNoSignal none (modSel (fun x => { x with port := r.port, named := r.named, req := none }) s)
    sourceNotice (judgeLoss (fallback s1) (putActive (fallback s1) s1))
  | none => s

/-- The settled signal is lost: the active profile decides HOLD or BLANK (R93). -/
def signalLost (s : State) : State := sourceNotice (judgeLoss s.sel.active (enterNoSignal s.sel.settledCls s))

/-- The class-change timer starts (R94). -/
def startClassTimer (s : State) : State := modSel (fun x => { x with classTimer := some s.uptime }) s

/-- The class of the settled port has changed (R94). -/
def classChanged (s : State) : State :=
  let c := s.sel.classRun.cls
  let n := resolved s s.sel.port c s.sel.named
  let s1 := modSel (fun x => { x with settledCls := some c, classRun := .zero }) s
  let s2 := putActiveAnew n s1
  startClassTimer (if n = s.sel.active then s2 else sourceNotice s2)

/-- A lock in NoSignal (R95). -/
def noSignalLocks (s : State) : State :=
  let c := s.sel.lockRun.cls
  let s1 := putActive (resolved s s.sel.port c s.sel.named) (enterSettled s.sel.port c s.sel.named s)
  let s2 :=
    match s.sel.beforeLoss with
    | some b => if b = c then s1 else startClassTimer s1
    | none => s1
  sourceNotice s2

/-! ## Scanning -/

/-- A dwell begins on a port (R97). -/
def startDwell (p : VPort) (s : State) : State :=
  modSel (fun x => { x with scanPort := p, dwellFrom := s.uptime, lockRun := .zero }) s

/-- Scanning ends without a switch: NoSignal again on the port selected before, its timer from 0 (R97). -/
def scanReturns (s : State) : State :=
  modSel (fun x => { x with st := .noSignal, noSigFrom := s.uptime, lockRun := .zero }) s

/-- Scanning begins at the first port of the scan list (R96). -/
def scanBegins (s : State) : State :=
  match (scanList s).head? with
  | some p => startDwell p (modSel (fun x => { x with st := .scanning }) s)
  | none => s

/-- A dwell ends without a lock (R97). -/
def dwellEnds (s : State) : State :=
  match nextDwellPort (scanList s) s.sel.scanPort with
  | some p => startDwell p s
  | none => scanReturns s

/-- A lock in a dwell (R97). -/
def dwellLocks (s : State) : State :=
  let c := s.sel.lockRun.cls
  sourceNotice (putActive (lookup s s.sel.scanPort c) (enterSettled s.sel.scanPort c none s))

/-- Scanning ends when AUTOSCAN becomes OFF or an EXAM occurrence comes to be Running (R97). -/
def syncScan (s : State) : State :=
  if s.sel.st = .scanning ∧ (s.work.settings.autoscan = false ∨ examRunning s = true) then scanReturns s else s

/-- The conditions of R96 for a scan. -/
def scanReady (s : State) : Bool :=
  s.sel.st == .noSignal && decide (s.sel.noSigFrom + scanWait ≤ s.uptime) && s.work.settings.autoscan &&
    !(scanList s).isEmpty && !examRunning s

/-! ## Changes of the profile table -/

/-- The change leaves the active profile without its place on the selected port: it is deleted or has another port (R85, R95). -/
def leavesPort (s : State) (new : Option Profile) : Bool :=
  match new with
  | some p => p.port != s.sel.port
  | none => true

/-- A profile is the ANY profile of the selected port. -/
def isAnyHere (s : State) (p : Option Profile) : Bool :=
  match p with
  | some q => q.port == s.sel.port && q.cls == none
  | none => false

/-- The auto-tilt field comes ON (R108). -/
def tiltComesOn (old new : Option Profile) : Bool :=
  match old, new with
  | some o, some p => !o.autoTilt && p.autoTilt
  | _, _ => false

/-- The auto-tilt field changes (R108). -/
def tiltChanges (old new : Option Profile) : Bool :=
  match old, new with
  | some o, some p => o.autoTilt != p.autoTilt
  | _, _ => false

/-- The Geometry Engine recomputes for a change to a field of the active profile, with the nudges kept (R85, R108). -/
def recompute (old new : Option Profile) (s : State) : State :=
  computation (if tiltComesOn old new then setImmediate s else s)

/-- A deleted place stops being named (R85). -/
def dropNamed (n : Nat) (new : Option Profile) (s : State) : State :=
  match new with
  | some _ => s
  | none =>
    modSel (fun x =>
      { x with named := if x.named = some n then none else x.named
               req := x.req.map (fun r => { r with named := if r.named = some n then none else r.named }) }) s

/-- The fallback becomes the active profile, and Loss is judged from it (R85, R95). -/
def fallBack (s : State) : State := judgeLoss (fallback s) (putActive (fallback s) s)

/-- The change of a place in Settled (R85). The port's class is the class that the selector has settled on, also where the latest sample
of the port has another (DESIGN CHOICE, notes/assumptions/30.md). -/
def changeInSettled (n : Nat) (old new : Option Profile) (s : State) : State :=
  if s.sel.active = some n then
    match new with
    | some p =>
      if p.fits s.sel.port (s.sel.settledCls.getD 0) then recompute old new s
      else sourceNotice (putActive (lookup s s.sel.port (s.sel.settledCls.getD 0)) s)
    | none => sourceNotice (putActive (lookup s s.sel.port (s.sel.settledCls.getD 0)) s)
  else s

/-- The change of a place in NoSignal (R85, R95). -/
def changeInNoSignal (n : Nat) (old new : Option Profile) (s : State) : State :=
  if s.sel.active = some n ∧ leavesPort s new = true then fallBack s
  else
    let s1 := if s.sel.active = some n then recompute old new s else s
    if isAnyHere s old || isAnyHere s new then judgeLoss (fallback s1) s1 else s1

/-- The change of a place in Switching or Scanning (R85, R108). -/
def changeInFlight (n : Nat) (old new : Option Profile) (s : State) : State :=
  if s.sel.active = some n then
    if leavesPort s new then fallBack s
    else if tiltChanges old new then recompute old new s
    else s
  else s

/-- A change of a profile place, from an old record to a new one, reaches the source on screen (R85). -/
def tableChange (n : Nat) (old new : Option Profile) (s : State) : State :=
  let s1 := dropNamed n new s
  match s.sel.st with
  | .settled => changeInSettled n old new s1
  | .noSignal => changeInNoSignal n old new s1
  | .switching | .scanning => changeInFlight n old new s1

/-- A TRIM of a place: as any change of the table, but the active profile is computed again at once in every state (R84, R85). -/
def trimChange (n : Nat) (old new : Option Profile) (s : State) : State :=
  match s.sel.st with
  | .settled | .noSignal => tableChange n old new s
  | .switching | .scanning => if s.sel.active = some n then computation s else s

end Sys2Proof.Machine
end

