-- ==== Sys2Proof/Machine/Schedule.lean ====
section
/-! DEFINITION. Machine/Schedule.lean: bookings and their occurrences: the existence test, the windows, the conflict check, the past
check and retirement (chapter 8). -/

namespace Sys2Proof.Machine

/-! ## The hall clock -/

/-- The hall clock as seconds after 2000-01-01 00:00:00. -/
def HallClock.abs (c : HallClock) : Nat := c.date * 86400 + c.secs

/-- A minute of a date as seconds after 2000-01-01 00:00:00. -/
def minuteAbs (d : Date) (m : Nat) : Nat := (d * 1440 + m) * 60

/-- A half-open window of minutes of a date holds a moment (R126, section 9.2). -/
def windowHolds (d : Date) (lo hi t : Nat) : Bool := decide (minuteAbs d lo ≤ t) && decide (t < minuteAbs d hi)

/-! ## Occurrences -/

/-- The first three conditions of R125: the booking's own dates, without the exceptions. -/
def BookDates.onDate (b : BookDates) (d : Date) : Bool :=
  match b with
  | .once x => x == d
  | .weekly days f u => decide (f.getD 0 ≤ d) && decide (d ≤ u.getD lastDate) && days.contains (weekdayOf d)

/-- Booking n has an occurrence on a date (R125). -/
def occursIn (exs : List Exc) (n : Nat) (b : BookDates) (d : Date) : Bool :=
  b.onDate d &&
    match b with
    | .once _ => true
    | .weekly _ _ _ => !exs.contains ⟨n, d⟩

/-- Booking n has an occurrence on a date, by the table and the list as they stand (R125). -/
def occurs (s : State) (n : Nat) (bk : Booking) (d : Date) : Bool := occursIn s.work.exceptions n bk.dates d

/-- The filled places of a booking table whose occurrence on a date passes a test, in ascending number. -/
def bookingsWhere (f : Nat → Booking → Bool) : Nat → List (Option Booking) → List (Nat × Booking)
  | _, [] => []
  | n, some bk :: l => if f n bk then (n, bk) :: bookingsWhere f (n + 1) l else bookingsWhere f (n + 1) l
  | n, none :: l => bookingsWhere f (n + 1) l

/-- The earliest minute of a booking's Prewarm window, under the lead (R126). -/
def prewarmFrom (s : State) (start : Nat) : Nat := start - s.work.settings.prewarm

/-- A record names an occurrence. -/
def Occ.names (o : Occ) (n : Nat) (d : Date) : Bool := o.booking == n && o.date == d

/-- An optional record names an occurrence. -/
def named (o : Option Occ) (n : Nat) (d : Date) : Bool :=
  match o with
  | some x => x.names n d
  | none => false

/-- The occurrences of a date whose Running window holds a moment, without the one the active record names (R138). -/
def otherRunning (s : State) (d t : Nat) : List (Nat × Booking) :=
  bookingsWhere (fun n bk => occurs s n bk d && windowHolds d bk.start bk.stop t && !named s.sched.active n d) 1 s.work.bookings

/-- The occurrences of a date whose Prewarm window holds a moment, that are neither the active record's nor the last ended (R138). -/
def prewarmHolding (s : State) (d t : Nat) : List (Nat × Booking) :=
  bookingsWhere (fun n bk => occurs s n bk d && windowHolds d (prewarmFrom s bk.start) bk.start t &&
    !named s.sched.active n d && s.sched.lastEnded != some (n, d)) 1 s.work.bookings

/-- The occurrence with the earliest start. -/
def earliest : List (Nat × Booking) → Option (Nat × Booking)
  | [] => none
  | x :: l =>
    match earliest l with
    | some y => if y.2.start < x.2.start then some y else some x
    | none => some x

/-! ## The conflict check -/

/-- Two half-open windows of minutes intersect (R127). -/
def windowsMeet (a b c d : Nat) : Bool := decide (a < d) && decide (c < b)

/-- The Running window of booking n on a date: that of the active record, where it names the occurrence in Running or Grace
(R127). -/
def runWindow (s : State) (n : Nat) (bk : Booking) (d : Date) : Nat × Nat :=
  match s.sched.active with
  | some o => if o.names n d then (o.start, o.stop) else (bk.start, bk.stop)
  | none => (bk.start, bk.stop)

/-- A window of a date intersects booking m's Running window on that date (R127). -/
def meetsOn (s : State) (lo hi : Nat) (m : Nat) (bk : Booking) (d : Date) : Bool :=
  occurs s m bk d && windowsMeet lo hi (runWindow s m bk d).1 (runWindow s m bk d).2

/-- The first and the last date a booking may have an occurrence on. -/
def BookDates.span : BookDates → Date × Date
  | .once d => (d, d)
  | .weekly _ f u => (f.getD 0, min (u.getD lastDate) lastDate)

/-- Two bookings may have an occurrence on one date: one is ONCE, or their days have a weekday in common. -/
def BookDates.share : BookDates → BookDates → Bool
  | .weekly x _ _, .weekly y _ _ => x.any y.contains
  | _, _ => true

/-- The dates of two spans in common. -/
def commonDates (x y : Date × Date) : List Date := List.range' (max x.1 y.1) (min x.2 y.2 + 1 - max x.1 y.1)

/-- Candidate booking n conflicts with booking m on some date (R127). Only on the active record's date may m's window differ from its
booking's, so the other dates are searched only where the bookings' own windows intersect. -/
def conflictsWith (s : State) (n : Nat) (cand : Booking) (m : Nat) (bk : Booking) : Bool :=
  let hit (d : Date) : Bool := occurs s n cand d && meetsOn s cand.start cand.stop m bk d
  (match s.sched.active with
    | some o => o.booking == m && hit o.date
    | none => false) ||
  (windowsMeet cand.start cand.stop bk.start bk.stop && cand.dates.share bk.dates &&
    (commonDates cand.dates.span bk.dates.span).any hit)

/-- The lowest numbered booking that a candidate record at place n conflicts with; place n itself is left out (R127). -/
def conflict (s : State) (n : Nat) (cand : Booking) : Option Nat :=
  ((bookingsWhere (fun m bk => m != n && conflictsWith s n cand m bk) 1 s.work.bookings).head?).map Prod.fst

/-- The lowest numbered booking that one restored occurrence conflicts with (R127, R132). -/
def conflictOn (s : State) (n : Nat) (cand : Booking) (d : Date) : Option Nat :=
  ((bookingsWhere (fun m bk => m != n && meetsOn s cand.start cand.stop m bk d) 1 s.work.bookings).head?).map Prod.fst

/-- A booking lies wholly in the past (R128). -/
def whollyPast (c : HallClock) (bk : Booking) : Bool :=
  match bk.dates with
  | .once d => decide (minuteAbs d bk.stop ≤ c.abs)
  | .weekly _ _ (some u) => decide (u < c.date)
  | .weekly _ _ none => false

/-! ## Exceptions -/

/-- A pair takes its place in the list: in date order, and within one date in booking order (section 8.6). -/
def insertExc (x : Exc) : List Exc → List Exc
  | [] => [x]
  | y :: l => if y.date < x.date ∨ (y.date = x.date ∧ y.booking < x.booking) then y :: insertExc x l else x :: y :: l

/-- The dates of a booking's exceptions, in date order. -/
def skipsOf (s : State) (n : Nat) : List Date := (s.work.exceptions.filter (fun e => e.booking == n)).map Exc.date

/-- The exception list is replaced. -/
def putExceptions (l : List Exc) (s : State) : State := { s with work := { s.work with exceptions := l } }

/-- A booking place is replaced. -/
def putBooking (n : Nat) (bk : Option Booking) (s : State) : State :=
  { s with work := { s.work with bookings := setPlace s.work.bookings n bk } }

/-- A booking place is emptied, and its exceptions leave the list (R130, R133). -/
def emptyBooking (n : Nat) (s : State) : State :=
  putExceptions (s.work.exceptions.filter (fun e => e.booking != n)) (putBooking n none s)

/-! ## Retirement -/

/-- No occurrence record names a booking (R133). -/
def unnamed (s : State) (n : Nat) : Bool :=
  (match s.sched.active with
    | some o => o.booking != n
    | none => true) &&
  (match s.sched.upcoming with
    | some o => o.booking != n
    | none => true)

/-- The engine asks for the write of the exception list where a change touched it. -/
def writeExceptions (old : List Exc) (s : State) : State := if s.work.exceptions = old then s else askOwn .exceptions s

/-- A booking is retired: its place is emptied, its exceptions leave the list, and the stored copies are deleted (R133). -/
def retireBooking (n : Nat) (s : State) : State :=
  writeExceptions s.work.exceptions (askOwn (.booking n) (emptyBooking n s))

/-- A booking is retired where its time has passed and no record names it (R133). -/
def retireIfPast (c : HallClock) (s : State) (n : Nat) : State :=
  match place s.work.bookings n with
  | some bk => if whollyPast c bk && unnamed s n then retireBooking n s else s
  | none => s

/-- Exceptions whose date has passed are retired (R133). -/
def retireExceptions (c : HallClock) (s : State) : State :=
  writeExceptions s.work.exceptions (putExceptions (s.work.exceptions.filter (fun e => decide (c.date ≤ e.date))) s)

/-- The retirements of an evaluation at a clock (R133). -/
def retirePast (c : HallClock) (s : State) : State :=
  retireExceptions c ((filled s.work.bookings).foldl (retireIfPast c) s)

end Sys2Proof.Machine
end

