-- ==== Sys2Proof/Machine/Occurrences.lean ====
section
/-! DEFINITION. Machine/Occurrences.lean: the occurrence records: phase entries and ends with their actions, the evaluation, the clock
set, and the Lock Unit's part in them (chapter 9, R154, R156). -/

namespace Sys2Proof.Machine

/-! ## The Lock Unit -/

/-- The Lock Unit clears its unlocked flag (R156). -/
def clearUnlocked (s : State) : State := { s with lock := { s.lock with unlocked := false, unlockedBy := none } }

/-- The LOCK notice (R154). -/
def lockNotice (s : State) : State := notify .lock .level [showLevel (lockLevel s), "UNLOCKED", showYes s.lock.unlocked] s

/-- A change that may move the lock level: where it does, a LOCK notice is placed (R154). -/
def withLock (f : State → State) (s : State) : State :=
  let s1 := f s
  if lockLevel s1 = lockLevel s then s1 else lockNotice s1

/-- The engine withholds its entry actions under Maintenance (R147). -/
def withheld (s : State) : Bool := lockLevel s == .maintenance

/-! ## Records -/

/-- The Schedule Engine's part replaced by a rule. -/
def modSched (f : Sched → Sched) (s : State) : State := { s with sched := f s.sched }

/-- The record of an occurrence at its entry (R139). -/
def newOcc (n : Nat) (bk : Booking) (d : Date) (p : Phase) : Occ :=
  { booking := n, date := d, start := bk.start, stop := bk.stop, grace := bk.grace, phase := p, raised := false, late := false }

/-- The fields of a BOOKING notice (section 12.2). -/
def occFields (o : Occ) (rest : List String) : List String := showNat o.booking :: showDate o.date :: rest

/-- The end of an occurrence's Grace window, in seconds after 2000-01-01. -/
def Occ.graceEnd (o : Occ) : Nat := minuteAbs o.date (o.stop + o.grace)

/-- A record names an occurrence in Prewarm or Running. -/
def recordCalls (s : State) : Bool :=
  s.sched.upcoming.isSome ||
    match s.sched.active with
    | some o => o.phase == .running
    | none => false

/-! ## Entry actions -/

/-- The count of a schedule's raise: the booking's lamp count, otherwise the plan's (R139). -/
def bookCount (s : State) (bk : Booking) : Nat := bk.lamps.getD (planCount s)

/-- The Prewarm actions: the raise, with the record's raised flag, and the notice (R139). -/
def prewarmActions (s : State) : State :=
  match s.sched.upcoming with
  | none => s
  | some o =>
    if withheld s then s
    else
      let s1 :=
        match place s.work.bookings o.booking with
        | some bk =>
          if raiseAllowed s then
            modSched (fun x => { x with upcoming := some { o with raised := true } }) (raise .schedule (bookCount s bk) s)
          else s
        | none => s
      notify .booking .upcoming (occFields o ["PREWARM", showMinute o.start]) s1

/-- A wanted bay is held back: in Cooling or Rest, or Dark with a full strike list or before its holdoff is over (R141). -/
def heldBack (s : State) (b : Bay) : Bool :=
  decide (0 < s.lamp.count) && s.lamp.wanted.get b &&
    ((bay s b).st == .cooling || (bay s b).st == .rest ||
      ((bay s b).st == .dark && (decide (4 ≤ (bay s b).strikes.length) || !holdoffOver s b)))

/-- The Running entry's raise, made where the raised flag is clear or the actions are retaken (R140, R147, R150). -/
def runningRaise (retake : Bool) (o : Occ) (bk : Booking) (s : State) : State :=
  if (retake || !o.raised) && raiseAllowed s then
    modSched (fun x => { x with active := some { o with raised := true } }) (raise .schedule (bookCount s bk) s)
  else s

/-- The requested mode follows the booking's lamp mode where it has one (R46). -/
def bookedMode (bk : Booking) (s : State) : State :=
  match bk.mode with
  | some m => { s with mode := { s.mode with requested := m } }
  | none => s

/-- The nudges and the User mute cause are cleared (R88, R114). -/
def clearPresenter (s : State) : State := computation (clearNudges (modSel (fun x => { x with muteUser := false }) s))

/-- The actions of a Running entry that reach other blocks (R140). -/
def runningEffects (retake : Bool) (o : Occ) (bk : Booking) (s : State) : State :=
  clearPresenter (clearUnlocked (scheduleRequest bk.source (bookedMode bk (runningRaise retake o bk s))))

/-- The late flag is set where the entry is late or a wanted bay is held back (R141). -/
def markLate (late : Bool) (s : State) : State :=
  modSched (fun x => { x with active := x.active.map (fun o =>
    { o with late := o.late || late || heldBack s .bayA || heldBack s .bayB }) }) s

/-- The RUNNING notice of the active record (R140). -/
def runningNotice (s : State) : State :=
  match s.sched.active with
  | some o =>
    notify .booking .active (occFields o (["RUNNING", showMinute o.stop] ++ (if o.late then ["LATE"] else []))) s
  | none => s

/-- The Running actions of the active record; under Maintenance only the late flag is kept (R140, R141, R147). -/
def runningActions (retake late : Bool) (s : State) : State :=
  match s.sched.active with
  | none => s
  | some o =>
    match place s.work.bookings o.booking with
    | none => s
    | some bk =>
      if withheld s then markLate late s
      else runningNotice (markLate late (runningEffects retake o bk s))

/-- An occurrence enters Running: the record moves over from the upcoming place, or is made anew (R138, R140). -/
def enterRunning (n : Nat) (bk : Booking) (d : Date) (late : Bool) (s : State) : State :=
  let o :=
    match s.sched.upcoming with
    | some u => if u.names n d then { u with phase := .running } else newOcc n bk d .running
    | none => newOcc n bk d .running
  let up := if named s.sched.upcoming n d then none else s.sched.upcoming
  runningActions false late (modSched (fun x => { x with active := some o, upcoming := up }) s)

/-- An occurrence enters Prewarm (R139). -/
def enterPrewarm (n : Nat) (bk : Booking) (d : Date) (s : State) : State :=
  prewarmActions (modSched (fun x => { x with upcoming := some (newOcc n bk d .prewarm) }) s)

/-! ## Phase ends -/

/-- The Running phase ends into Grace (R142). -/
def enterGrace (s : State) : State :=
  match s.sched.active with
  | none => s
  | some o =>
    let s1 := modSched (fun x => { x with active := some { o with phase := .grace } }) s
    if withheld s then s1
    else notify .booking .active (occFields o ["GRACE", showUntil (o.stop + o.grace)]) (clearUnlocked s1)

/-- At the end of a record a ONCE booking of that date is retired at once, and a WEEKLY booking whose valid-until lies before the
clock's date (R143). -/
def retireEnded (o : Occ) (s : State) : State :=
  match place s.work.bookings o.booking, s.sched.clock with
  | some bk, some c =>
    if (match bk.dates with
        | .once d => d == o.date
        | .weekly _ _ (some u) => decide (u < c.date)
        | .weekly _ _ none => false) then retireBooking o.booking s
    else s
  | _, _ => s

/-- The active record is emptied and becomes the last-ended memo (R143). -/
def emptyActive (o : Occ) (s : State) : State :=
  modSched (fun x => { x with active := none, lastEnded := some (o.booking, o.date) }) s

/-- The END notice of a record (R143), withheld under Maintenance (R147). -/
def endNotice (o : Occ) (s : State) : State := if withheld s then s else notify .booking .active (occFields o ["END"]) s

/-- The active record ends, with its retirement and its notice (R143, R144). The drop is the caller's. -/
def endActive (s : State) : State :=
  match s.sched.active with
  | none => s
  | some o => endNotice o (retireEnded o (emptyActive o s))

/-- The drop that a grace end calls for, made only when neither record names an occurrence in Prewarm or Running (R138, R143). -/
def scheduleDrop (s : State) : State := if recordCalls s || withheld s then s else drop .schedule s

/-! ## The evaluation -/

/-- The active record is in a phase. -/
def activeIn (s : State) (p : Phase) : Bool :=
  match s.sched.active with
  | some o => o.phase == p
  | none => false

/-- Step 1 of R138: a Running phase ends, into Grace or back to back. -/
def evalRunningEnds (c : HallClock) (s : State) : State :=
  match s.sched.active with
  | some o =>
    if o.phase = .running ∧ minuteAbs o.date o.stop ≤ c.abs then
      (if (otherRunning s c.date c.abs).isEmpty then enterGrace s else endActive s)
    else s
  | none => s

/-- The active record is Grace, and its Grace window is over. -/
def graceOver (c : HallClock) (s : State) : Bool :=
  match s.sched.active with
  | some o => o.phase == .grace && decide (o.graceEnd ≤ c.abs)
  | none => false

/-- Step 3 of R138: the next begins during Grace. -/
def evalNextInGrace (c : HallClock) (s : State) : State :=
  if activeIn s .grace ∧ (otherRunning s c.date c.abs).isEmpty = false then endActive s else s

/-- Whether a Running entry is late: it is not made at the minute edge of its start (R141). -/
def entryLate (c : HallClock) (edge : Bool) (bk : Booking) : Bool := !edge || c.secs != bk.start * 60

/-- Step 4 of R138: a Running phase begins. -/
def evalRunningBegins (c : HallClock) (edge : Bool) (s : State) : State :=
  match s.sched.active with
  | some _ => s
  | none =>
    match (otherRunning s c.date c.abs).filter (fun x => s.sched.lastEnded != some (x.1, c.date)) with
    | x :: _ => enterRunning x.1 x.2 c.date (entryLate c edge x.2) s
    | [] => s

/-- Step 5 of R138: a Prewarm begins. -/
def evalPrewarmBegins (c : HallClock) (s : State) : State :=
  match s.sched.upcoming with
  | some _ => s
  | none =>
    match earliest (prewarmHolding s c.date c.abs) with
    | some x => enterPrewarm x.1 x.2 c.date s
    | none => s

/-- The judgement of the records at an evaluation (R138). -/
def judgeRecords (c : HallClock) (edge : Bool) (s : State) : State :=
  let s1 := evalRunningEnds c s
  let s2 := if graceOver c s1 then endActive s1 else s1
  let s3 := evalPrewarmBegins c (evalRunningBegins c edge (evalNextInGrace c s2))
  if graceOver c s1 then scheduleDrop s3 else s3

/-- An evaluation (R138); `edge` says that it is made at a minute edge. -/
def evaluate (edge : Bool) (s : State) : State :=
  match s.sched.clock with
  | none => s
  | some c => withLock (fun x => judgeRecords c edge (retirePast c x)) s

/-! ## The clock set -/

/-- The active record is kept at a clock set: its own Running window holds the new time, or it is in Grace and its Grace window does
(R148). -/
def keptAtSet (c : HallClock) (o : Occ) : Bool :=
  windowHolds o.date o.start o.stop c.abs ||
    (o.phase == .grace && windowHolds o.date o.stop (o.stop + o.grace) c.abs)

/-- An active record that is emptied takes the unlocked flag with it (step 3 of R148), but under Maintenance (R147). -/
def releaseFlag (s : State) : State := if s.sched.active.isSome && !withheld s then clearUnlocked s else s

/-- The active record is emptied without Grace. No record names its booking any more, which is retired where its time has passed (R133,
step 3 of R148). -/
def dropActive (c : HallClock) (s : State) : State :=
  match s.sched.active with
  | none => s
  | some o => retireIfPast c (modSched (fun x => { x with active := none }) (releaseFlag s)) o.booking

/-- The upcoming record is kept while its Prewarm window holds the new time. Otherwise it is emptied, and its booking is retired where its
time has passed (R133, step 5 of R148). -/
def keepUpcoming (c : HallClock) (s : State) : State :=
  match s.sched.upcoming with
  | some o =>
    if windowHolds o.date (prewarmFrom s o.start) o.start c.abs then s
    else retireIfPast c (modSched (fun x => { x with upcoming := none }) s) o.booking
  | none => s

/-- Whether a clock set empties the active record. -/
def emptiedAtSet (c : HallClock) (s : State) : Bool :=
  match s.sched.active with
  | some o => !keptAtSet c o
  | none => false

/-- The occurrence that another booking's Running window gives at a clock set enters Running late (step 4 of R148). A record kept in
Grace ends as at a Running that begins during Grace (R144, notes/assumptions/18.md); one kept in another phase holds its place. -/
def enterAtSet (c : HallClock) (found : List (Nat × Booking)) (s : State) : State :=
  match found with
  | x :: _ => if s.sched.active.isNone || activeIn s .grace then enterRunning x.1 x.2 c.date true (endActive s) else s
  | [] => s

/-- The records derived anew for a new time (R148). An occurrence that the active record names is not found by its booking's window. -/
def deriveRecords (c : HallClock) (s : State) : State :=
  let gone := emptiedAtSet c s
  let s1 := if gone then dropActive c s else s
  let s2 := evalPrewarmBegins c (keepUpcoming c (enterAtSet c (otherRunning s c.date c.abs) s1))
  if gone then scheduleDrop s2 else s2

/-- The clock is set, and the engine retires and derives its records (R122, R148). The lock level is compared before and after the whole
of it: where one record is emptied and another with the same lock enters, no LOCK notice is placed for the idle level between the two
(DESIGN CHOICE, notes/assumptions/41.md). -/
def setClock (c : HallClock) (s : State) : State :=
  withLock (fun x =>
    deriveRecords c (retirePast c (modSched (fun y =>
      { y with clock := some c, minuteDue := false, endDue := false, lastEnded := none }) x))) s

/-- The clock becomes unset: both records are emptied, and the drop is made at once (R121, R148). -/
def endClock (s : State) : State :=
  withLock (fun x =>
    let x2 := modSched (fun y =>
      { y with clock := none, minuteDue := false, endDue := false, active := none, upcoming := none, lastEnded := none })
      (releaseFlag x)
    if x.sched.active.isSome || x.sched.upcoming.isSome then scheduleDrop x2 else x2) s

/-! ## Retaking, and idle auto-off -/

/-- The engine takes again the actions of its records, a Running one late (R147, R150). -/
def retakeActions (s : State) : State :=
  prewarmActions (if activeIn s .running then runningActions true true s else s)

/-- The idle limit, in seconds (R151). -/
def idleLimit (s : State) : Nat := s.work.settings.idle * 60

/-- Idle auto-off (R151). -/
def idleOff (s : State) : State := modSched (fun x => { x with idle := 0 }) (clearUnlocked (drop .idle s))

/-- The idle timer is 0 while the demand is 0, while a record is filled, and after an entry to Settled (R151). -/
def syncIdle (s : State) : State :=
  if s.lamp.count = 0 ∨ s.sched.active.isSome = true ∨ s.sched.upcoming.isSome = true ∨ s.sel.st = .settled then
    modSched (fun x => { x with idle := 0 }) s
  else s

end Sys2Proof.Machine
end

