-- ==== Sys2Proof/Machine/Events.lean ====
section
/-! DEFINITION. Machine/Events.lean: when each event that the part makes by itself has fallen due, and what it then does (chapters 1 to
9). An event that is not due changes nothing: its `due` guards it in Settle.lean. -/

namespace Sys2Proof.Machine

/-- An uptime has been reached. -/
def reached (s : State) (t : Option Nat) : Bool :=
  match t with
  | some x => decide (x ≤ s.uptime)
  | none => false

/-- A bay is in a state whose timer has ended. -/
def timerEnded (s : State) (b : Bay) (st : BaySt) : Bool := (bay s b).st == st && reached s (bay s b).timer

/-! ## The lamp bays -/

/-- The igniter is granted to the waiter that the arbiter chooses (R2, R16). -/
def grantIgniter (s : State) : State :=
  match grantee s with
  | some b => enterStriking b s
  | none => s

/-- The lit sense of a Striking bay is asserted (R3). -/
def strikeDue (s : State) (b : Bay) : Bool := (bay s b).st == .striking && s.pins.lit.get b

/-- A strike succeeds: Warming, and the Wear Counter's part of R29 (R3). -/
def strikeSucceeds (b : Bay) (s : State) : State :=
  askOwn (.lamp b) (changeRecord b strikeWon
    (modBay b (fun y => { y with st := .warming, timer := some (s.uptime + warmUp), burnSince := s.uptime })
      (leaveStriking b s)))

/-- The lamp record of a bay holds the Failed flag. -/
def recordFailed (s : State) (b : Bay) : Bool :=
  match lampRec s b with
  | some r => r.failed
  | none => false

/-- A bay enters Failed and leaves the wanted set (R4). -/
def enterFailed (b : Bay) (s : State) : State :=
  leaveWanted b (lampNotice b .failed (modBay b (fun y => { y with st := .failed, timer := none, doorFlag := .clear }) s))

/-- A strike fails: the Wear Counter's part of R29, and then the retry rest or Failed (R4). -/
def strikeFails (b : Bay) (s : State) : State :=
  let s1 := askOwn (.lamp b) (changeRecord b strikeLost (leaveStriking b s))
  if recordFailed s1 b then enterFailed b s1
  else dropExhausted b (modBay b (fun y => { y with st := .rest, timer := some (s.uptime + shortRest) }) s1)

/-- A warm-up ends: Lit, or Cooling where the bay is not wanted (R5). -/
def warmUpEnds (b : Bay) (s : State) : State :=
  if s.lamp.wanted.get b then
    lampNotice b .lit
      (modBay b (fun y => { y with st := .lit, timer := none, causeMark := false, lampLost := none, litSince := s.uptime }) s)
  else extinguish b s

/-- A bay's last loss is less than 3600 s old (R10). -/
def lossRecent (s : State) (b : Bay) : Bool :=
  match (bay s b).lastLoss with
  | some t => decide (s.uptime < t + hour)
  | none => false

/-- A burning lamp is lost (R10). -/
def lampLoss (b : Bay) (s : State) : State :=
  let s1 := modBay b (fun y => { y with lampLost := some s.uptime }) (extinguish b s)
  let s2 :=
    if lossRecent s b then leaveWanted b (modBay b (fun y => { y with lossBar := some (s.uptime + hour) }) s1)
    else if eligible s1 b then s1
    else leaveWanted b s1
  modBay b (fun y => { y with lastLoss := some s.uptime }) s2

/-- The lit sense of a bay is set. -/
def setLit (b : Bay) (v : Bool) (s : State) : State := { s with pins := { s.pins with lit := s.pins.lit.set b v } }

/-- The lit sense of a bay is asserted; a Striking bay's strike succeeds (R3). -/
def litAsserted (b : Bay) (s : State) : State :=
  let s1 := setLit b true s
  if (bay s1 b).st = .striking then strikeSucceeds b s1 else s1

/-- The lit sense of a bay drops; a burning bay's lamp is lost (R10). -/
def litDrops (b : Bay) (s : State) : State :=
  let s1 := setLit b false s
  if (bay s1 b).st.burning then lampLoss b s1 else s1

/-- Cooling ends in Rest (R6). -/
def coolingEnds (b : Bay) (s : State) : State :=
  modBay b (fun y => { y with st := .rest, timer := some (s.uptime + restTime) }) s

/-- A bay enters Dark (R7). -/
def enterDark (b : Bay) (s : State) : State :=
  lampNotice b .dark (modBay b (fun y => { y with st := .dark, timer := none, doorFlag := .clear }) s)

/-- A bay meets the strike conditions and has no stamp yet: its 150 s have run out (R2). -/
def holdoffDue (s : State) (b : Bay) : Bool := strikeReady s b && (bay s b).stamp.isNone

/-- The door-cycled flag at an opening of the door (R19). -/
def DoorFlag.onOpen : DoorFlag → DoorFlag
  | .clear | .cycled | .opened => .opened

/-- The door-cycled flag at a closing of the door (R19). -/
def DoorFlag.onClose : DoorFlag → DoorFlag
  | .opened => .cycled
  | f => f

/-- The door input of a bay is set. -/
def setDoor (b : Bay) (v : Bool) (s : State) : State := { s with pins := { s.pins with door := s.pins.door.set b v } }

/-- A closed lamp door opens (R9, R19). -/
def doorOpens (b : Bay) (s : State) : State :=
  if s.pins.door.get b then s
  else
    let s1 := modBay b (fun y => { y with doorFlag := y.doorFlag.onOpen, doorFault := y.doorFault || y.st.inUse }) (setDoor b true s)
    outByCause b s1

/-- An open lamp door closes (R9, R19). -/
def doorCloses (b : Bay) (s : State) : State :=
  if s.pins.door.get b then
    modBay b (fun y => { y with doorFlag := y.doorFlag.onClose, doorFault := false }) (setDoor b false s)
  else s

/-- The ballast fault input of a bay is set. -/
def setBallast (b : Bay) (v : Bool) (s : State) : State :=
  { s with pins := { s.pins with ballast := s.pins.ballast.set b v } }

/-- The ballast fault input of a bay is asserted (R9). -/
def ballastAsserts (b : Bay) (s : State) : State :=
  if s.pins.ballast.get b then s else outByCause b (setBallast b true s)

/-- The spacing has reached its uptime (R17). -/
def spacingDue (s : State) : Bool := reached s (s.lamp.spacing.map Prod.fst)

/-- The spacing becomes absent (R17). -/
def spacingEnds (s : State) : State := { s with lamp := { s.lamp with spacing := none } }

/-- The oldest entry of a bay's strike list is 3600 s old (R18). -/
def strikeListDue (s : State) (b : Bay) : Bool := reached s ((bay s b).strikes.head?.map (fun t => t + hour))

/-- The oldest entry leaves the strike list (R18). -/
def strikeListExpires (b : Bay) (s : State) : State := modBay b (fun y => { y with strikes := y.strikes.drop 1 }) s

/-- A bay's loss bar ends, and a bay that has become eligible fills a shortfall (R15). -/
def lossBarEnds (b : Bay) (s : State) : State := fillShortfall (modBay b (fun y => { y with lossBar := none }) s)

/-- A LampLost condition is 3600 s old (R10). -/
def lampLostDue (s : State) (b : Bay) : Bool := reached s ((bay s b).lampLost.map (fun t => t + hour))

/-- The LampLost condition ends (R10). -/
def lampLostEnds (b : Bay) (s : State) : State := modBay b (fun y => { y with lampLost := none }) s

/-! ## Lit seconds -/

/-- The next second boundary. -/
def boundary (s : State) : Nat := (s.secondsDone + 1) * second

/-- A second boundary has come whose lit seconds are not counted yet (R27). -/
def litSecondDue (s : State) : Bool := decide (boundary s ≤ s.uptime)

/-- The weight of a lit second (R27). -/
def litWeight (s : State) (b : Bay) : Nat :=
  (match (bayMode s b).effective with
    | some .full => 4
    | some .standard => 3
    | some .eco => 2
    | none => 0) + (if s.heat.level = .warn then 1 else 0)

/-- A bay has been Warming or Lit throughout the second that ends at the boundary (R27). -/
def burntThrough (s : State) (b : Bay) : Bool := (bay s b).st.burning && decide ((bay s b).burnSince + second ≤ boundary s)

/-- A bay has been Lit throughout that second (R53). -/
def litThrough (s : State) (b : Bay) : Bool := (bay s b).st == .lit && decide ((bay s b).litSince + second ≤ boundary s)

/-- The boundary at which a bay's unsaved count reaches its top is noted (R36). -/
def noteTop (b : Bay) (s : State) : State :=
  if s.wear.get b + 1 = unsavedTop then modBay b (fun y => { y with topAt := some (boundary s) }) s else s

/-- A lit second of a bay: the Wear Counter's part (R27, R36). -/
def countWear (b : Bay) (s : State) : State :=
  if burntThrough s b then
    { noteTop b s with
      work := { s.work with lamps := s.work.lamps.set b ((lampRec s b).map (fun r =>
        { r with litSeconds := satAdd litSecTop r.litSeconds 1, fraction := r.fraction + litWeight s b })) }
      wear := s.wear.set b (satAdd unsavedTop (s.wear.get b) 1) }
  else s

/-- A bay's conditioning counters after a lit second at its effective mode (R53, R56). -/
def BayMode.tick (m : BayMode) : BayMode :=
  match m.effective with
  | some .eco => { m with ecoSec := m.ecoSec + 1 }
  | some .full => { m with run := m.run + 1 }
  | _ => m

/-- A lit second of a bay: the Mode Unit's part (R53, R56). -/
def countMode (b : Bay) (s : State) : State := if litThrough s b then modBayMode b BayMode.tick s else s

/-- The lit seconds of a second boundary (R27, R53). -/
def litSecondPasses (s : State) : State :=
  let s1 := countMode .bayB (countMode .bayA (countWear .bayB (countWear .bayA s)))
  { s1 with secondsDone := s.secondsDone + 1 }

/-- A bay's fraction has reached 60 (R28). -/
def carryDue (s : State) (b : Bay) : Bool :=
  match lampRec s b with
  | some r => decide (60 ≤ r.fraction)
  | none => false

/-- 60 leaves the fraction and one quarter-unit joins the wear (R28). -/
def wearCarries (b : Bay) (s : State) : State :=
  dropExhausted b (changeRecord b (fun r => addWear 1 { r with fraction := r.fraction - 60 }) s)

/-- A bay's unsaved count has reached 600, and no write of its record waits (R36). -/
def unsavedDue (s : State) (b : Bay) : Bool := decide (unsavedTop ≤ s.wear.get b) && !writeWaits s (.lamp b)

/-! ## Conditioning -/

/-- A bay's eco seconds have reached 60 (R53). -/
def ecoMinuteDue (s : State) (b : Bay) : Bool := decide (60 ≤ (bayMode s b).ecoSec)

/-- An eco-minute is complete (R53). -/
def ecoMinutePasses (b : Bay) (s : State) : State :=
  modBayMode b (fun m => { m with ecoSec := 0, ecoMin := m.ecoMin + 1 }) s

/-- A bay's eco-minute counter has reached the interval in force (R54). -/
def conditioningIsDue (s : State) (b : Bay) : Bool :=
  decide (0 < (bayMode s b).ecoMin) && decide (intervalInForce s ≤ (bayMode s b).ecoMin)

/-- A due: a credit is spent, or debt rises by 1 up to 4 (R55). -/
def BayMode.fallDue (m : BayMode) : BayMode :=
  if 0 < m.credit then { m with ecoMin := 0, credit := m.credit - 1 } else { m with ecoMin := 0, debt := satAdd 4 m.debt 1 }

/-- A conditioning due falls for a bay (R55). -/
def conditioningFalls (b : Bay) (s : State) : State := modBayMode b BayMode.fallDue s

/-- A bay's Full-run counter has reached 600 (R56). -/
def fullRunDue (s : State) (b : Bay) : Bool := decide (fullRun ≤ (bayMode s b).run)

/-- A complete run: debt falls or credit rises; an override is judged anew by R57 (R56, R59). -/
def BayMode.runDone (m : BayMode) : BayMode :=
  if 0 < m.debt then { m with run := 0, debt := m.debt - 1, override := .none }
  else { m with run := 0, credit := satAdd 2 m.credit 1, override := .none }

/-- A Full run of a bay completes (R56). -/
def fullRunCompletes (b : Bay) (s : State) : State := modBayMode b BayMode.runDone s

/-! ## Heat -/

/-- A count of consecutive readings that meet a condition (R64, R65, R68). -/
def runCount (c : Bool) (n : Nat) : Nat := if c then satAdd 3 n 1 else 0

/-- The sensor counts of a housing reading (R64). -/
def Heat.judgeSensor (h : Heat) (t : Int) : Heat :=
  { h with faultCount := runCount (t == -20) h.faultCount, clearCount := runCount (t != -20) h.clearCount }

/-- The level counts of a housing reading; −20 leaves them as they stand (R64, R65). -/
def Heat.judgeLevel (h : Heat) (t : Int) : Heat :=
  if t = -20 then h
  else
    { h with
      atLeast78 := runCount (decide (78 ≤ t)) h.atLeast78
      atLeast92 := runCount (decide (92 ≤ t)) h.atLeast92
      below80 := runCount (decide (t < 80)) h.below80
      below70 := runCount (decide (t < 70)) h.below70 }

/-- The hall counts of an ambient reading (R68). -/
def Heat.judgeHall (h : Heat) (t : Int) : Heat :=
  { h with atLeast35 := runCount (decide (35 ≤ t)) h.atLeast35, below32 := runCount (decide (t < 32)) h.below32 }

/-- A conversion's limits (R63). -/
def limitReading (t : Int) : Int := clampInt (-20) 150 t

/-- A pair of conversions (R63). -/
def convert (housing ambient : Int) (s : State) : State :=
  let x := limitReading housing
  let y := limitReading ambient
  { s with heat :=
      ((({ s.heat with housing := some x, ambient := some y }).judgeSensor x).judgeLevel x).judgeHall y }

/-- The housing sensor fault is to change (R64). -/
def sensorFaultDue (s : State) : Bool :=
  if s.heat.sensorFault then decide (3 ≤ s.heat.clearCount) else decide (3 ≤ s.heat.faultCount)

/-- The housing sensor fault appears or ends (R64). -/
def sensorFaultChanges (s : State) : State :=
  { s with heat := { s.heat with sensorFault := !s.heat.sensorFault, faultCount := 0, clearCount := 0 } }

/-- The thermal level that the counts call for, if it is to change (R65). -/
def nextLevel (h : Heat) : Option Thermal :=
  match h.level with
  | .normal => if 3 ≤ h.atLeast92 then some .shutdown else if 3 ≤ h.atLeast78 then some .warn else none
  | .warn => if 3 ≤ h.atLeast92 then some .shutdown else if 3 ≤ h.below70 then some .normal else none
  | .shutdown => if 3 ≤ h.below80 then some .warn else none

/-- The thermal level takes a value, and the four counts become 0 (R65). -/
def setLevel (l : Thermal) (s : State) : State :=
  { s with heat := { s.heat with level := l, atLeast78 := 0, atLeast92 := 0, below80 := 0, below70 := 0 } }

/-- The HEAT notice of the housing (R65). -/
def heatNotice (s : State) : State := notify .heat .housing [showThermal s.heat.level, showOpt showInt s.heat.housing] s

/-- Entry to Shutdown: the forced cause on both bays, and the drop (R67), which lets either come first; the cause comes first here,
and bay A before bay B (DESIGN CHOICE, notes/assumptions/37.md). -/
def enterShutdown (s : State) : State := drop .heat (forceOut .bayB (forceOut .bayA s))

/-- The thermal level changes (R65, R67). -/
def levelChanges (s : State) : State :=
  match nextLevel s.heat with
  | some .shutdown => enterShutdown (heatNotice (setLevel .shutdown s))
  | some l => heatNotice (setLevel l s)
  | none => s

/-- The hot-hall flag is to change (R68). -/
def hallDue (s : State) : Bool := if s.heat.hot then decide (3 ≤ s.heat.below32) else decide (3 ≤ s.heat.atLeast35)

/-- The hot-hall flag changes (R68). The notice's word for the flag is PRESUMED, notes/assumptions/17.md. -/
def hallChanges (s : State) : State :=
  let s1 := { s with heat := { s.heat with hot := !s.heat.hot, atLeast35 := 0, below32 := 0 } }
  notify .heat .ambient [showYes s1.heat.hot, showOpt showInt s1.heat.ambient] s1

/-- A tach pulse: a stall ends, and the stall timer restarts while the fan is at Normal or High (R70). -/
def tachPulses (s : State) : State :=
  { s with heat := { s.heat with
      stall := false, stallFrom := if s.heat.fan = .low then none else some s.uptime } }

/-- The stall timer has reached 5 s (R70). -/
def stallDue (s : State) : Bool := reached s (s.heat.stallFrom.map (fun t => t + stallTime))

/-- The fan is judged stalled (R70). -/
def fanStalls (s : State) : State := { s with heat := { s.heat with stall := true, stallFrom := none } }

/-! ## The selector -/

/-- A switch locks: two lockable samples of one class (R90). -/
def switchLockDue (s : State) : Bool := s.sel.st == .switching && s.sel.req.isSome && decide (2 ≤ s.sel.lockRun.count)

/-- The 5 s of a switch have passed (R91). -/
def switchTimeoutDue (s : State) : Bool :=
  s.sel.st == .switching && reached s (s.sel.req.map (fun r => r.start + switchTime))

/-- Five absent samples of the settled port (R93). -/
def lossDue (s : State) : Bool := s.sel.st == .settled && decide (5 ≤ s.sel.lossRun)

/-- Two samples of a new class on the settled port (R94). -/
def classDue (s : State) : Bool := s.sel.st == .settled && decide (2 ≤ s.sel.classRun.count)

/-- The class-change timer has reached 1 s (R94). -/
def classTimerDue (s : State) : Bool := reached s (s.sel.classTimer.map (fun t => t + classTime))

/-- The class-change timer ends (R94). -/
def classTimerEnds (s : State) : State := modSel (fun x => { x with classTimer := none }) s

/-- A lock on the selected port in NoSignal (R95). -/
def noSignalLockDue (s : State) : Bool := s.sel.st == .noSignal && decide (2 ≤ s.sel.lockRun.count)

/-- A lock on the dwell port (R97). -/
def dwellLockDue (s : State) : Bool := s.sel.st == .scanning && decide (2 ≤ s.sel.lockRun.count)

/-- A dwell has lasted 3 s (R97). -/
def dwellEndDue (s : State) : Bool := s.sel.st == .scanning && decide (s.sel.dwellFrom + dwellTime ≤ s.uptime)

/-- The ports are sampled, and the selector judges the sample (R73). -/
def samplesTaken (l : List PortReading) (s : State) : State := judgeSample { s with ports := samplePorts s.ports l }

/-! ## Geometry -/

/-- A tilt read's value where it is valid (R104). -/
def validTilt (r : Option Int) : Option Int :=
  match r with
  | some x => if -450 ≤ x ∧ x ≤ 450 then some x else none
  | none => none

/-- A tilt read joins the ring; the invalid run and the end of TiltInvalid follow (R104, R105). -/
def tiltReads (r : Option Int) (s : State) : State :=
  { s with geo := { s.geo with
      ring := (s.geo.ring ++ [validTilt r]).drop 1
      invalidRun := if (validTilt r).isSome then 0 else satAdd 20 s.geo.invalidRun 1
      tiltInvalid := s.geo.tiltInvalid && (validTilt r).isNone } }

/-- The invalid run has reached 20 (R105). -/
def tiltInvalidDue (s : State) : Bool := decide (20 ≤ s.geo.invalidRun) && !s.geo.tiltInvalid

/-- The TiltInvalid condition begins (R105). -/
def tiltInvalidBegins (s : State) : State := { s with geo := { s.geo with tiltInvalid := true } }

/-- A second boundary has come whose cadence computation is not made yet (R107). -/
def cadenceDue (s : State) : Bool := decide ((s.cadenceDone + 1) * second ≤ s.uptime)

/-- The stabiliser's part of a cadence computation (R106, R107, R108). -/
def cadenceTilt (s : State) : Geo :=
  if !autoTiltOn s then tiltOff s.geo
  else if s.geo.imm then tiltImmediate s
  else stabilise s

/-- The third agreement in a row (R107). -/
def confirmDue (s : State) : Bool := decide (3 ≤ s.geo.agree) && s.geo.cand.isSome

/-- The cadence computation. At the third agreement the totals wait for AUTO_TILT_CONFIRM, which follows at once (R107, R109). -/
def cadence (s : State) : State :=
  let s1 := { s with cadenceDone := s.cadenceDone + 1, geo := cadenceTilt s }
  if confirmDue s1 then s1 else handOver (totals s1)

/-- The candidate becomes the applied A, and the computation goes on with it (R107, R109). -/
def confirmTilt (s : State) : State :=
  match s.geo.cand with
  | some x => handOver (totals { s with geo := { s.geo with applied := x, cand := none, agree := 0 } })
  | none => s

/-- WARP READY accepts the set in flight, whichever it is: a late one after RESTART too (R113, R119; DESIGN CHOICE,
notes/assumptions/32.md). -/
def warpAccepts (s : State) : State :=
  match s.geo.inFlight with
  | none => s
  | some (c, _) =>
    let s1 := { s with geo := { s.geo with appliedSet := some c, inFlight := none, warpNoReply := false, nextSlot := none } }
    match s.geo.nextSlot with
    | some n => sendSet n s1
    | none => s1

/-- The reply window of the set in flight has ended (R113). -/
def warpWindowDue (s : State) : Bool := reached s (s.geo.inFlight.map (fun x => x.2 + warpWindow))

/-- The set in flight is dropped, and WarpNoReply begins (R113). -/
def warpWindowEnds (s : State) : State := { s with geo := { s.geo with inFlight := none, warpNoReply := true } }

/-! ## The schedule -/

/-- The hall clock has entered a new minute (R120). -/
def minuteEdgeDue (s : State) : Bool := s.sched.minuteDue && s.sched.clock.isSome

/-- The evaluation of a minute edge (R120, R138). -/
def minuteEdgePasses (s : State) : State := evaluate true (modSched (fun x => { x with minuteDue := false }) s)

/-- The clock has passed the last second of 2099-12-31 (R121). -/
def clockEndDue (s : State) : Bool := s.sched.endDue && s.sched.clock.isSome

/-- The idle timer has reached the idle limit (R151). -/
def idleDue (s : State) : Bool := decide (idleLimit s ≤ s.sched.idle) && decide (0 < s.sched.idle)

end Sys2Proof.Machine
end

