-- ==== Sys2Proof/Machine/Settle.lean ====
section
/-! DEFINITION. Machine/Settle.lean: what follows every event at once (effective modes, fan, waiter stamps, faults), and the events that
follow another event at the same moment, each taken before any further event (notes/assumptions/3.md). -/

namespace Sys2Proof.Machine

/-- What is derived from the state follows it: the effective modes and overrides, the fan, the end of a scan, the idle timer and the
waiter stamps. It is worked out once, after the whole of an event: where one event ends a Running record and begins another (back to
back, or at a clock set), R57 sees the new record alone, and no postponed override starts between the two (DESIGN CHOICE,
notes/assumptions/27.md). -/
def follow (s : State) : State := syncWaiters (syncIdle (syncScan (syncFan (syncMode s))))

/-- The same, and then the Fault Table. -/
def settle (s : State) : State := syncFaults (follow s)

/-- The next event has its own number; waiter stamps carry it (R16). -/
def nextEvent (s : State) : State := { s with events := s.events + 1 }

/-- An event takes place as the next one, and the state settles. -/
def happen (f : State → State) (s : State) : State := settle (f (nextEvent s))

/-- An event that is not due changes nothing; one that is due takes place. -/
def ifDue (due : State → Bool) (f : State → State) (s : State) : State := if due s then happen f s else s

/-! ## The events that follow another at once -/

/-- HOUSING_SENSOR_FAULT (R64). -/
def fuSensor : State → State := ifDue sensorFaultDue sensorFaultChanges
/-- THERMAL_LEVEL_CHANGE (R65). -/
def fuLevel : State → State := ifDue (fun s => (nextLevel s.heat).isSome) levelChanges
/-- HOT_HALL_CHANGE (R68). -/
def fuHall : State → State := ifDue hallDue hallChanges
/-- WEAR_CARRY (R28). -/
def fuCarry (b : Bay) : State → State := ifDue (fun s => carryDue s b) (wearCarries b)
/-- UNSAVED_WRITE (R36): a carry of the same lit second comes before it (R28), so that the write holds it. -/
def fuUnsaved (b : Bay) (s : State) : State := ifDue (fun x => unsavedDue x b) (askOwn (.lamp b)) (fuCarry b s)
/-- ECO_MINUTE (R53). -/
def fuEco (b : Bay) : State → State := ifDue (fun s => ecoMinuteDue s b) (ecoMinutePasses b)
/-- CONDITIONING_DUE (R55). -/
def fuConditioning (b : Bay) : State → State := ifDue (fun s => conditioningIsDue s b) (conditioningFalls b)
/-- FULL_RUN_COMPLETE (R56). -/
def fuFullRun (b : Bay) : State → State := ifDue (fun s => fullRunDue s b) (fullRunCompletes b)
/-- SWITCH_LOCK (R90). -/
def fuSwitchLock : State → State := ifDue switchLockDue switchLocks
/-- SIGNAL_LOSS (R93). -/
def fuLoss : State → State := ifDue lossDue signalLost
/-- CLASS_CHANGE (R94). -/
def fuClass : State → State := ifDue classDue classChanged
/-- NOSIGNAL_LOCK (R95). -/
def fuNoSignalLock : State → State := ifDue noSignalLockDue noSignalLocks
/-- DWELL_LOCK (R97). -/
def fuDwellLock : State → State := ifDue dwellLockDue dwellLocks
/-- TILT_INVALID (R105). -/
def fuTilt : State → State := ifDue tiltInvalidDue tiltInvalidBegins
/-- AUTO_TILT_CONFIRM (R107). -/
def fuConfirm : State → State := ifDue confirmDue confirmTilt
/-- IGNITER_GRANT (R16). -/
def fuGrant : State → State := ifDue (fun s => (grantee s).isSome) grantIgniter
/-- STRIKE_SUCCESS of a bay whose lit sense is already asserted (R3). -/
def fuStrike (b : Bay) : State → State := ifDue (fun s => strikeDue s b) (strikeSucceeds b)

/-- The heat events, and the counters of wear and conditioning. -/
def completeCounts (s : State) : State :=
  fuFullRun .bayB (fuFullRun .bayA (fuConditioning .bayB (fuConditioning .bayA (fuEco .bayB (fuEco .bayA
    (fuCarry .bayB (fuCarry .bayA (fuHall (fuLevel (fuSensor s))))))))))

/-- A strike whose lit sense is there already (R3). -/
def completeStrikes (s : State) : State := fuStrike .bayB (fuStrike .bayA s)

/-- The events that follow what has just happened before anything else can be taken, each in the order of causes. -/
def completeCore (s : State) : State := completeStrikes (fuConfirm (fuTilt (completeCounts s)))

/-- A lock, a loss or a class change after a sample. A request or a table change may be taken before it (R85, R92). -/
def completePicture (s : State) : State := fuDwellLock (fuNoSignalLock (fuClass (fuLoss (fuSwitchLock s))))

/-- The writes that the unsaved counts call for. An exit from Warming or Lit may be taken before them, and then its own write serves both
(R36). -/
def completeUnsaved (s : State) : State := fuUnsaved .bayB (fuUnsaved .bayA s)

/-- Every event that follows what has just happened is taken, but the writes for the unsaved counts: the grant among them, before which a
drop of the demand may be taken (R16). -/
def complete (s : State) : State := completeStrikes (fuGrant (completePicture (completeCore s)))

/-- No event waits to follow what has happened. -/
def quiescent (s : State) : Bool :=
  !(sensorFaultDue s || (nextLevel s.heat).isSome || hallDue s || carryDue s .bayA || carryDue s .bayB || unsavedDue s .bayA ||
    unsavedDue s .bayB || ecoMinuteDue s .bayA || ecoMinuteDue s .bayB || conditioningIsDue s .bayA ||
    conditioningIsDue s .bayB || fullRunDue s .bayA || fullRunDue s .bayB || switchLockDue s || lossDue s || classDue s ||
    noSignalLockDue s || dwellLockDue s || tiltInvalidDue s || confirmDue s || (grantee s).isSome || strikeDue s .bayA ||
    strikeDue s .bayB)

/-- What stands before a command is taken, which has its own number: the events that must come first have taken place. A lock, a loss
and a grant that are due wait for their own rows or for an idle part, so that a command that arrives together with one is taken
before it or after it, as the queue has them (R16, R85, R92). -/
def ready (s : State) : State := nextEvent (completeCore s)

/-- A further event takes place after all that the last one has brought about. -/
def event (f : State → State) (s : State) : State := settle (f (nextEvent (complete s)))

/-- A timed event: it takes place where it has fallen due, and changes nothing otherwise. -/
def timed (due : State → Bool) (f : State → State) (s : State) : State := ifDue due f (complete s)

/-- A frame, a forced cause at a bay, a pair of conversions or the end of a write: as for a command, a lock and a grant may be taken
before it or after it (R9, R16, R67, R92). -/
def eventLoose (f : State → State) (s : State) : State := settle (f (ready s))

/-- A timed event that may make a request or drop the demand, or take a frame that does: a lock and a grant may be taken before it or
after it (R16, R92). -/
def timedLoose (due : State → Bool) (f : State → State) (s : State) : State := ifDue due f (completeCore s)

end Sys2Proof.Machine
end

