-- ==== Sys2Proof/Machine/Reply.lean ====
section
/-! DEFINITION. Machine/Reply.lean: the frames that the part sends, the answer to a command, its wait for the Settings Store, and the
refusals every command shares (R169, R174, R182, R184). -/

namespace Sys2Proof.Machine

/-! ## Frames out -/

/-- The sum of character codes, modulo 256 (R169). -/
def checkOf (cs : List Char) : Byte := BitVec.ofNat 8 ((cs.map Char.toNat).sum)

/-- A frame: a start character, the address, the originator, a space, the body and the check (section 11.1). -/
def frameOf (start : Char) (addr : Nat) (orig : Byte) (words : List String) : List Char :=
  let inner := (show2 addr).toList ++ hexChars orig ++ (' ' :: joinWords words)
  start :: (inner ++ ('*' :: hexChars (checkOf inner)) ++ [Char.ofNat 13])

/-- The time that characters take on either port at 19,200 baud with ten bits each, in whole milliseconds, rounded up (R168). -/
def sendTime (n : Nat) : Nat := (n * 25 + 47) / 48

/-- A port's channel. -/
def chan (s : State) : CmdPort → Channel
  | .line => s.comms.line
  | .lectern => s.comms.lectern

/-- A port's channel is changed. -/
def modChan (p : CmdPort) (f : Channel → Channel) (s : State) : State :=
  match p with
  | .line => { s with comms := { s.comms with line := f s.comms.line } }
  | .lectern => { s with comms := { s.comms with lectern := f s.comms.lectern } }

/-- The transmitter of a port is sending. -/
def sending (s : State) (p : CmdPort) : Bool :=
  match (chan s p).txUntil with
  | some t => decide (s.uptime < t)
  | none => false

/-- A port begins to send a frame. -/
def transmit (p : CmdPort) (cs : List Char) (s : State) : State :=
  modChan p (fun c => { c with txUntil := some (s.uptime + sendTime cs.length), sent := some cs }) s

/-- The words of a reply whose writes have ended: NO STORE if one of them failed (R184). -/
def Waiting.body (w : Waiting) : List String := if w.failed then ["NO", "STORE"] else w.words

/-- The frame of a reply (R174). -/
def replyFrame (s : State) (w : Waiting) : List Char := frameOf '<' (w.addr.getD s.work.settings.address) w.orig w.body

/-- A reply on a port can begin to be sent: its writes have ended and the transmitter is free. -/
def replyReady (s : State) (p : CmdPort) : Bool :=
  match (chan s p).reply with
  | some w => w.outstanding == 0 && !sending s p
  | none => false

/-- The waiting reply of a port begins to be sent. -/
def sendReply (p : CmdPort) (s : State) : State :=
  match (chan s p).reply with
  | some w => transmit p (replyFrame s w) (modChan p (fun c => { c with reply := none }) s)
  | none => s

/-- The waiting reply of a port begins to be sent, where it can. -/
def sendIfReady (p : CmdPort) (s : State) : State := if replyReady s p then sendReply p s else s

/-! ## Answers -/

/-- What a command makes of the state, with its reply: the words, the writes the reply waits for, and the address it carries where
that is not the unit address. No words: the reply is made later. -/
structure Answer where
  st : State
  words : List String
  writes : Nat
  addr : Option Nat

/-- A refusal leaves the state as it was (R174). -/
def no (reason : String) (s : State) : Answer := ⟨s, ["NO", reason], 0, none⟩

/-- A refusal with the number that CONFLICT and INUSE carry. -/
def noWith (reason what : String) (s : State) : Answer := ⟨s, ["NO", reason, what], 0, none⟩

/-- An acceptance: the state settles, and the reply's fields are read from it. -/
def yes (s : State) (fields : State → List String) (writes : Nat := 0) : Answer :=
  let s1 := settle s
  ⟨s1, "OK" :: fields s1, writes, none⟩

/-- A query: nothing changes. -/
def tell (s : State) (fields : List String) : Answer := ⟨s, "OK" :: fields, 0, none⟩

/-- A command asks for a write that its reply waits for; the command of a broadcast has no reply (R170, R184). -/
def ask (snd : Sender) (k : RecKey) (s : State) : State := askFor (if snd.broadcast then [] else [snd.port]) k s

/-- The reply of an answer is placed at its port, and begins to be sent where it can; a broadcast has none (R170, R174). -/
def answer (snd : Sender) (a : Answer) : State :=
  if snd.broadcast || a.words.isEmpty then a.st
  else
    sendIfReady snd.port
      (modChan snd.port (fun c => { c with reply := some ⟨snd.orig, a.words, a.addr, a.writes, false⟩ }) a.st)

/-- A port's next command waits: a reply on it has not begun to be sent, or a RESTART waits for the store (R174, R177). -/
def portBusy (s : State) (p : CmdPort) : Bool := (chan s p).reply.isSome || s.comms.restartBy.isSome

/-- A body with two spaces together, or a space at its end, is answered NO ARGS (R174). -/
def bodyFault (words : List String) : Bool := words.any (fun w => w.isEmpty)

/-- A taken command is judged: first its body, then its own rule, whose first check is the class (R174; that order is a DESIGN CHOICE,
notes/assumptions/39.md). -/
def judge (words : List String) (cmd : State → Answer) (s : State) : Answer := if bodyFault words then no "ARGS" s else cmd s

/-- The line is Deaf to a sender on the line: no frame is taken (R173). -/
def deafTo (s : State) (snd : Sender) : Bool := snd.port == .line && s.comms.deaf

/-- A command that is taken on its port, at once or after the reply before it (R174). -/
def takeOn (snd : Sender) (words : List String) (cmd : State → Answer) (s : State) : State :=
  if deafTo s snd then s
  else if portBusy s snd.port then modChan snd.port (fun c => { c with inbox := c.inbox ++ [(snd, words)] }) s
  else answer snd (judge words cmd s)

/-! ## Refusals by class and lock level -/

/-- The sender's class is below a class. -/
def below (snd : Sender) (c : Cls) : Bool := decide (snd.cls.rank < c.rank)

/-- The checks that a command of at least a class makes, in their order: class, form, lock level (R157, R158). -/
def gate (snd : Sender) (c : Cls) (formOk : Bool) (s : State) (k : State → Answer) : Answer :=
  if below snd c then no "CLASS" s
  else if !formOk then no "ARGS" s
  else if lockedOut s snd.cls then no "LOCKED" s
  else k s

/-- A command without arguments. -/
def noArgs (args : List String) : Bool := args.isEmpty

/-- A query without arguments, open to every class at every level. -/
def query (args : List String) (s : State) (fields : State → List String) : Answer :=
  if noArgs args then tell s (fields s) else no "ARGS" s

end Sys2Proof.Machine
end

