-- ==== Sys2Proof/Machine/Operands.lean ====
section
/-! DEFINITION. Machine/Operands.lean: the forms that commands' arguments take: profile and booking fields as keyword and value pairs,
the place or port of a switch, codes and filters (R81, R99, R124, R162, R172). -/

namespace Sys2Proof.Machine

/-! ## Small forms -/

/-- A number of a place, 1 to `top`. -/
def parsePlace (top : Nat) (w : String) : Option Nat := parseNatIn 1 top w

/-- A word, or NONE for an absent field. -/
def parseOrNone {α : Type} (f : String → Option α) (w : String) : Option (Option α) :=
  if w = "NONE" then some none else (f w).map some

/-- A label of up to `top` characters. -/
def parseLabel (top : Nat) (w : String) : Option String := if isLabel top w then some w else none

/-- The words of a list between commas. -/
def splitCommas : List Char → List (List Char)
  | [] => [[]]
  | c :: cs =>
    if c = ',' then [] :: splitCommas cs
    else
      match splitCommas cs with
      | w :: ws => (c :: w) :: ws
      | [] => [[c]]

/-- The weekdays of a list of words. -/
def weekdaysOf : List (List Char) → Option (List Weekday)
  | [] => some []
  | w :: ws =>
    match parseWeekday (String.ofList w), weekdaysOf ws with
    | some d, some l => if d ∈ l then none else some (d :: l)
    | _, _ => none

/-- A DAYS value: weekday words joined by commas, each at most once, kept in the order of the week (R124). -/
def parseDays (w : String) : Option (List Weekday) :=
  (weekdaysOf (splitCommas w.toList)).map (fun l => Weekday.all.filter (fun d => d ∈ l))

/-- A field given once. -/
def once {α β : Type} (cur : Option α) (v : Option α) (put : Option α → β) : Option β :=
  match cur, v with
  | none, some x => some (put (some x))
  | _, _ => none

/-- Keyword and value pairs read into a draft; an odd word is malformed. -/
def readPairs {α : Type} (f : α → String → String → Option α) : α → List String → Option α
  | d, [] => some d
  | _, [_] => none
  | d, k :: v :: l =>
    match f d k v with
    | some e => readPairs f e l
    | none => none

/-! ## Profiles -/

/-- The fields that a PROFILE names. -/
structure ProfileDraft where
  port : Option VPort
  cls : Option (Option Nat)
  label : Option (Option String)
  aspect : Option Aspect
  vTrim : Option Int
  hTrim : Option Int
  tilt : Option Bool
  loss : Option LossB
  rank : Option (Option Nat)

/-- A PROFILE that names nothing. -/
def ProfileDraft.empty : ProfileDraft := ⟨none, none, none, none, none, none, none, none, none⟩

/-- A CLASS value: 1..31 or ANY. -/
def parseClassWord (w : String) : Option (Option Nat) := if w = "ANY" then some none else (parseNatIn 1 31 w).map some

/-- A V trim, brought into its range (R81, R84). -/
def clampV (x : Int) : Int := clampInt (-40) 40 x

/-- An H trim, brought into its range (R81, R84). -/
def clampH (x : Int) : Int := clampInt (-30) 30 x

/-- One pair of a PROFILE (R81). -/
def profilePair (d : ProfileDraft) (k v : String) : Option ProfileDraft :=
  match k with
  | "PORT" => once d.port (parsePort v) (fun x => { d with port := x })
  | "CLASS" => once d.cls (parseClassWord v) (fun x => { d with cls := x })
  | "LABEL" => once d.label (parseOrNone (parseLabel 12) v) (fun x => { d with label := x })
  | "ASPECT" => once d.aspect (parseAspect v) (fun x => { d with aspect := x })
  | "VTRIM" => once d.vTrim ((parseInt v).map clampV) (fun x => { d with vTrim := x })
  | "HTRIM" => once d.hTrim ((parseInt v).map clampH) (fun x => { d with hTrim := x })
  | "TILT" => once d.tilt (parseOn v) (fun x => { d with tilt := x })
  | "LOSS" => once d.loss (parseLoss v) (fun x => { d with loss := x })
  | "RANK" => once d.rank (parseOrNone (parseNatIn 1 16) v) (fun x => { d with rank := x })
  | _ => none

/-- The record that a PROFILE makes at an empty place: fields not named take their defaults (R82). -/
def ProfileDraft.create (d : ProfileDraft) (port : VPort) : Profile :=
  { port := port, cls := d.cls.getD none, label := d.label.getD none, aspect := d.aspect.getD .r16x10,
    vTrim := d.vTrim.getD 0, hTrim := d.hTrim.getD 0, autoTilt := d.tilt.getD true, loss := d.loss.getD .blank,
    rank := d.rank.getD none }

/-- The record that a PROFILE makes of another: fields not named keep their values (R82). -/
def ProfileDraft.change (d : ProfileDraft) (p : Profile) : Profile :=
  { port := d.port.getD p.port, cls := d.cls.getD p.cls, label := d.label.getD p.label, aspect := d.aspect.getD p.aspect,
    vTrim := d.vTrim.getD p.vTrim, hTrim := d.hTrim.getD p.hTrim, autoTilt := d.tilt.getD p.autoTilt,
    loss := d.loss.getD p.loss, rank := d.rank.getD p.rank }

/-- The record that would result, or none where an empty place gets no port (R81). -/
def ProfileDraft.result (d : ProfileDraft) (old : Option Profile) : Option Profile :=
  match old with
  | some p => some (d.change p)
  | none => d.port.map d.create

/-! ## Bookings -/

/-- The fields that a BOOK or a REBOOK names. `weekly` is the kind. -/
structure BookDraft where
  weekly : Option Bool
  days : Option (List Weekday)
  date : Option Date
  start : Option Nat
  stop : Option Nat
  validFrom : Option Date
  validUntil : Option Date
  source : Option (Option Nat)
  mode : Option (Option LampMode)
  lamps : Option (Option Nat)
  lock : Option BookLock
  owner : Option (Option Nat)
  ownerOnly : Option Bool
  grace : Option Nat
  label : Option (Option String)

/-- A booking command that names nothing. -/
def BookDraft.empty : BookDraft :=
  ⟨none, none, none, none, none, none, none, none, none, none, none, none, none, none, none⟩

/-- A KIND value. -/
def parseKind (w : String) : Option Bool :=
  match w with
  | "WEEKLY" => some true
  | "ONCE" => some false
  | _ => none

/-- A START value, 00:00 to 23:59. -/
def parseStart (w : String) : Option Nat := (parseMinute w).filter (fun m => m < 1440)

/-- An END value, 00:01 to 24:00. -/
def parseStop (w : String) : Option Nat := (parseMinute w).filter (fun m => 0 < m)

/-- One pair of a booking command (R124). -/
def bookPair (d : BookDraft) (k v : String) : Option BookDraft :=
  match k with
  | "KIND" => once d.weekly (parseKind v) (fun x => { d with weekly := x })
  | "DAYS" => once d.days (parseDays v) (fun x => { d with days := x })
  | "DATE" => once d.date (parseDate v) (fun x => { d with date := x })
  | "START" => once d.start (parseStart v) (fun x => { d with start := x })
  | "END" => once d.stop (parseStop v) (fun x => { d with stop := x })
  | "FROM" => once d.validFrom (parseDate v) (fun x => { d with validFrom := x })
  | "UNTIL" => once d.validUntil (parseDate v) (fun x => { d with validUntil := x })
  | "SOURCE" => once d.source (parseOrNone (parsePlace 16) v) (fun x => { d with source := x })
  | "MODE" => once d.mode (parseOrNone parseMode v) (fun x => { d with mode := x })
  | "LAMPS" => once d.lamps (parseOrNone (parseNatIn 1 2) v) (fun x => { d with lamps := x })
  | "LOCK" => once d.lock (parseBookLock v) (fun x => { d with lock := x })
  | "OWNER" => once d.owner (parseOrNone (parsePlace 8) v) (fun x => { d with owner := x })
  | "OWNERONLY" => once d.ownerOnly (parseYes v) (fun x => { d with ownerOnly := x })
  | "GRACE" => once d.grace (parseNatIn 0 30 v) (fun x => { d with grace := x })
  | "LABEL" => once d.label (parseOrNone (parseLabel 16) v) (fun x => { d with label := x })
  | _ => none

/-- The days of a booking, where it is WEEKLY. -/
def BookDates.days? : BookDates → Option (List Weekday)
  | .weekly d _ _ => some d
  | .once _ => none

/-- The valid-from of a booking. -/
def BookDates.from? : BookDates → Option Date
  | .weekly _ f _ => f
  | .once _ => none

/-- The valid-until of a booking. -/
def BookDates.until? : BookDates → Option Date
  | .weekly _ _ u => u
  | .once _ => none

/-- The date of a booking, where it is ONCE. -/
def BookDates.date? : BookDates → Option Date
  | .once d => some d
  | .weekly _ _ _ => none

/-- The kind of a booking. -/
def BookDates.isWeekly : BookDates → Bool
  | .weekly _ _ _ => true
  | .once _ => false

/-- Two dates in order, where both are present. -/
def inOrder (f u : Option Date) : Bool :=
  match f, u with
  | some x, some y => decide (x ≤ y)
  | _, _ => true

/-- The WEEKLY dates that result: the days are required, and no ONCE field may be named (R124, R129). -/
def BookDraft.weeklyDates (d : BookDraft) (old : Option BookDates) : Option BookDates :=
  let f := d.validFrom.or (old.bind BookDates.from?)
  let u := d.validUntil.or (old.bind BookDates.until?)
  match d.days.or (old.bind BookDates.days?) with
  | some days => if d.date.isNone && inOrder f u then some (.weekly days f u) else none
  | none => none

/-- The ONCE date that results: it is required, and no WEEKLY field may be named (R124, R129). -/
def BookDraft.onceDates (d : BookDraft) (old : Option BookDates) : Option BookDates :=
  match d.date.or (old.bind BookDates.date?) with
  | some x => if d.days.isNone && d.validFrom.isNone && d.validUntil.isNone then some (.once x) else none
  | none => none

/-- The dates that result, under the kind named or held (R124, R129). -/
def BookDraft.dates (d : BookDraft) (old : Option BookDates) : Option BookDates :=
  match d.weekly.or (old.map BookDates.isWeekly) with
  | some true => d.weeklyDates old
  | some false => d.onceDates old
  | none => none

/-- The owner-only that results; OWNER NONE sets it to NO (R129). -/
def BookDraft.ownerOnlyOf (d : BookDraft) (old : Bool) : Bool :=
  match d.ownerOnly with
  | some x => x
  | none => if d.owner = some none then false else old

/-- The booking record that would result, if it is well formed (R124). The old record's fields, or the defaults, are `base`. -/
def BookDraft.finish (d : BookDraft) (dates : BookDates) (start stop : Nat) (base : Booking) : Option Booking :=
  let owner := d.owner.getD base.owner
  let only := d.ownerOnlyOf base.ownerOnly
  if start < stop ∧ (only = true → owner.isSome = true) then
    some
      { dates := dates, start := start, stop := stop, source := d.source.getD base.source, mode := d.mode.getD base.mode,
        lamps := d.lamps.getD base.lamps, lock := d.lock.getD base.lock, owner := owner, ownerOnly := only,
        grace := d.grace.getD base.grace, label := d.label.getD base.label }
  else none

/-- The defaults of BOOK (section 8.2); the dates and times of `base` are not used. -/
def bookDefaults (grace : Nat) : Booking :=
  { dates := .once 0, start := 0, stop := 1, source := none, mode := none, lamps := none, lock := .lockOpen, owner := none,
    ownerOnly := false, grace := grace, label := none }

/-- The record that a BOOK makes (R128). -/
def BookDraft.create (d : BookDraft) (grace : Nat) : Option Booking :=
  match d.dates none, d.start, d.stop with
  | some x, some a, some b => d.finish x a b (bookDefaults grace)
  | _, _, _ => none

/-- The record that a REBOOK makes of another (R129). -/
def BookDraft.change (d : BookDraft) (bk : Booking) : Option Booking :=
  match d.dates (some bk.dates) with
  | some x => d.finish x (d.start.getD bk.start) (d.stop.getD bk.stop) bk
  | none => none

/-- The forms of a REBOOK whose place is empty can be judged by themselves only (R129). -/
def BookDraft.changeOf (d : BookDraft) (old : Option Booking) : Option (Option Booking) :=
  match old with
  | some bk => (d.change bk).map some
  | none => some none

/-! ## A switch's target -/

/-- The argument of SOURCE: a place or a port (R99). -/
inductive Target where
  | place (n : Nat)
  | port (p : VPort)

/-- The argument of SOURCE (R99). -/
def parseTarget (w : String) : Option Target :=
  match parsePort w with
  | some p => some (.port p)
  | none => (parsePlace 16 w).map .place

/-! ## Codes -/

/-- The label and expiry of a SETCODE: an argument in the form of a date is the expiry (R162). -/
def parseCodeRest (l : List String) : Option (Option String × Option Date) :=
  match l with
  | [] => some (none, none)
  | [w] =>
    if w = "NONE" then some (none, none)
    else if (dateForm w).isSome then (parseDate w).map (fun d => (none, some d))
    else (parseLabel 12 w).map (fun t => (some t, none))
  | [w, x] =>
    match (if (dateForm w).isSome then none else parseOrNone (parseLabel 12) w), parseOrNone parseDate x with
    | some t, some d => some (t, d)
    | _, _ => none
  | _ => none

/-- A SETCODE's slot and code (R162). -/
def parseCode (args : List String) : Option (Nat × Code) :=
  match args with
  | n :: ds :: rest =>
    match parsePlace 8 n, parseCodeRest rest with
    | some k, some (t, e) => if isDigits 4 6 ds then some (k, ⟨ds, t, e⟩) else none
    | _, _ => none
  | _ => none

/-- The arguments of a SETMASTER: the old and the new code, NONE for an empty one (R164). -/
def parseMaster (args : List String) : Option (Option String × Option String) :=
  let six (w : String) : Option String := if isDigits 6 6 w then some w else none
  match args with
  | [o, n] =>
    match parseOrNone six o, parseOrNone six n with
    | some x, some y => some (x, y)
    | _, _ => none
  | _ => none

/-! ## Filters -/

/-- A FILTER's number and filter (R172). -/
def parseFilter (args : List String) : Option (Nat × Filter) :=
  match args with
  | [n, c, m, k, st] =>
    match parsePlace 8 n, parseHex c, parseMaskNo m, parseCls k, parseOn st with
    | some i, some code, some mask, some cls, some on => some (i, ⟨code, mask, cls, on⟩)
    | _, _, _, _, _ => none
  | _ => none

/-- A MASK's number and value (R172). -/
def parseMask (args : List String) : Option (Nat × Byte) :=
  match args with
  | [m, v] =>
    match parseMaskNo m, parseHex v with
    | some i, some b => some (i, b)
    | _, _ => none
  | _ => none

/-! ## Fault kinds -/

/-- The entries that CLEARFAULT acts on (R179). -/
def parseFaultKind (args : List String) : Option (List FaultId) :=
  match args with
  | [] => some FaultId.all
  | [k] =>
    let l := FaultId.all.filter (fun f => showFaultKind f = k)
    if l.isEmpty then none else some l
  | [k, b] =>
    match parseBay b with
    | some y =>
      let l := FaultId.all.filter (fun f => showFaultKind f = k ∧ f.bay? = some y)
      if l.isEmpty then none else some l
    | none => none
  | _ => none

end Sys2Proof.Machine
end

