-- ==== Sys2Proof/Machine/LampCommands.lean ====
section
/-! DEFINITION. Machine/LampCommands.lean: the commands of the Lamp Controller, the Wear Counter and the Mode Unit (R20, R21, R40 to R45,
R47, R50, R62), and the one form that every SETTING shares. -/

namespace Sys2Proof.Machine

/-! ## Settings -/

/-- The word of a hall setting's value in force (section 11.5). -/
def settingWord (s : State) : SettingName → String
  | .address => show2 s.work.settings.address
  | .plan => showPlan s.work.settings.plan
  | .mount => showMount s.work.settings.mount
  | .defmode => showMode s.work.settings.defmode
  | .condint => showNat s.work.settings.condint
  | .autoscan => showOn s.work.settings.autoscan
  | .prewarm => showNat s.work.settings.prewarm
  | .grace => showNat s.work.settings.grace
  | .idle => showNat s.work.settings.idle
  | .idlelock => showIdleLock s.work.settings.idlelock

/-- `SETTING name` without a value (R176). -/
def querySetting (k : SettingName) (s : State) : Answer := tell s [showSetting k, settingWord s k]

/-- A hall setting is written, with what it brings about at once; a setting equal to the one in force makes no write (R116, R155,
R176). -/
def putSetting (snd : Sender) (k : SettingName) (f : Settings → Settings) (effect : State → State) (s : State) : Answer :=
  let fields (x : State) : List String := [showSetting k, settingWord x k]
  if f s.work.settings = s.work.settings then yes s fields
  else
    yes (withLock (fun x =>
      effect (ask snd (.setting k) { x with work := { x.work with settings := f x.work.settings } })) s) fields 1

/-- `SETTING name value`: without a value it is the query, and otherwise the checks are class, form and lock level (R176). -/
def cmdSetting {α : Type} (snd : Sender) (k : SettingName) (c : Cls) (parse : String → Option α) (f : α → Settings → Settings)
    (effect : State → State) (args : List String) (s : State) : Answer :=
  match args with
  | [] => querySetting k s
  | [w] =>
    match parse w with
    | some v => gate snd c true s (putSetting snd k (f v) effect)
    | none => gate snd c false s (fun x => no "ARGS" x)
  | _ => gate snd c false s (fun x => no "ARGS" x)

/-- A whole number brought into a range (R54, R126, R152, R176). -/
def parseClamped (lo hi : Nat) (w : String) : Option Nat := (parseInt w).map (fun x => (clampInt lo hi x).toNat)

/-- SETTING PLAN (R22). -/
def cmdPlan (snd : Sender) : List String → State → Answer :=
  cmdSetting snd .plan .facility parsePlan (fun v x => { x with plan := v }) id

/-- SETTING DEFMODE (R48). -/
def cmdDefmode (snd : Sender) : List String → State → Answer :=
  cmdSetting snd .defmode .operator parseMode (fun v x => { x with defmode := v }) id

/-- SETTING CONDINT (R54). A due that the change brings about follows at once. -/
def cmdCondint (snd : Sender) : List String → State → Answer :=
  cmdSetting snd .condint .operator (parseClamped 120 600) (fun v x => { x with condint := v }) id

/-- SETTING AUTOSCAN (R96). -/
def cmdAutoscan (snd : Sender) : List String → State → Answer :=
  cmdSetting snd .autoscan .operator parseOn (fun v x => { x with autoscan := v }) id

/-- The new mount sets the immediate flag, and a computation follows (R116). -/
def mountChange (s : State) : State := computation (setImmediate s)

/-- SETTING MOUNT (R116). -/
def cmdMount (snd : Sender) : List String → State → Answer :=
  cmdSetting snd .mount .facility parseMount (fun v x => { x with mount := v }) mountChange

/-- SETTING PREWARM (R126). -/
def cmdPrewarm (snd : Sender) : List String → State → Answer :=
  cmdSetting snd .prewarm .operator (parseClamped 0 15) (fun v x => { x with prewarm := v }) id

/-- SETTING GRACE (R126). -/
def cmdGrace (snd : Sender) : List String → State → Answer :=
  cmdSetting snd .grace .operator (parseClamped 0 30) (fun v x => { x with grace := v }) id

/-- A lower limit makes the drop at once where the timer has reached it (R152). -/
def idleChange (s : State) : State := if idleDue s then idleOff s else s

/-- SETTING IDLE (R152). -/
def cmdIdle (snd : Sender) : List String → State → Answer :=
  cmdSetting snd .idle .operator (parseClamped 5 120) (fun v x => { x with idle := v }) idleChange

/-- SETTING IDLELOCK: a change of value clears the unlocked flag (R155). -/
def cmdIdlelock (snd : Sender) : List String → State → Answer :=
  cmdSetting snd .idlelock .operator parseIdleLock (fun v x => { x with idlelock := v }) clearUnlocked

/-- SETTING ADDRESS: the reply to an accepted change carries the address in force before it (R176). -/
def cmdAddress (snd : Sender) (args : List String) (s : State) : Answer :=
  let a := cmdSetting snd .address .facility (parseClamped 1 62) (fun v x => { x with address := v }) id args s
  if a.writes = 0 then a else { a with addr := some s.work.settings.address }

/-! ## Lamps -/

/-- The larger of two lamp counts that may be absent. -/
def maxCount (x y : Option Nat) : Option Nat :=
  match x, y with
  | some a, some b => some (max a b)
  | some a, none => some a
  | none, o => o

/-- The lamp count of a record's booking, in Prewarm or Running (R20). -/
def calledCount (s : State) (o : Option Occ) : Option Nat :=
  match o with
  | some x => if x.phase = .grace then none else (place s.work.bookings x.booking).bind Booking.lamps
  | none => none

/-- The count of a LAMPON (R20). -/
def lamponCount (s : State) : Nat := (maxCount (calledCount s s.sched.active) (calledCount s s.sched.upcoming)).getD (planCount s)

/-- The demand origin of a sender's class (R12). -/
def originOf (c : Cls) : DemandOrigin :=
  match c with
  | .facility => .facility
  | .operator => .operator
  | .presenter | .viewer => .presenter

/-- The whole seconds of uptime until a moment. -/
def secondsTo (s : State) (t : Nat) : Nat := (t - s.uptime) / 1000

/-- The seconds until a bay's Dark entry, while it is in its hold (R20, R45). -/
def holdOf (s : State) (b : Bay) : Option Nat :=
  if (bay s b).st = .cooling ∨ (bay s b).st = .rest then some (secondsTo s (darkEntry s b)) else none

/-- The seconds until a bay's oldest strike leaves its list, while it is in budget wait (R18). -/
def waitOf (s : State) (b : Bay) : Option Nat :=
  match (bay s b).strikes with
  | t :: l => if 4 ≤ (t :: l).length then some (secondsTo s (t + hour)) else none
  | [] => none

/-- The HOLD and WAIT fields of a wanted bay in the LAMPON reply (R20). -/
def holdFields (s : State) (b : Bay) : List String :=
  if s.lamp.wanted.get b && !(bay s b).st.inUse then
    (match holdOf s b with
      | some n => ["HOLD", showBay b, showNat n]
      | none => []) ++
    (match waitOf s b with
      | some n => ["WAIT", showBay b, showNat n]
      | none => [])
  else []

/-- The bay fields of LAMPON and LAMPOFF. -/
def bayFields (s : State) : List String := ["A", showBaySt (bay s .bayA).st, "B", showBaySt (bay s .bayB).st]

/-- The fields of the LAMPON reply (R20). -/
def lamponFields (s : State) : List String :=
  ["DEMAND", showNat s.lamp.count, "SERVE", showNat (wantedCount s)] ++ bayFields s ++ holdFields s .bayA ++ holdFields s .bayB

/-- A LAMPON that passes its checks: the raise, and the igniter where it is free for a bay that has become a waiter (R16, R20). -/
def lampsOn (snd : Sender) (s : State) : Answer :=
  yes (fuGrant (settle (raise (originOf snd.cls) (lamponCount s) s))) lamponFields

/-- LAMPON (R20). -/
def cmdLampon (snd : Sender) (args : List String) (s : State) : Answer :=
  if below snd .presenter then no "CLASS" s
  else if !noArgs args then no "ARGS" s
  else if lockLevel s = .maintenance then no "STATE" s
  else if lockedOut s snd.cls then no "LOCKED" s
  else if s.heat.level = .shutdown then no "STATE" s
  else if !(eligible s .bayA || eligible s .bayB) then no "STATE" s
  else lampsOn snd s

/-- The demand dropped by LAMPOFF; with no active occurrence the unlocked flag is cleared too (R21). -/
def lampsOff (snd : Sender) (s : State) : State :=
  let s1 := drop (originOf snd.cls) s
  if s.sched.active.isNone then clearUnlocked s1 else s1

/-- LAMPOFF (R21). -/
def cmdLampoff (snd : Sender) (args : List String) (s : State) : Answer :=
  gate snd .presenter (noArgs args) s (fun x => yes (lampsOff snd x) (fun y => ["DEMAND", "0"] ++ bayFields y))

/-! ## Lamp records -/

/-- A new lamp record (R41). -/
def newLamp (s : State) (identity : String) (hours : Nat) : LampRecord :=
  { identity := identity, ratedLife := hours, wear := 0, fraction := 0, litSeconds := 0, strikeCount := 0, failedCount := 0,
    consecutive := 0, failed := false, installed := s.sched.clock.map HallClock.date }

/-- The Mode Unit is told of a new lamp, or of none (R60). -/
def resetConditioning (b : Bay) (s : State) : State :=
  modBayMode b (fun m => { BayMode.fresh with effective := m.effective }) s

/-- A bay takes a new lamp and enters Dark; a shortfall may then be filled (R7, R15, R41, R42). -/
def fitLamp (b : Bay) (r : LampRecord) (s : State) : State :=
  fillShortfall (enterDark b (modBay b (fun y => { y with lastLoss := none, lossBar := none, causeMark := false })
    (resetConditioning b (setLampRec b (some r) s))))

/-- The arguments of INSTALL and REPLACE: a bay, an identity and a rated life (R40). -/
def parseLamp (args : List String) : Option (Bay × String × Nat) :=
  match args with
  | [b, i, h] =>
    match parseBay b, parseLabel 8 i, parseNatIn 500 20000 h with
    | some x, some t, some n => some (x, t, n)
    | _, _, _ => none
  | _ => none

/-- A bay alone. -/
def parseOneBay (args : List String) : Option Bay :=
  match args with
  | [b] => parseBay b
  | _ => none

/-- The checks of R40 before a record command's own. -/
def recordGate {α : Type} (snd : Sender) (form : Option α) (maint : Bool) (s : State) (k : α → Answer) : Answer :=
  if below snd .facility then no "CLASS" s
  else
    match form with
    | none => no "ARGS" s
    | some a => if maint && lockLevel s != .maintenance then no "STATE" s else k a

/-- The change of INSTALL or REPLACE, with its write and reply (R41, R42). -/
def newRecord (snd : Sender) (b : Bay) (identity : String) (hours : Nat) (s : State) : State :=
  ask snd (.lamp b) (fitLamp b (newLamp s identity hours) s)

/-- The reply of INSTALL and REPLACE (R41, R42). -/
def fittedFields (b : Bay) (hours : Nat) (_ : State) : List String := ["BAY", showBay b, "DARK", "LIFE", showNat hours]

/-- INSTALL (R41). -/
def cmdInstall (snd : Sender) (args : List String) (s : State) : Answer :=
  recordGate snd (parseLamp args) true s (fun a =>
    if (bay s a.1).st = .empty ∧ (bay s a.1).doorFlag = .cycled then
      yes (newRecord snd a.1 a.2.1 a.2.2 s) (fittedFields a.1 a.2.2) 1
    else no "STATE" s)

/-- REPLACE of a lamp whose stage was not Good places a LIFE notice (R33, R42). -/
def goodNotice (b : Bay) (old : Option Stage) (s : State) : State :=
  if old = some .good ∨ old = none then s else notify .life (.bay b) [showStage .good] s

/-- REPLACE (R42). -/
def cmdReplace (snd : Sender) (args : List String) (s : State) : Answer :=
  recordGate snd (parseLamp args) true s (fun a =>
    if (bay s a.1).st = .empty then no "NOTFOUND" s
    else if ((bay s a.1).st = .dark ∨ (bay s a.1).st = .failed) ∧ (bay s a.1).doorFlag = .cycled then
      yes (goodNotice a.1 (stageOf s a.1) (newRecord snd a.1 a.2.1 a.2.2 s)) (fittedFields a.1 a.2.2) 1
    else no "STATE" s)

/-- A bay loses its lamp and becomes Empty; a wanted one leaves the wanted set (R15, R43). -/
def takeLamp (b : Bay) (s : State) : State :=
  leaveWanted b (lampNotice b .empty
    (modBay b (fun y => { y with st := .empty, timer := none, doorFlag := .clear, causeMark := false, lampLost := none })
      (resetConditioning b (setLampRec b none s))))

/-- REMOVE (R43). -/
def cmdRemove (snd : Sender) (args : List String) (s : State) : Answer :=
  recordGate snd (parseOneBay args) true s (fun b =>
    if (bay s b).st = .empty then no "NOTFOUND" s
    else if (bay s b).st.inUse then no "STATE" s
    else yes (ask snd (.lamp b) (takeLamp b s)) (fun _ => ["BAY", showBay b, "EMPTY"]) 1)

/-- A Failed bay returns to use: Rest, with its failures forgotten (R11, R44). -/
def reviveLamp (b : Bay) (s : State) : State :=
  fillShortfall (modBay b (fun y => { y with st := .rest, timer := some (s.uptime + shortRest) })
    (setLampRec b ((lampRec s b).map (fun r => { r with consecutive := 0, failed := false })) s))

/-- REVIVE (R44). -/
def cmdRevive (snd : Sender) (args : List String) (s : State) : Answer :=
  recordGate snd (parseOneBay args) false s (fun b =>
    if (bay s b).st = .empty then no "NOTFOUND" s
    else if (bay s b).st = .failed then
      yes (ask snd (.lamp b) (reviveLamp b s)) (fun _ => ["BAY", showBay b, "REST", "30"]) 1
    else no "STATE" s)

/-- The remaining hours at a mode whose lit second weighs `w` (R35). -/
def hoursLeft (r : LampRecord) (w : Nat) : Nat := (ratedUnits r - r.wear) / (60 * w)

/-- The fields of an installed lamp's record (R45). -/
def recordFields (r : LampRecord) : List String :=
  ["ID", r.identity, "LIFE", showNat r.ratedLife, "WEAR", showNat r.wear, "FRAC", showNat r.fraction, "PERMILLE",
   showNat (perMilleOf r), "STAGE", showStage (stageOfRec r), "HFULL", showNat (hoursLeft r 4), "HSTD", showNat (hoursLeft r 3),
   "HECO", showNat (hoursLeft r 2), "LITSEC", showNat r.litSeconds, "STRIKES", showNat r.strikeCount, "FAILS",
   showNat r.failedCount, "CONSEC", showNat r.consecutive, "INSTALLED", showOpt showDate r.installed]

/-- The door, flag and budget fields of a bay (R45). -/
def doorFields (s : State) (b : Bay) : List String :=
  ["DOOR", if s.pins.door.get b then "OPEN" else "CLOSED", "CYCLED", showDoorFlag (bay s b).doorFlag, "BUDGET",
   showNat (bay s b).strikes.length]

/-- The HOLD and WAIT fields of LAMPINFO (R45). -/
def infoHolds (s : State) (b : Bay) : List String :=
  (match holdOf s b with
    | some n => ["HOLD", showNat n]
    | none => []) ++
  (match waitOf s b with
    | some n => ["WAIT", showNat n]
    | none => [])

/-- The fields of the LAMPINFO reply (R45). -/
def lampinfoFields (s : State) (b : Bay) : List String :=
  ["BAY", showBay b, "STATE", showBaySt (bay s b).st] ++
    match lampRec s b with
    | some r => recordFields r ++ doorFields s b ++ ["UNSAVED", showNat (s.wear.get b)] ++ infoHolds s b
    | none => doorFields s b

/-- LAMPINFO (R45). -/
def cmdLampinfo (_ : Sender) (args : List String) (s : State) : Answer :=
  match parseOneBay args with
  | some b => tell s (lampinfoFields s b)
  | none => no "ARGS" s

/-! ## Modes and ceilings -/

/-- The effective modes of both bays. -/
def effFields (s : State) : List String :=
  ["A", showEff (bayMode s .bayA).effective, "B", showEff (bayMode s .bayB).effective]

/-- The requested mode is set (R46). -/
def setRequested (m : LampMode) (s : State) : State := { s with mode := { s.mode with requested := m } }

/-- A mode alone. -/
def parseOneMode (args : List String) : Option LampMode :=
  match args with
  | [w] => parseMode w
  | _ => none

/-- MODE (R47). -/
def cmdMode (snd : Sender) (args : List String) (s : State) : Answer :=
  match parseOneMode args with
  | some m =>
    gate snd .operator true s (fun x =>
      yes (setRequested m x) (fun y => ["MODE", showMode y.mode.requested] ++ effFields y))
  | none => gate snd .operator false s (fun x => no "ARGS" x)

/-- The fields of an accepted CEILING (R50). -/
def ceilingFields (s : State) : List String :=
  ["CEILING", showMode (facilityCeiling s), "PERSIST", showMode s.work.ceiling, "TEMP", showOpt showMode s.mode.temp] ++ effFields s

/-- The persistent ceiling takes a mode, and the allowance is Used (R50). -/
def setCeiling (m : LampMode) (s : State) : State :=
  { s with work := { s.work with ceiling := m }, mode := { s.mode with persistUsed := true } }

/-- CEILING mode PERSIST (R50). -/
def cmdCeilingPersist (snd : Sender) (args : List String) (s : State) : Answer :=
  if below snd .facility then no "CLASS" s
  else
    match parseOneMode args with
    | none => no "ARGS" s
    | some m =>
      if m = s.work.ceiling then yes s ceilingFields
      else if s.mode.persistUsed then no "AGAIN" s
      else yes (ask snd .ceiling (setCeiling m s)) ceilingFields 1

/-- The temporary ceiling is set or made absent (R50). -/
def setTemp (m : Option LampMode) (s : State) : State := { s with mode := { s.mode with temp := m } }

/-- CEILING mode TEMP (R50). -/
def cmdCeilingTemp (snd : Sender) (args : List String) (s : State) : Answer :=
  if below snd .facility then no "CLASS" s
  else
    match parseOneMode args with
    | none => no "ARGS" s
    | some m => yes (setTemp (some m) s) ceilingFields

/-- CEILING CLEARTEMP (R50). -/
def cmdCeilingCleartemp (snd : Sender) (s : State) : Answer :=
  if below snd .facility then no "CLASS" s else yes (setTemp none s) ceilingFields

/-- The fields of one bay in the MODEINFO reply (R62). -/
def bayModeFields (s : State) (b : Bay) : List String :=
  let m := bayMode s b
  [showBay b, "EFF", showEff m.effective, "ECOMIN", showNat m.ecoMin, "ECOSEC", showNat m.ecoSec, "DEBT", showNat m.debt,
   "CREDIT", showNat m.credit, "RUN", showNat m.run, "OVR", showOverride m.override]

/-- The fields of the MODEINFO reply (R62). -/
def modeinfoFields (s : State) : List String :=
  ["REQ", showMode s.mode.requested, "DEF", showMode s.work.settings.defmode, "CEIL", showMode (facilityCeiling s), "PERSIST",
   showMode s.work.ceiling, "TEMP", showOpt showMode s.mode.temp, "ONCE", if s.mode.persistUsed then "USED" else "FREE",
   "THERMAL", showOpt showMode (thermalCeiling s), "INTERVAL", showNat (intervalInForce s), "HOT", showYes s.heat.hot] ++
    bayModeFields s .bayA ++ bayModeFields s .bayB

/-- MODEINFO (R62). -/
def cmdModeinfo (_ : Sender) (args : List String) (s : State) : Answer := query args s modeinfoFields

/-- The TACH field (R72). -/
def tachWord (s : State) : String :=
  if s.heat.stall then "STALL" else if s.heat.fan = .low then "IDLE" else "RUN"

/-- The fields of the HEATINFO reply (R72). -/
def heatinfoFields (s : State) : List String :=
  ["HOUSING", showOpt showInt s.heat.housing, "AMBIENT", showOpt showInt s.heat.ambient, "LEVEL", showThermal s.heat.level, "HOT",
   showYes s.heat.hot, "SENSOR", if s.heat.sensorFault then "FAULT" else "OK", "FAN", showFan s.heat.fan, "TACH", tachWord s]

/-- HEATINFO (R72). -/
def cmdHeatinfo (_ : Sender) (args : List String) (s : State) : Answer := query args s heatinfoFields

end Sys2Proof.Machine
end

