-- ==== Sys2Proof/Machine/PictureCommands.lean ====
section
/-! DEFINITION. Machine/PictureCommands.lean: the commands of the Profile Table, the Source Selector and the Geometry Engine (R75, R81 to
R86, R98 to R100, R114, R115, R117). -/

namespace Sys2Proof.Machine

/-! ## Profiles -/

/-- The fields of a profile in PROFINFO and PROFILE replies (R86). -/
def profileFields (s : State) (n : Nat) (p : Profile) : List String :=
  ["PROFILE", showNat n, "PORT", showPort p.port, "CLASS", match p.cls with | some c => showNat c | none => "ANY", "LABEL",
   showOpt id p.label, "ASPECT", showAspect p.aspect, "VTRIM", showInt p.vTrim, "HTRIM", showInt p.hTrim, "TILT",
   showOn p.autoTilt, "LOSS", showLoss p.loss, "RANK", showOpt showNat p.rank, "ACTIVE",
   showYes (s.sel.active == some n)]

/-- The record at a place, as PROFINFO gives it (R86). -/
def profinfoFields (n : Nat) (s : State) : List String :=
  match profileAt s n with
  | some p => profileFields s n p
  | none => ["PROFILE", showNat n, "EMPTY"]

/-- A profile place is replaced. -/
def putProfile (n : Nat) (p : Option Profile) (s : State) : State :=
  { s with work := { s.work with profiles := setPlace s.work.profiles n p } }

/-- Another place that holds a record's key (R77). -/
def keyHolder (s : State) (n : Nat) (p : Profile) : Option Nat := findKey 1 (setPlace s.work.profiles n none) p.port p.cls

/-- A profile place changes: it is written, and the change reaches the source on screen (R82, R83, R85). -/
def changeProfile (snd : Sender) (n : Nat) (p : Option Profile) (s : State) : State :=
  tableChange n (profileAt s n) p (ask snd (.profile n) (putProfile n p s))

/-- The place and the record that a PROFILE would make, by their forms (R81). -/
def parseProfile (args : List String) (s : State) : Option (Nat × Profile) :=
  match args with
  | w :: pairs =>
    match parsePlace 16 w, readPairs profilePair .empty pairs with
    | some n, some d => (d.result (profileAt s n)).map (fun p => (n, p))
    | _, _ => none
  | [] => none

/-- A PROFILE whose forms and sender pass (R81, R82). -/
def storeProfile (snd : Sender) (n : Nat) (p : Profile) (s : State) : Answer :=
  match keyHolder s n p with
  | some m => noWith "INUSE" (showNat m) s
  | none =>
    if profileAt s n = some p then yes s (profinfoFields n)
    else yes (changeProfile snd n (some p) s) (profinfoFields n) 1

/-- PROFILE (R81, R82). -/
def cmdProfile (snd : Sender) (args : List String) (s : State) : Answer :=
  match parseProfile args s with
  | some (n, p) => gate snd .operator true s (storeProfile snd n p)
  | none => gate snd .operator false s (fun x => no "ARGS" x)

/-- A place alone. -/
def parseOnePlace (top : Nat) (args : List String) : Option Nat :=
  match args with
  | [w] => parsePlace top w
  | _ => none

/-- A booking names a profile as its default source (R83). -/
def sourceNamed (s : State) (n : Nat) : Bool :=
  s.work.bookings.any (fun b =>
    match b with
    | some bk => bk.source == some n
    | none => false)

/-- An UNPROFILE whose form and sender pass (R83). -/
def emptyProfile (snd : Sender) (n : Nat) (s : State) : Answer :=
  if (profileAt s n).isNone then no "NOTFOUND" s
  else if sourceNamed s n then no "INUSE" s
  else yes (changeProfile snd n none s) (fun _ => ["PROFILE", showNat n, "EMPTY"]) 1

/-- UNPROFILE (R83). -/
def cmdUnprofile (snd : Sender) (args : List String) (s : State) : Answer :=
  match parseOnePlace 16 args with
  | some n => gate snd .operator true s (emptyProfile snd n)
  | none => gate snd .operator false s (fun x => no "ARGS" x)

/-- The place and the clamped trims of a TRIM (R84). -/
def parseTrim (args : List String) : Option (Nat × Int × Int) :=
  match args with
  | [w, v, h] =>
    match parsePlace 16 w, parseInt v, parseInt h with
    | some n, some x, some y => some (n, clampV x, clampH y)
    | _, _, _ => none
  | _ => none

/-- A TRIM whose form and sender pass (R84). -/
def storeTrim (snd : Sender) (n : Nat) (v h : Int) (s : State) : Answer :=
  let fields (_ : State) : List String := ["TRIM", showNat n, "V", showInt v, "H", showInt h]
  match profileAt s n with
  | none => no "NOTFOUND" s
  | some p =>
    if p.vTrim = v ∧ p.hTrim = h then yes s fields
    else
      let q := { p with vTrim := v, hTrim := h }
      yes (trimChange n (some p) (some q) (ask snd (.profile n) (putProfile n (some q) s))) fields 1

/-- TRIM (R84). -/
def cmdTrim (snd : Sender) (args : List String) (s : State) : Answer :=
  match parseTrim args with
  | some (n, v, h) => gate snd .operator true s (storeTrim snd n v h)
  | none => gate snd .operator false s (fun x => no "ARGS" x)

/-- Words, or NONE for none. -/
def wordsOrNone (l : List String) : List String := if l.isEmpty then ["NONE"] else l

/-- PROFINFO without an argument (R86). Where no filled place has a rank, the word after SCAN is NONE, as in an empty table (DESIGN CHOICE,
notes/assumptions/33.md). -/
def cmdProfinfoTable (_ : Sender) (s : State) : Answer :=
  tell s (["PROFILES"] ++ wordsOrNone ((filled s.work.profiles).map showNat) ++ ["SCAN"] ++
    wordsOrNone ((scanList s).map showPort))

/-- PROFINFO (R86). -/
def cmdProfinfo (snd : Sender) (args : List String) (s : State) : Answer :=
  match args with
  | [] => cmdProfinfoTable snd s
  | _ :: _ =>
    match parseOnePlace 16 args with
    | some n => if (profileAt s n).isNone then no "NOTFOUND" s else tell s (profinfoFields n s)
    | none => no "ARGS" s

/-- The PRESENT word (R75). -/
def presentWord : Option Bool → String
  | some b => showYes b
  | none => "NONE"

/-- One port's fields in the PORTINFO reply (R75). -/
def portFields (s : State) (p : VPort) : List String :=
  let x := portNow s p
  [showPort p, presentWord x.present, showNat x.cls, "PROF", showOpt showNat (lookup s p x.cls)]

/-- PORTINFO (R75). -/
def cmdPortinfo (_ : Sender) (args : List String) (s : State) : Answer :=
  query args s (fun x => VPort.all.flatMap (portFields x))

/-! ## The selector -/

/-- The switch request's origin after the sender's class (section 6.1). -/
def requestOrigin (c : Cls) : SwOrigin :=
  match c with
  | .facility => .facility
  | .operator => .operator
  | .presenter | .viewer => .presenter

/-- The named place, or PORT. -/
def reqWord : Option Nat → String
  | some n => showNat n
  | none => "PORT"

/-- A request that a SOURCE makes (R89, R99). -/
def requestSource (snd : Sender) (port : VPort) (named : Option Nat) (s : State) : Answer :=
  let o := requestOrigin snd.cls
  if requestBusy s o then no "BUSY" s
  else
    yes (takeRequest port named o s) (fun x =>
      if noSwitch s port named then ["SETTLED", showPort port, "PROFILE", showOpt showNat x.sel.active]
      else ["SWITCHING", showPort port, "REQ", reqWord named])

/-- A SOURCE whose form and sender pass (R99). -/
def switchTo (snd : Sender) (t : Target) (s : State) : Answer :=
  match t with
  | .port p => requestSource snd p none s
  | .place n =>
    match profileAt s n with
    | some p => requestSource snd p.port (some n) s
    | none => no "NOTFOUND" s

/-- The milliseconds until a moment. -/
def millisTo (s : State) (t : Nat) : Nat := t - s.uptime

/-- The fields that SOURCE adds in each state (R100). -/
def sourceMore (s : State) : List String :=
  match s.sel.st, s.sel.req with
  | .switching, some r =>
    ["TARGET", showPort r.port, "REQ", reqWord r.named, "ORIGIN", showSwOrigin r.origin, "LEFT",
     showNat (millisTo s (r.start + switchTime))]
  | .noSignal, _ => ["LOSS", showLoss s.sel.lossB, "IDLE", showNat ((s.uptime - s.sel.noSigFrom) / 1000)]
  | .scanning, _ => ["AT", showPort s.sel.scanPort, "DWELL", showNat (millisTo s (s.sel.dwellFrom + dwellTime))]
  | _, _ => []

/-- SOURCE without an argument (R100). -/
def cmdSourceQuery (_ : Sender) (s : State) : Answer :=
  tell s (["STATE", showSelSt s.sel.st, "PORT", showPort s.sel.port, "CLASS", showNat (s.sel.settledCls.getD 0), "PROFILE",
    showOpt showNat s.sel.active, "NAMED", showOpt showNat s.sel.named, "MUTE"] ++ muteWords s ++ sourceMore s)

/-- SOURCE (R99). -/
def cmdSource (snd : Sender) (args : List String) (s : State) : Answer :=
  match args with
  | [] => cmdSourceQuery snd s
  | [w] =>
    match parseTarget w with
    | some t => gate snd .presenter true s (switchTo snd t)
    | none => gate snd .presenter false s (fun x => no "ARGS" x)
  | _ => gate snd .presenter false s (fun x => no "ARGS" x)

/-- The User cause is set or removed (R98). -/
def setUserMute (on : Bool) (s : State) : State := modSel (fun x => { x with muteUser := on }) s

/-- MUTE ON and MUTE OFF (R98). -/
def cmdMute (on : Bool) (snd : Sender) (s : State) : Answer :=
  if below snd .presenter then no "CLASS" s
  else if maintOut s snd.cls then no "LOCKED" s
  else yes (setUserMute on s) (fun x => ["MUTE", showOn on, "CAUSES"] ++ muteWords x)

/-! ## Geometry -/

/-- Two signed whole numbers (R114). -/
def parseTwoInts (args : List String) : Option (Int × Int) :=
  match args with
  | [x, y] =>
    match parseInt x, parseInt y with
    | some a, some b => some (a, b)
    | _, _ => none
  | _ => none

/-- The nudges move, within their range, and a computation follows (R114). -/
def nudgeBy (dv dh : Int) (s : State) : State :=
  computation { s with geo := { s.geo with
    vAdj := clampInt (-10) 10 (s.geo.vAdj + dv), hAdj := clampInt (-10) 10 (s.geo.hAdj + dh) } }

/-- The fields of the NUDGE reply (R114). -/
def nudgeFields (s : State) : List String :=
  ["NUDGE", "VADJ", showInt s.geo.vAdj, "HADJ", showInt s.geo.hAdj, "V", showInt s.geo.v, "H", showInt s.geo.h, "SCALE",
   showNat (scaleOf s.geo.v s.geo.h)]

/-- NUDGE (R114). -/
def cmdNudge (snd : Sender) (args : List String) (s : State) : Answer :=
  match parseTwoInts args with
  | some (dv, dh) => gate snd .presenter true s (fun x => yes (nudgeBy dv dh x) nudgeFields)
  | none => gate snd .presenter false s (fun x => no "ARGS" x)

/-- The limits of a LIMITS (R115). -/
def parseLimits (args : List String) : Option (Nat × Nat) :=
  match args with
  | [x, y] =>
    match parseNatIn 0 40 x, parseNatIn 0 30 y with
    | some v, some h => some (v, h)
    | _, _ => none
  | _ => none

/-- The limits take new values. -/
def setLimits (v h : Nat) (s : State) : State := { s with work := { s.work with limV := v, limH := h } }

/-- LIMITS (R115). -/
def cmdLimits (snd : Sender) (args : List String) (s : State) : Answer :=
  if below snd .facility then no "CLASS" s
  else
    match parseLimits args with
    | none => no "ARGS" s
    | some (v, h) =>
      let fields (_ : State) : List String := ["LIMITS", "V", showNat v, "H", showNat h]
      if s.work.limV = v ∧ s.work.limH = h then yes (computation s) fields
      else yes (computation (ask snd .limits (setLimits v h s))) fields 1

/-- The TILT word (R117). -/
def tiltWord (s : State) : String :=
  if s.geo.tiltInvalid then "FAIL" else if s.geo.ring.all Option.isSome then "VALID" else "HOLD"

/-- The LINK word (R117). -/
def linkWord (s : State) : String :=
  match s.geo.inFlight, s.geo.nextSlot with
  | none, _ => "IDLE"
  | some _, none => "SENDING"
  | some _, some _ => "QUEUED"

/-- The APPLIED word (R117). -/
def appliedWord (s : State) : String :=
  match s.geo.appliedSet with
  | none => "NONE"
  | some c => showYes (c == s.geo.computed)

/-- A corner's word. -/
def pointWord (x y : Int) : String := showInt x ++ "," ++ showInt y

/-- The fields of the GEOINFO reply (R117). ASPECT is that of the computed set, and VTRIM and HTRIM are the
active profile's in the table (DESIGN CHOICE, notes/assumptions/38.md). -/
def geoinfoFields (s : State) : List String :=
  let g := s.geo
  let c := g.computed
  ["V", showInt g.v, "H", showInt g.h, "CLAMPV", showYes g.clampV, "CLAMPH", showYes g.clampH, "A", showInt g.applied, "CAND",
   showOpt showInt g.cand, "COUNT", showNat g.agree, "AUTO", showOn (autoTiltOn s), "MOUNT", showMount s.work.settings.mount,
   "VTRIM", showInt (trims s).1, "HTRIM", showInt (trims s).2, "VADJ", showInt g.vAdj, "HADJ", showInt g.hAdj, "LIMV",
   showNat s.work.limV, "LIMH", showNat s.work.limH, "TL", pointWord c.tlX c.tlY, "TR", pointWord c.trX c.trY, "BR",
   pointWord c.brX c.brY, "BL", pointWord c.blX c.blY, "ASPECT", showAspect c.aspect, "SCALE", showNat (scaleOf g.v g.h), "TILT",
   tiltWord s, "LINK", linkWord s, "APPLIED", appliedWord s]

/-- GEOINFO (R117). -/
def cmdGeoinfo (_ : Sender) (args : List String) (s : State) : Answer := query args s geoinfoFields

end Sys2Proof.Machine
end

