-- ==== Sys2Proof/Machine/ScheduleCommands.lean ====
section
/-! DEFINITION. Machine/ScheduleCommands.lean: the commands of the Schedule Engine (R122, R123, R128 to R132, R135, R136, R145, R146,
R153). -/

namespace Sys2Proof.Machine

/-! ## The clock -/

/-- The clock's fields (R122, R123). -/
def clockFields (s : State) : List String :=
  match s.sched.clock with
  | some c => ["CLOCK", showDate c.date, showTime c.secs, "WEEKDAY", showWeekday (weekdayOf c.date)]
  | none => ["CLOCK", "UNSET"]

/-- The clock that a SETCLOCK gives (R122). -/
def parseClock (args : List String) : Option HallClock :=
  match args with
  | [d, t] =>
    match parseDate d, parseTime t with
    | some x, some y => some ⟨x, y⟩
    | _, _ => none
  | _ => none

/-- SETCLOCK (R122). -/
def cmdSetclock (snd : Sender) (args : List String) (s : State) : Answer :=
  match parseClock args with
  | some c => gate snd .operator true s (fun x => yes (setClock c x) clockFields)
  | none => gate snd .operator false s (fun x => no "ARGS" x)

/-- CLOCK (R123). -/
def cmdClock (_ : Sender) (args : List String) (s : State) : Answer := query args s clockFields

/-! ## Bookings -/

/-- The checks of a booking command before its own: class and lock level (section 8.5). -/
def bookGate (snd : Sender) (s : State) (k : State → Answer) : Answer :=
  if below snd .operator then no "CLASS" s
  else if lockedOut s snd.cls then no "LOCKED" s
  else k s

/-- A record's default source and owner are there: a filled profile place and a filled code slot (R128). -/
def refsFound (s : State) (bk : Booking) : Bool :=
  (match bk.source with
    | some n => (profileAt s n).isSome
    | none => true) &&
  (match bk.owner with
    | some n => (place s.work.codes n).isSome
    | none => true)

/-- A candidate lies wholly in the past of a valid clock (R128). -/
def pastNow (s : State) (bk : Booking) : Bool :=
  match s.sched.clock with
  | some c => whollyPast c bk
  | none => false

/-- The last three checks of BOOK and REBOOK: references, past and conflict (R128, R129). -/
def judgeBooking (n : Nat) (bk : Booking) (s : State) (k : State → Answer) : Answer :=
  if !refsFound s bk then no "NOTFOUND" s
  else if pastNow s bk then no "PAST" s
  else
    match conflict s n bk with
    | some m => noWith "CONFLICT" (showNat m) s
    | none => k s

/-- The record that a BOOK makes, by its forms (R128). -/
def parseBook (args : List String) (s : State) : Option Booking :=
  (readPairs bookPair .empty args).bind (fun d => d.create s.work.settings.grace)

/-- A BOOK whose forms pass (R128). -/
def addBooking (snd : Sender) (bk : Booking) (s : State) : Answer :=
  match firstEmpty 1 s.work.bookings with
  | none => no "FULL" s
  | some n =>
    judgeBooking n bk s (fun x =>
      yes (evaluate false (ask snd (.booking n) (putBooking n (some bk) x))) (fun _ => ["BOOK", showNat n]) 1)

/-- BOOK (R128). -/
def cmdBook (snd : Sender) (args : List String) (s : State) : Answer :=
  bookGate snd s (fun x =>
    match parseBook args x with
    | none => no "ARGS" x
    | some bk => addBooking snd bk x)

/-- A record names a booking in Prewarm or Running (R129). -/
def bookingBusy (s : State) (n : Nat) : Bool :=
  (match s.sched.upcoming with
    | some o => o.booking == n
    | none => false) ||
  (match s.sched.active with
    | some o => o.booking == n && o.phase == .running
    | none => false)

/-- The exceptions of a changed booking that still name an occurrence of it (R129). -/
def keepExc (n : Nat) (bk : Booking) (e : Exc) : Bool :=
  e.booking != n || (bk.dates.isWeekly && bk.dates.onDate e.date)

/-- The reply of an accepted REBOOK (R129). -/
def rebookFields (n k : Nat) (_ : State) : List String := ["BOOK", showNat n, "DROPPED", showNat k]

/-- A booking is changed in its place, with the exceptions that no longer name an occurrence dropped, and both records are written
(R129, R184). -/
def storeBooking (snd : Sender) (n : Nat) (bk : Booking) (s : State) : State :=
  ask snd .exceptions (ask snd (.booking n)
    (putExceptions (s.work.exceptions.filter (keepExc n bk)) (putBooking n (some bk) s)))

/-- The number of exceptions that a changed booking drops. -/
def droppedCount (s : State) (n : Nat) (bk : Booking) : Nat :=
  (s.work.exceptions.filter (fun e => !keepExc n bk e)).length

/-- A REBOOK whose forms pass (R129). -/
def changeBooking (snd : Sender) (n : Nat) (old : Option Booking) (new : Option Booking) (s : State) : Answer :=
  match old, new with
  | some o, some bk =>
    if bookingBusy s n then no "INUSE" s
    else
      judgeBooking n bk s (fun x =>
        if bk = o then yes (evaluate false x) (rebookFields n 0)
        else yes (evaluate false (storeBooking snd n bk x)) (rebookFields n (droppedCount x n bk)) 2)
  | _, _ => no "NOTFOUND" s

/-- The place and the record of a REBOOK, by its forms (R129). -/
def parseRebook (args : List String) (s : State) : Option (Nat × Option Booking) :=
  match args with
  | w :: pairs =>
    match parsePlace 48 w, readPairs bookPair .empty pairs with
    | some n, some d => (d.changeOf (place s.work.bookings n)).map (fun b => (n, b))
    | _, _ => none
  | [] => none

/-- REBOOK (R129). -/
def cmdRebook (snd : Sender) (args : List String) (s : State) : Answer :=
  bookGate snd s (fun x =>
    match parseRebook args x with
    | none => no "ARGS" x
    | some (n, b) => changeBooking snd n (place x.work.bookings n) b x)

/-- A Grace of the booking that UNBOOK removes ends at once, with the drop (R130). The booking's retirement, which R143 and R130 both ask
for, is left to the removal that follows, so that its place is written once (DEDUCED, notes/assumptions/18.md). -/
def endGraceOf (n : Nat) (s : State) : State :=
  match s.sched.active with
  | some o => if o.booking = n then scheduleDrop (endNotice o (emptyActive o s)) else s
  | none => s

/-- A booking that a command removes: its place is emptied, its exceptions leave the list, and both are written (R130, R184). -/
def retireByCommand (snd : Sender) (n : Nat) (s : State) : State :=
  ask snd .exceptions (ask snd (.booking n) (emptyBooking n s))

/-- An UNBOOK whose form passes (R130). -/
def removeBooking (snd : Sender) (n : Nat) (s : State) : Answer :=
  if (place s.work.bookings n).isNone then no "NOTFOUND" s
  else if bookingBusy s n then no "INUSE" s
  else
    yes (retireByCommand snd n (endGraceOf n s))
      (fun _ => ["UNBOOK", showNat n, "SKIPS", showNat (skipsOf s n).length]) 2

/-- UNBOOK (R130). -/
def cmdUnbook (snd : Sender) (args : List String) (s : State) : Answer :=
  bookGate snd s (fun x =>
    match parseOnePlace 48 args with
    | none => no "ARGS" x
    | some n => removeBooking snd n x)

/-! ## Exceptions -/

/-- The arguments of SKIP and UNSKIP: a place and a date (R131). -/
def parseSkip (args : List String) : Option (Nat × Date) :=
  match args with
  | [w, d] =>
    match parsePlace 48 w, parseDate d with
    | some n, some x => some (n, x)
    | _, _ => none
  | _ => none

/-- A record names an occurrence in Prewarm or Running (R131). -/
def occurrenceBusy (s : State) (n : Nat) (d : Date) : Bool :=
  named s.sched.upcoming n d || (named s.sched.active n d && activeIn s .running)

/-- The date lies before the date of a valid clock (R131). -/
def dateGone (s : State) (d : Date) : Bool :=
  match s.sched.clock with
  | some c => decide (d < c.date)
  | none => false

/-- The reply of SKIP and UNSKIP (R131, R132). -/
def skipFields (verb : String) (n : Nat) (d : Date) (s : State) : List String :=
  [verb, showNat n, showDate d, "SKIPS", showNat s.work.exceptions.length]

/-- A SKIP whose forms pass, of a booking in the table (R131). -/
def addSkip (snd : Sender) (n : Nat) (d : Date) (bk : Booking) (s : State) : Answer :=
  if !bk.dates.isWeekly then no "STATE" s
  else if !bk.dates.onDate d then no "NOTFOUND" s
  else if s.work.exceptions.contains ⟨n, d⟩ then no "INUSE" s
  else if dateGone s d then no "PAST" s
  else if occurrenceBusy s n d then no "INUSE" s
  else if 32 ≤ s.work.exceptions.length then no "FULL" s
  else yes (ask snd .exceptions (putExceptions (insertExc ⟨n, d⟩ s.work.exceptions) s)) (skipFields "SKIP" n d) 1

/-- SKIP (R131). -/
def cmdSkip (snd : Sender) (args : List String) (s : State) : Answer :=
  bookGate snd s (fun x =>
    match parseSkip args with
    | none => no "ARGS" x
    | some (n, d) =>
      match place x.work.bookings n with
      | none => no "NOTFOUND" x
      | some bk => addSkip snd n d bk x)

/-- The booking that a restored occurrence conflicts with (R132). -/
def restoreConflict (s : State) (n : Nat) (d : Date) : Option Nat :=
  match place s.work.bookings n with
  | some bk => conflictOn s n bk d
  | none => none

/-- An UNSKIP whose forms pass (R132). -/
def removeSkip (snd : Sender) (n : Nat) (d : Date) (s : State) : Answer :=
  if !s.work.exceptions.contains ⟨n, d⟩ then no "NOTFOUND" s
  else
    match restoreConflict s n d with
    | some m => noWith "CONFLICT" (showNat m) s
    | none =>
      yes (evaluate false (ask snd .exceptions (putExceptions (s.work.exceptions.erase ⟨n, d⟩) s))) (skipFields "UNSKIP" n d) 1

/-- UNSKIP (R132). -/
def cmdUnskip (snd : Sender) (args : List String) (s : State) : Answer :=
  bookGate snd s (fun x =>
    match parseSkip args with
    | none => no "ARGS" x
    | some (n, d) => removeSkip snd n d x)

/-! ## Queries -/

/-- The first of some dates on which a booking has an occurrence. -/
def firstOn (s : State) (n : Nat) (bk : Booking) (l : List Date) : Option Date := l.find? (fun d => occurs s n bk d)

/-- The first date from which a booking's Running window ends later than a clock (R135). -/
def nextFrom (c : HallClock) (bk : Booking) : Date := if c.secs < bk.stop * 60 then c.date else c.date + 1

/-- The dates of a booking's span that are not before a date. -/
def datesFrom (bk : Booking) (d : Date) : List Date :=
  List.range' (max bk.dates.span.1 d) (bk.dates.span.2 + 1 - max bk.dates.span.1 d)

/-- The date of a booking's first occurrence that ends later than the clock (R135). -/
def nextOccurrence (s : State) (n : Nat) (bk : Booking) : Option Date :=
  match s.sched.clock with
  | some c => firstOn s n bk (datesFrom bk (nextFrom c bk))
  | none => none

/-- The date fields of a booking (R135). -/
def dateFields (b : BookDates) : List String :=
  match b with
  | .weekly days f u =>
    ["KIND", "WEEKLY", "DAYS", joinCommas (days.map showWeekday), "FROM", showOpt showDate f, "UNTIL", showOpt showDate u]
  | .once d => ["KIND", "ONCE", "DATE", showDate d]

/-- The fields of the BOOKINFO reply (R135). The dates of the list after SKIPS stand as words of their own, with one space between them
(DESIGN CHOICE, notes/assumptions/33.md). -/
def bookinfoFields (s : State) (n : Nat) (bk : Booking) : List String :=
  ["BOOK", showNat n] ++ dateFields bk.dates ++
    ["START", showMinute bk.start, "END", showMinute bk.stop, "SOURCE", showOpt showNat bk.source, "MODE", showOpt showMode bk.mode,
     "LAMPS", showOpt showNat bk.lamps, "LOCK", showBookLock bk.lock, "OWNER", showOpt showNat bk.owner, "OWNERONLY",
     showYes bk.ownerOnly, "GRACE", showNat bk.grace, "LABEL", showOpt id bk.label, "SKIPS"] ++
    wordsOrNone ((skipsOf s n).map showDate) ++ ["NEXT", showOpt showDate (nextOccurrence s n bk)]

/-- BOOKINFO (R135). Its reply is sent whole, also where many exceptions make it longer than the 400 characters of R174 (DESIGN CHOICE,
notes/assumptions/33.md). -/
def cmdBookinfo (_ : Sender) (args : List String) (s : State) : Answer :=
  match parseOnePlace 48 args with
  | none => no "ARGS" s
  | some n =>
    match place s.work.bookings n with
    | none => no "NOTFOUND" s
    | some bk => tell s (bookinfoFields s n bk)

/-- BOOKLIST (R136). -/
def cmdBooklist (_ : Sender) (args : List String) (s : State) : Answer :=
  query args s (fun x =>
    ["BOOKINGS"] ++ wordsOrNone ((filled x.work.bookings).map showNat) ++
      ["FREE", showNat (x.work.bookings.length - (filled x.work.bookings).length), "SKIPS", showNat x.work.exceptions.length])

/-! ## The occurrence in progress -/

/-- The current minute of the clock, counted from midnight of a date. -/
def minuteOn (c : HallClock) (d : Date) : Nat := c.abs / 60 - d * 1440

/-- The end that an EXTEND would give (R145). -/
def extendedEnd (c : HallClock) (o : Occ) (m : Nat) : Nat :=
  match o.phase with
  | .grace => minuteOn c o.date + 1 + m
  | .running | .prewarm => o.stop + m

/-- The earliest other occurrence on the record's date that starts at or after the record's end and before the new one (R145). -/
def extendConflict (s : State) (o : Occ) (e : Nat) : Option Nat :=
  (earliest (bookingsWhere (fun n bk => occurs s n bk o.date && !o.names n o.date && decide (o.stop ≤ bk.start) &&
    decide (bk.start < e)) 1 s.work.bookings)).map Prod.fst

/-- The active record takes a new end and is Running, with the lock published and then the notice placed (R145; the order is a DESIGN
CHOICE, notes/assumptions/7.md). The unlocked flag stays as
it is: a flag that an UNLOCK has set during Grace stays set (R156; DESIGN CHOICE, notes/assumptions/35.md). -/
def extendTo (o : Occ) (e : Nat) (s : State) : State :=
  runningNotice (withLock (modSched (fun x => { x with active := some { o with stop := e, phase := .running } })) s)

/-- An EXTEND whose form and sender pass (R145). -/
def extendBy (m : Nat) (s : State) : Answer :=
  match s.sched.clock, s.sched.active with
  | none, _ => no "NOCLOCK" s
  | some _, none => no "STATE" s
  | some c, some o =>
    let e := extendedEnd c o m
    if 1440 < e then no "ARGS" s
    else
      match extendConflict s o e with
      | some n => noWith "CONFLICT" (showNat n) s
      | none => yes (extendTo o e s) (fun _ => ["EXTEND", showNat o.booking, "END", showMinute e])

/-- The minutes of an EXTEND (R145). -/
def parseExtend (args : List String) : Option Nat :=
  match args with
  | [w] => parseNatIn 1 60 w
  | _ => none

/-- EXTEND (R145). -/
def cmdExtend (snd : Sender) (args : List String) (s : State) : Answer :=
  match parseExtend args with
  | some m => gate snd .presenter true s (extendBy m)
  | none => gate snd .presenter false s (fun x => no "ARGS" x)

/-- ENDNOW in Running: Grace from the current minute, ended at once where it is 0 (R146). -/
def endRunning (o : Occ) (m : Nat) (s : State) : State :=
  withLock (fun x =>
    let x1 := enterGrace (modSched (fun y => { y with active := some { o with stop := m } }) x)
    if o.grace = 0 then scheduleDrop (endActive x1) else x1) s

/-- An ENDNOW whose sender passes (R146). -/
def endPhase (s : State) : Answer :=
  match s.sched.clock, s.sched.active with
  | none, _ => no "NOCLOCK" s
  | some _, none => no "STATE" s
  | some c, some o =>
    if o.phase = .grace then
      yes (scheduleDrop (endActive s)) (fun _ => ["ENDNOW", showNat o.booking, "END"])
    else
      let m := minuteOn c o.date
      yes (endRunning o m s) (fun _ =>
        ["ENDNOW", showNat o.booking, "GRACE", "UNTIL", showMinute ((m + o.grace) % 1440)])

/-- ENDNOW (R146). -/
def cmdEndnow (snd : Sender) (args : List String) (s : State) : Answer := gate snd .operator (noArgs args) s endPhase

/-- The active record's fields (R153). -/
def activeFields (s : State) : List String :=
  match s.sched.active with
  | some o =>
    ["ACTIVE", showNat o.booking, "DATE", showDate o.date, "PHASE", showPhase o.phase, "START", showMinute o.start, "END",
     showMinute o.stop, "UNTIL", showUntil (o.stop + o.grace), "RAISED", showYes o.raised, "LATE", showYes o.late]
  | none => ["ACTIVE", "NONE"]

/-- The upcoming record's fields (R153). -/
def upcomingFields (s : State) : List String :=
  match s.sched.upcoming with
  | some o =>
    ["UPCOMING", showNat o.booking, "DATE", showDate o.date, "START", showMinute o.start, "END", showMinute o.stop, "RAISED",
     showYes o.raised]
  | none => ["UPCOMING", "NONE"]

/-- The memo's fields (R153). -/
def endedFields (s : State) : List String :=
  match s.sched.lastEnded with
  | some (n, d) => ["ENDED", showNat n, "DATE", showDate d]
  | none => ["ENDED", "NONE"]

/-- OCCINFO (R153). -/
def cmdOccinfo (_ : Sender) (args : List String) (s : State) : Answer :=
  query args s (fun x => activeFields x ++ upcomingFields x ++ endedFields x ++
    ["IDLE", showNat x.sched.idle, "LIMIT", showNat (idleLimit x)])

end Sys2Proof.Machine
end

