-- ==== Sys2Proof/Machine/LockCommands.lean ====
section
/-! DEFINITION. Machine/LockCommands.lean: the commands of the Lock Unit, the Line Port, the Fault Table and the part as a whole (R156,
R160 to R167, R172, R173, R176, R179, R183). -/

namespace Sys2Proof.Machine

/-! ## Locks -/

/-- RELOCK (R156). -/
def cmdRelock (snd : Sender) (args : List String) (s : State) : Answer :=
  if below snd .presenter then no "CLASS" s
  else if !noArgs args then no "ARGS" s
  else if maintOut s snd.cls then no "LOCKED" s
  else yes (clearUnlocked s) (fun x => ["LEVEL", showLevel (lockLevel x), "UNLOCKED", "NO"])

/-- A code is usable now: without an expiry, or with one that a valid clock has not passed (section 10.1). -/
def usable (s : State) (c : Code) : Bool :=
  match c.expiry, s.sched.clock with
  | none, _ => true
  | some e, some k => decide (k.date ≤ e)
  | some _, none => false

/-- The usable slot that holds given digits. -/
def slotWith (s : State) (digits : String) : Nat → List (Option Code) → Option Nat
  | _, [] => none
  | n, some c :: l => if usable s c && c.digits == digits then some n else slotWith s digits (n + 1) l
  | n, none :: l => slotWith s digits (n + 1) l

/-- The master code matches. -/
def masterMatch (s : State) (digits : String) : Option UnlockedBy :=
  if s.work.master = some digits then some .master else none

/-- A slot alone matches. -/
def ownerMatch (s : State) (owner : Option Nat) (digits : String) : Option UnlockedBy :=
  match owner with
  | some n =>
    match place s.work.codes n with
    | some c => if usable s c && c.digits == digits then some (.slot n) else none
    | none => none
  | none => none

/-- The code that matches under the lock level in force (R160). -/
def codeMatch (s : State) (digits : String) : Option UnlockedBy :=
  match lockLevel s, runningBooking s with
  | .exam, some bk =>
    if bk.ownerOnly then ownerMatch s bk.owner digits
    else (ownerMatch s bk.owner digits).or (masterMatch s digits)
  | _, _ => ((slotWith s digits 1 s.work.codes).map .slot).or (masterMatch s digits)

/-- The attempt counter falls by 1 (R161). -/
def spendAttempt (s : State) : State := { s with lock := { s.lock with attempts := s.lock.attempts - 1 } }

/-- The mismatch of a code costs an attempt; it is a refusal with an effect (R160, R164). -/
def mismatch (s : State) : Answer := no "MISMATCH" (spendAttempt s)

/-- The unlocked flag is set by a code (R160). -/
def unlockBy (u : UnlockedBy) (s : State) : State := { s with lock := { s.lock with unlocked := true, unlockedBy := some u } }

/-- An UNLOCK whose form, sender and level pass (R160). -/
def tryUnlock (digits : String) (s : State) : Answer :=
  if s.lock.attempts = 0 then no "EXHAUSTED" s
  else
    match codeMatch s digits with
    | some u => yes (unlockBy u s) (fun _ => ["UNLOCKED", "BY", showBy (some u)])
    | none => mismatch s

/-- The code of an UNLOCK (R160). -/
def parseUnlock (args : List String) : Option String :=
  match args with
  | [w] => if isDigits 4 6 w then some w else none
  | _ => none

/-- UNLOCK (R160). -/
def cmdUnlock (snd : Sender) (args : List String) (s : State) : Answer :=
  if below snd .presenter then no "CLASS" s
  else
    match parseUnlock args with
    | none => no "ARGS" s
    | some digits =>
      if lockLevel s = .maintenance then no (if snd.cls = .facility then "STATE" else "LOCKED") s
      else tryUnlock digits s

/-- The attempt counter is restored (R161). -/
def restoreAttempts (s : State) : State := { s with lock := { s.lock with attempts := 5 } }

/-- ATTEMPTS (R161). -/
def cmdAttempts (snd : Sender) (args : List String) (s : State) : Answer :=
  gate snd .facility (noArgs args) s (fun x =>
    if x.lock.frozen then no "FROZEN" x else yes (restoreAttempts x) (fun _ => ["ATTEMPTS", "5"]))

/-! ## Codes -/

/-- The filled slot that holds given digits, other than one slot. -/
def slotHolding (digits : String) (except : Nat) : Nat → List (Option Code) → Option Nat
  | _, [] => none
  | n, some c :: l =>
    if c.digits = digits ∧ n ≠ except then some n else slotHolding digits except (n + 1) l
  | n, none :: l => slotHolding digits except (n + 1) l

/-- A code slot is replaced. -/
def putCode (n : Nat) (c : Option Code) (s : State) : State :=
  { s with work := { s.work with codes := setPlace s.work.codes n c } }

/-- The reply of an accepted SETCODE (R162). -/
def codeFields (n : Nat) (c : Code) (_ : State) : List String :=
  ["CODE", showNat n, "LABEL", showOpt id c.label, "EXPIRY", showOpt showDate c.expiry]

/-- A SETCODE whose form passes (R162). -/
def storeCode (snd : Sender) (n : Nat) (c : Code) (s : State) : Answer :=
  if s.lock.frozen then no "FROZEN" s
  else
    match slotHolding c.digits n 1 s.work.codes with
    | some m => noWith "INUSE" (showNat m) s
    | none =>
      if s.work.master = some c.digits then noWith "INUSE" "MASTER" s
      else yes (ask snd (.code n) (putCode n (some c) s)) (codeFields n c) 1

/-- SETCODE (R162). -/
def cmdSetcode (snd : Sender) (args : List String) (s : State) : Answer :=
  match parseCode args with
  | some (n, c) => gate snd .facility true s (storeCode snd n c)
  | none => gate snd .facility false s (fun x => no "ARGS" x)

/-- A booking names a slot as its owner (R163). -/
def ownerNamed (s : State) (n : Nat) : Bool :=
  s.work.bookings.any (fun b =>
    match b with
    | some bk => bk.owner == some n
    | none => false)

/-- A DELCODE whose form passes (R163). -/
def deleteCode (snd : Sender) (n : Nat) (s : State) : Answer :=
  if s.lock.frozen then no "FROZEN" s
  else if (place s.work.codes n).isNone then no "NOTFOUND" s
  else if ownerNamed s n then no "INUSE" s
  else yes (ask snd (.code n) (putCode n none s)) (fun _ => ["CODE", showNat n, "EMPTY"]) 1

/-- DELCODE (R163). -/
def cmdDelcode (snd : Sender) (args : List String) (s : State) : Answer :=
  match parseOnePlace 8 args with
  | some n => gate snd .facility true s (deleteCode snd n)
  | none => gate snd .facility false s (fun x => no "ARGS" x)

/-- The master code is replaced. -/
def putMaster (m : Option String) (s : State) : State := { s with work := { s.work with master := m } }

/-- The filled slot that a new master code would match (R164). -/
def masterClash (s : State) (new : Option String) : Option Nat :=
  new.bind (fun d => slotHolding d 0 1 s.work.codes)

/-- A SETMASTER whose form passes (R164). -/
def storeMaster (snd : Sender) (old new : Option String) (s : State) : Answer :=
  let fields (_ : State) : List String := ["MASTER", if new.isSome then "SET" else "EMPTY"]
  if s.lock.frozen then no "FROZEN" s
  else if s.lock.attempts = 0 then no "EXHAUSTED" s
  else if s.work.master ≠ old then mismatch s
  else
    match masterClash s new with
    | some m => noWith "INUSE" (showNat m) s
    | none => yes (ask snd .master (putMaster new s)) fields 1

/-- SETMASTER (R164). -/
def cmdSetmaster (snd : Sender) (args : List String) (s : State) : Answer :=
  match parseMaster args with
  | some (o, n) => gate snd .facility true s (storeMaster snd o n)
  | none => gate snd .facility false s (fun x => no "ARGS" x)

/-- FREEZE (R165). -/
def cmdFreeze (snd : Sender) (args : List String) (s : State) : Answer :=
  gate snd .operator (noArgs args) s (fun x =>
    yes { x with lock := { x.lock with frozen := true } } (fun _ => ["FROZEN"]))

/-! ## Maintenance -/

/-- A bay is Striking or Warming (R166). -/
def bayStarting (s : State) (b : Bay) : Bool := (bay s b).st == .striking || (bay s b).st == .warming

/-- The maintenance flag is set: the unlocked flag is cleared, and the demand dropped (R23, R166). -/
def enterMaint (s : State) : State :=
  withLock (fun x => drop .maint (clearUnlocked { x with lock := { x.lock with maint := true } })) s

/-- MAINT ON (R166). -/
def cmdMaintOn (snd : Sender) (s : State) : Answer :=
  let fields (x : State) : List String := ["MAINT", "ON", "LEVEL", showLevel (lockLevel x)]
  if below snd .facility then no "CLASS" s
  else if bayStarting s .bayA || bayStarting s .bayB then no "BUSY" s
  else if s.lock.maint then yes s fields
  else yes (enterMaint s) fields

/-- The maintenance flag is cleared, and the Schedule Engine takes its withheld actions (R147, R166). -/
def leaveMaint (s : State) : State := retakeActions (withLock (fun x => { x with lock := { x.lock with maint := false } }) s)

/-- MAINT OFF (R166). -/
def cmdMaintOff (snd : Sender) (s : State) : Answer :=
  let fields (x : State) : List String := ["MAINT", "OFF", "LEVEL", showLevel (lockLevel x)]
  if below snd .facility then no "CLASS" s
  else if s.lock.maint then yes (leaveMaint s) fields
  else yes s fields

/-- A filled slot's word in LOCKINFO (R167). -/
def slotWord (s : State) (n : Nat) (c : Code) : String :=
  showNat n ++ ":" ++ showOpt id c.label ++ ":" ++ showOpt showDate c.expiry ++ ":" ++
    (if usable s c then "USABLE" else "EXPIRED")

/-- The words of the filled slots, in ascending number (R167). -/
def slotWords (s : State) : Nat → List (Option Code) → List String
  | _, [] => []
  | n, some c :: l => slotWord s n c :: slotWords s (n + 1) l
  | n, none :: l => slotWords s (n + 1) l

/-- The fields of the LOCKINFO reply (R167). The entries of SLOTS are words of their own (DESIGN CHOICE, notes/assumptions/33.md). -/
def lockinfoFields (s : State) : List String :=
  ["LEVEL", showLevel (lockLevel s), "PRESENTER", showLevel (presenterLevel s), "IDLE", showIdleLock s.work.settings.idlelock,
   "UNLOCKED", showYes s.lock.unlocked, "BY", showBy s.lock.unlockedBy, "ATTEMPTS", showNat s.lock.attempts, "FROZEN",
   showYes s.lock.frozen, "MAINT", showYes s.lock.maint, "MASTER", if s.work.master.isSome then "SET" else "EMPTY", "SLOTS"] ++
    wordsOrNone (slotWords s 1 s.work.codes)

/-- LOCKINFO (R167). A reply longer than 400 characters is sent whole (DESIGN CHOICE, notes/assumptions/33.md). -/
def cmdLockinfo (_ : Sender) (args : List String) (s : State) : Answer := query args s lockinfoFields

/-! ## The Line Port's own commands -/

/-- An element of a list, numbered from 1. -/
def nth {α : Type} (l : List α) : Nat → Option α
  | 0 => none
  | k + 1 => l[k]?

/-- A list with an element, numbered from 1, replaced. -/
def setNth {α : Type} (l : List α) (n : Nat) (v : α) : List α :=
  match n with
  | 0 => l
  | k + 1 => l.set k v

/-- An enabled filter of class Facility (R172). -/
def Filter.opens (f : Filter) : Bool := f.on && f.cls == .facility

/-- The word of a filter's mask. -/
def maskWord (n : Nat) : String := "M" ++ showNat n

/-- The reply of an accepted FILTER (R172). -/
def filterFields (n : Nat) (f : Filter) (_ : State) : List String :=
  ["FILTER", showNat n, showHex f.code, maskWord f.mask, showCls f.cls, showOn f.on]

/-- A FILTER whose form passes (R172). -/
def storeFilter (snd : Sender) (n : Nat) (f : Filter) (s : State) : Answer :=
  let l := setNth s.work.filters n f
  if !l.any Filter.opens then no "STATE" s
  else if nth s.work.filters n = some f then yes s (filterFields n f)
  else yes (ask snd (.filter n) { s with work := { s.work with filters := l } }) (filterFields n f) 1

/-- FILTER (R172). -/
def cmdFilter (snd : Sender) (args : List String) (s : State) : Answer :=
  match parseFilter args with
  | some (n, f) => gate snd .facility true s (storeFilter snd n f)
  | none => gate snd .facility false s (fun x => no "ARGS" x)

/-- A MASK whose form passes (R172). -/
def storeMask (snd : Sender) (n : Nat) (v : Byte) (s : State) : Answer :=
  let fields (_ : State) : List String := ["MASK", maskWord n, showHex v]
  if nth s.work.masks n = some v then yes s fields
  else yes (ask snd (.mask n) { s with work := { s.work with masks := setNth s.work.masks n v } }) fields 1

/-- MASK (R172). -/
def cmdMask (snd : Sender) (args : List String) (s : State) : Answer :=
  match parseMask args with
  | some (n, v) => gate snd .facility true s (storeMask snd n v)
  | none => gate snd .facility false s (fun x => no "ARGS" x)

/-- The word of the line state (R173). -/
def lineWord (s : State) : String :=
  if s.comms.deaf then "DEAF" else if 96 ≤ s.comms.errCount then "GUARDED" else "ATTENTIVE"

/-- The words of the masks in LINEINFO (R173). -/
def maskFields : Nat → List Byte → List String
  | _, [] => []
  | n, b :: l => maskWord n :: showHex b :: maskFields (n + 1) l

/-- The words of the filters in LINEINFO (R173). -/
def lineFilterFields : Nat → List Filter → List String
  | _, [] => []
  | n, f :: l =>
    ("F" ++ showNat n) :: (showHex f.code ++ ":" ++ maskWord f.mask ++ ":" ++ showCls f.cls ++ ":" ++ showOn f.on) ::
      lineFilterFields (n + 1) l

/-- LINEINFO (R173). -/
def cmdLineinfo (_ : Sender) (args : List String) (s : State) : Answer :=
  query args s (fun x =>
    ["ADDRESS", show2 x.work.settings.address, "COUNT", showNat x.comms.errCount, "STATE", lineWord x] ++
      maskFields 1 x.work.masks ++ lineFilterFields 1 x.work.filters)

/-- `SETTING name` (R176). -/
def cmdSettingQuery (_ : Sender) (args : List String) (s : State) : Answer :=
  match args with
  | [w] =>
    match parseSetting w with
    | some k => querySetting k s
    | none => no "ARGS" s
  | _ => no "ARGS" s

/-! ## Faults and status -/

/-- Latched entries of a list become Clear (R179). -/
def clearLatched (l : List FaultId) (s : State) : State :=
  { s with faults := .make (fun f => if f ∈ l ∧ s.faults.get f = .latched then .clear else s.faults.get f) }

/-- A CLEARFAULT whose form and sender pass (R179). -/
def clearFaults (l : List FaultId) (s : State) : Answer :=
  yes (clearLatched l s) (fun x =>
    ["CLEARED", showNat (l.filter (fun f => s.faults.get f = .latched)).length, "FAULT", showLine (faultLine x)])

/-- CLEARFAULT (R179). -/
def cmdClearfault (snd : Sender) (args : List String) (s : State) : Answer :=
  match parseFaultKind args with
  | some l => gate snd .operator true s (clearFaults l)
  | none => gate snd .operator false s (fun x => no "ARGS" x)

/-- The word of an entry that is not Clear (R179). -/
def faultWord (s : State) (f : FaultId) : String := showFault f ++ ":" ++ showFaultSt (s.faults.get f)

/-- The words of the entries that are not Clear, in the table's order (R179). -/
def faultWords (s : State) : List String :=
  (FaultId.all.filter (fun f => s.faults.get f != .clear)).map (faultWord s)

/-- Words cut after the last that fits: `room` counts characters, each word with a space before it, and MORE takes five of them
(R179). -/
def fitWords (room : Nat) : List String → List String
  | [] => []
  | w :: l =>
    if (joinWords (w :: l)).length + 1 ≤ room then w :: l
    else if w.length + 6 ≤ room then w :: fitWords (room - w.length - 1) l
    else ["MORE"]

/-- The room for the entries in a reply of 400 characters: ten are the frame's, and nine are OK FAULTS (R174, R179). -/
def faultRoom : Nat := 400 - 10 - 9

/-- FAULTS (R179). -/
def cmdFaults (_ : Sender) (args : List String) (s : State) : Answer :=
  query args s (fun x => ["FAULTS"] ++ wordsOrNone (fitWords faultRoom (faultWords x)))

/-- The WANTED word (R183). -/
def wantedWord (s : State) : String :=
  match s.lamp.wanted.a, s.lamp.wanted.b with
  | true, true => "AB"
  | true, false => "A"
  | false, true => "B"
  | false, false => "NONE"

/-- The fields of the STATUS reply (R183). -/
def statusFields (s : State) : List String :=
  ["DEMAND", showNat s.lamp.count, "ORIGIN", showOrigin s.lamp.origin, "WANTED", wantedWord s, "SHORT", showNat (shortfall s)] ++
    bayFields s ++
    ["SELECT", showSelSt s.sel.st, "PORT", showPort s.sel.port, "PROFILE", showOpt showNat s.sel.active, "LEVEL",
     showLevel (lockLevel s), "THERMAL", showThermal s.heat.level, "CLOCK", if s.sched.clock.isSome then "SET" else "UNSET",
     "FAULT", showLine (faultLine s), "SERVICE", showLine (serviceLine s), "QUEUE", showNat s.notices.queue.length, "OVERFLOW",
     showYes s.notices.overflow, "STORE", showNat s.store.unsaved.length]

/-- STATUS clears the overflow flag after it has read it (R183). -/
def cmdStatus (_ : Sender) (args : List String) (s : State) : Answer :=
  if noArgs args then
    { tell s (statusFields s) with st := { s with notices := { s.notices with overflow := false } } }
  else no "ARGS" s

end Sys2Proof.Machine
end

