-- ==== Sys2Proof/Machine/Reset.lean ====
section
/-! DEFINITION. Machine/Reset.lean: the two resets: power-on, with the restoration of the stored records, and RESTART (R24, R25, R38,
R39, R61, R71, R76, R102, R103, R118, R119, R134, R150, R159, R170, R171, R177, R180, R185). -/

namespace Sys2Proof.Machine

/-! ## Restoration at power-on -/

/-- The numbers 1 to `n`. -/
def upTo (n : Nat) : List Nat := List.range' 1 n

/-- The records in the order in which power-on reads them back (R185). -/
def RecKey.inOrder : List RecKey :=
  [.lamp .bayA, .lamp .bayB, .ceiling] ++
    [.setting .address, .setting .plan, .setting .mount, .setting .defmode, .setting .condint, .setting .autoscan,
     .setting .prewarm, .setting .grace, .setting .idle, .setting .idlelock, .limits] ++
    (upTo 8).map .filter ++ (upTo 3).map .mask ++ (upTo 16).map .profile ++ [.master] ++ (upTo 8).map .code ++
    (upTo 48).map .booking ++ [.exceptions]

/-- The records taken at their shipped defaults (R185). -/
def defaulted (keys : List RecKey) (r : Records) : Records := keys.foldl (fun x k => copyRec k .shipped x) r

/-- A profile place whose key a lower place holds (R76). -/
def profileLost (r : Records) (n : Nat) : Bool :=
  match place r.profiles n with
  | some p =>
    match findKey 1 r.profiles p.port p.cls with
    | some m => decide (m < n)
    | none => false
  | none => false

/-- A code slot whose digits the master code or a lower slot holds (R159). -/
def codeLost (r : Records) (n : Nat) : Bool :=
  match place r.codes n with
  | some c =>
    r.master == some c.digits ||
      match slotHolding c.digits n 1 r.codes with
      | some m => decide (m < n)
      | none => false
  | none => false

/-- Bookings taken in ascending number: one that conflicts with a booking already taken is lost (R134). -/
def takeBookings (s : State) : Nat → List (Option Booking) → List Nat
  | _, [] => []
  | n, none :: l => takeBookings s (n + 1) l
  | n, some bk :: l =>
    if (conflict s n bk).isSome then n :: takeBookings s (n + 1) l
    else takeBookings (putBooking n (some bk) s) (n + 1) l

/-- The state in which no booking is taken yet, for the check of R134. -/
def noBookings (r : Records) : State :=
  { State.reset with work := { r with bookings := List.replicate r.bookings.length none } }

/-- The records that restoration treats as unreadable beyond those that fail the integrity check (R76, R134, R159). -/
def lostKeys (r : Records) : List RecKey :=
  ((upTo 16).filter (profileLost r)).map .profile ++ ((upTo 8).filter (codeLost r)).map .code ++
    (takeBookings (noBookings r) 1 r.bookings).map .booking

/-- A booking whose default source or owner has gone (step 3 of R134). -/
def mendBooking (r : Records) (bk : Booking) : Booking :=
  let source := if (bk.source.bind (place r.profiles)).isSome then bk.source else none
  let owner := if (bk.owner.bind (place r.codes)).isSome then bk.owner else none
  { bk with source := source, owner := owner, ownerOnly := bk.ownerOnly && owner.isSome }

/-- The booking of an exception is WEEKLY and has an occurrence on its date by the first three conditions of R125 (step 4 of R134). -/
def excStands (r : Records) (e : Exc) : Bool :=
  match place r.bookings e.booking with
  | some bk => bk.dates.isWeekly && bk.dates.onDate e.date
  | none => false

/-- Bookings and exceptions made consistent (steps 3 and 4 of R134). -/
def mended (r : Records) : Records :=
  { r with
    bookings := r.bookings.map (fun b => b.map (mendBooking r))
    exceptions := r.exceptions.filter (excStands r) }

/-- The records that step 3 or 4 of R134 has changed. -/
def mendedKeys (r : Records) : List RecKey :=
  ((upTo 48).filter (fun n => place r.bookings n != place (mended r).bookings n)).map .booking ++
    (if (mended r).exceptions = r.exceptions then [] else [.exceptions])

/-- Keys of a list in the order of restoration. -/
def ordered (keys : List RecKey) : List RecKey := RecKey.inOrder.filter (fun k => k ∈ keys)

/-- The strap forces the working address (R170). -/
def strapped (strap : Bool) (r : Records) : Records :=
  if strap then { r with settings := { r.settings with address := 1 } } else r

/-- The working records after restoration, with the records taken at their defaults and those written back (R134, R185). The latter stand in
the order of their writes: first the unreadable and the lost records, and then those that R134 mends (DESIGN CHOICE,
notes/assumptions/40.md). -/
def restored (inp : PowerOnInputs) (stored : Records) : Records × List RecKey × List RecKey :=
  let r0 := defaulted inp.unreadable stored
  let lost := lostKeys r0
  let r1 := defaulted lost r0
  let gone := ordered (inp.unreadable ++ lost)
  (strapped inp.strap (mended r1), gone, gone ++ (ordered (mendedKeys r1)).filter (fun k => k ∉ gone))

/-! ## Power-on -/

/-- A bay's state at power-on, from its record (R24). -/
def bayAtPower (r : Option LampRecord) : BayCtl :=
  match r with
  | none => .fresh .empty none
  | some x => if x.failed then .fresh .failed none else .fresh .rest (some holdoff)

/-- The LAMP notice of a bay that comes up Failed or Empty (R24). -/
def powerNotice (b : Bay) (s : State) : State :=
  if (bay s b).st = .failed ∨ (bay s b).st = .empty then lampNotice b (bay s b).st s else s

/-- Every block in its power-on state over the restored records; the stored copies are those of before. -/
def poweredState (inp : PowerOnInputs) (work : Records) (gone : List RecKey) (s : State) : State :=
  { State.reset with
    pending := s.pending
    choices := s.choices
    pins := { lit := inp.lit, ballast := inp.ballast, door := inp.doorOpen, strap := inp.strap }
    work := work
    store := { stored := s.store.stored, unreadable := inp.unreadable, unsaved := gone, busy := none, cmdQ := [], ownQ := [] }
    lamp := { State.reset.lamp with bays := .make (fun b => bayAtPower (work.lamps.get b)) }
    mode := { State.reset.mode with requested := work.settings.defmode }
    geo := { State.reset.geo with inFlight := none }
    notices := { queue := [], overflow := false } }

/-- The selector takes up P1's fallback, with Loss judged from it, and hands it to the Geometry Engine (R102, R118). At RESTART the set
that this sends is in flight at once, so a WARP READY that the set before it has caused is taken for it (DESIGN CHOICE,
notes/assumptions/32.md). -/
def handFallback (s : State) : State := computation (judgeLoss (fallback s) (modSel (fun x => { x with active := fallback s }) s))

/-- The write-backs of restoration (R134, R185). They wait among the part's own writes, behind those of commands (DESIGN CHOICE,
notes/assumptions/40.md). -/
def writeBacks (keys : List RecKey) (s : State) : State := keys.foldl (fun x k => askOwn k x) s

/-- Power is applied (R185). -/
def powerUp (inp : PowerOnInputs) (s : State) : State :=
  let r := restored inp s.store.stored
  settle (powerNotice .bayB (powerNotice .bayA (handFallback (writeBacks r.2.2 (poweredState inp r.1 r.2.1 s)))))

/-! ## RESTART -/

/-- A bay's state after RESTART, by its state and its lit sense (R25). -/
def stateAfter (st : BaySt) (lit maint : Bool) : BaySt :=
  match st with
  | .empty => .empty
  | .failed => .failed
  | .lit => if lit && !maint then .lit else .rest
  | .striking | .warming => if lit && !maint then .warming else .rest
  | .dark | .cooling | .rest => .rest

/-- The state timer that goes with it (R25). -/
def timerAfter (s : State) (st : BaySt) : Option Nat :=
  match st with
  | .warming => some (s.uptime + warmUp)
  | .rest => some (s.uptime + holdoff)
  | _ => none

/-- A bay leaves Striking at the restart (R17, R25). -/
def strikingEnds (b : Bay) (s : State) : State := if (bay s b).st = .striking then leaveStriking b s else s

/-- A bay at RESTART: its state, its timer, its last extinguish and its record's write (R25, R36, R39). -/
def restartBay (b : Bay) (s : State) : State :=
  let old := (bay s b).st
  let new := stateAfter old (s.pins.lit.get b) s.lock.maint
  let s1 := modBay b (fun y =>
    { y with st := new, timer := timerAfter s new, causeMark := false, stamp := none
             burnSince := if old = .striking then s.uptime else y.burnSince }) (strikingEnds b s)
  if old.burning && !new.burning then leaveBurning b s1 else s1

/-- The demand after RESTART: the burning bays are wanted (R25). -/
def restartDemand (s : State) : State :=
  let w : PerBay Bool := .make (fun b => (bay s b).st.burning)
  { s with lamp := { s.lamp with
      wanted := w, count := (if w.a then 1 else 0) + (if w.b then 1 else 0), origin := .restart } }

/-- A bay that burns after RESTART with its door open or its ballast fault asserted goes out by that cause (R25). -/
def restartCause (b : Bay) (s : State) : State :=
  if (bay s b).st.burning && (s.pins.door.get b || s.pins.ballast.get b) then
    outByCause b (modBay b (fun y => { y with doorFault := y.doorFault || s.pins.door.get b }) s)
  else s

/-- The LAMP notice of a bay that leaves RESTART in Lit, Failed or Empty (R25). -/
def restartNotice (b : Bay) (s : State) : State :=
  if (bay s b).st = .lit ∨ (bay s b).st = .failed ∨ (bay s b).st = .empty then lampNotice b (bay s b).st s else s

/-- The Lamp Controller at RESTART (R25). -/
def restartLamps (s : State) : State :=
  restartCause .bayB (restartCause .bayA (restartNotice .bayB (restartNotice .bayA
    (restartDemand (restartBay .bayB (restartBay .bayA s))))))

/-- A bay's part of the Mode Unit at RESTART (R61). -/
def BayMode.restart (m : BayMode) : BayMode := { m with run := 0, override := .none }

/-- The Mode Unit at RESTART (R61). -/
def restartMode (s : State) : State :=
  { s with mode := { s.mode with temp := none, bays := .make (fun b => (s.mode.bays.get b).restart) } }

/-- The Heat Monitor at RESTART: the last readings are kept (R71). -/
def restartHeat (s : State) : State :=
  { s with heat := { Heat.fresh with housing := s.heat.housing, ambient := s.heat.ambient, fan := s.heat.fan } }

/-- The fan level is chosen from the bay states that the restart leaves, and the stall timer restarts with it (R71). -/
def restartFan (s : State) : State :=
  { s with heat := { s.heat with
      fan := fanChoice s, stallFrom := if fanChoice s = .low then none else some s.uptime } }

/-- The Source Selector at RESTART: NoSignal on P1, as at power-on (R103). As at power-on no SOURCE notice is placed (DESIGN CHOICE,
notes/assumptions/31.md). -/
def restartSel (s : State) : State := { s with sel := { State.reset.sel with noSigFrom := s.uptime } }

/-- The Geometry Engine at RESTART (R119). -/
def restartGeo (s : State) : State :=
  { s with geo := { s.geo with
      cand := none, agree := 0, imm := true, vAdj := 0, hAdj := 0, inFlight := none, nextSlot := none, appliedSet := none,
      tiltInvalid := decide (20 ≤ s.geo.invalidRun) } }

/-- The filters and masks, by number. -/
def filterKeys : List RecKey := (upTo 8).map .filter ++ (upTo 3).map .mask

/-- A filter or mask restored at RESTART: from its stored copy, or at its shipped value where that is unreadable (R171). -/
def restoreKey (s : State) (r : Records) (k : RecKey) : Records :=
  if k ∈ s.store.unreadable then copyRec k .shipped r else copyRec k s.store.stored r

/-- The filters and masks at RESTART; those whose stored copy is unreadable join the unsaved set, and the others leave it (R171,
R184). -/
def restartFilters (s : State) : State :=
  let bad := filterKeys.filter (fun k => k ∈ s.store.unreadable)
  writeBacks bad
    { s with
      work := filterKeys.foldl (restoreKey s) s.work
      store := { s.store with unsaved := s.store.unsaved.filter (fun k => k ∉ filterKeys) ++ bad } }

/-- The Line Port at RESTART (R173). -/
def restartLine (s : State) : State := { s with comms := { s.comms with errCount := 0, deaf := false } }

/-- The queue becomes empty before any notice of the reset (R181). -/
def emptyQueue (s : State) : State := { s with notices := { queue := [], overflow := false } }

/-- The blocks before the Schedule Engine take their restart values (R177). -/
def restartBlocks (s : State) : State :=
  restartFilters (restartLine (clearUnlocked (handFallback (restartGeo (restartSel (restartFan (restartLamps (restartMode
    (restartHeat (emptyQueue s))))))))))

/-- The Schedule Engine at RESTART: an evaluation, and its actions again (R150). -/
def restartSchedule (s : State) : State := retakeActions (evaluate false (modSched (fun x => { x with idle := 0 }) s))

/-- While the restart is in progress no write starts: the store is held as if one were in progress (R184). -/
def holdStore (s : State) : State := { s with store := { s.store with busy := some ⟨.exceptions, s.work, []⟩ } }

/-- The store is let go, and the next waiting write starts with the values of that moment (R184). -/
def releaseStore (s : State) : State := startWrite { s with store := { s.store with busy := none } }

/-- RESTART (R177): the blocks, with the Mode Unit's evaluation of the bay states that they leave (R61), then the schedule (R150), then
the Fault Table's judgement (R180), and then the writes that wait (R184). -/
def restartAll (s : State) : State :=
  releaseStore (rejudgeFaults (follow (restartSchedule (syncMode (restartBlocks (holdStore s))))))

/-- RESTART is acted on once the write in progress has ended (R184). -/
def cmdRestart (snd : Sender) (args : List String) (s : State) : Answer :=
  gate snd .facility (noArgs args) s (fun x =>
    if x.store.busy.isSome then ⟨{ x with comms := { x.comms with restartBy := some snd } }, [], 0, none⟩
    else yes (restartAll x) (fun _ => ["RESTART"]))

end Sys2Proof.Machine
end

