-- ==== Sys2Proof/Machine/Line.lean ====
section
/-! DEFINITION. Machine/Line.lean: the receivers of the two ports, the check of a frame, addressing and class, the line error count, the
verbs of commands, and the frames and replies that wait (chapter 11, R182, R184). -/

namespace Sys2Proof.Machine

/-! ## Verbs -/

/-- A command with a verb and its arguments; an unknown verb is answered NO VERB (R174). -/
def commandOf (snd : Sender) (verb : String) (args : List String) : State → Answer :=
  match verb with
  | "RESTART" => cmdRestart snd args
  | "LAMPON" => cmdLampon snd args
  | "LAMPOFF" => cmdLampoff snd args
  | "INSTALL" => cmdInstall snd args
  | "REPLACE" => cmdReplace snd args
  | "REMOVE" => cmdRemove snd args
  | "REVIVE" => cmdRevive snd args
  | "LAMPINFO" => cmdLampinfo snd args
  | "MODE" => cmdMode snd args
  | "MODEINFO" => cmdModeinfo snd args
  | "HEATINFO" => cmdHeatinfo snd args
  | "PORTINFO" => cmdPortinfo snd args
  | "PROFILE" => cmdProfile snd args
  | "UNPROFILE" => cmdUnprofile snd args
  | "TRIM" => cmdTrim snd args
  | "PROFINFO" => cmdProfinfo snd args
  | "SOURCE" => cmdSource snd args
  | "NUDGE" => cmdNudge snd args
  | "LIMITS" => cmdLimits snd args
  | "GEOINFO" => cmdGeoinfo snd args
  | "SETCLOCK" => cmdSetclock snd args
  | "CLOCK" => cmdClock snd args
  | "BOOK" => cmdBook snd args
  | "REBOOK" => cmdRebook snd args
  | "UNBOOK" => cmdUnbook snd args
  | "SKIP" => cmdSkip snd args
  | "UNSKIP" => cmdUnskip snd args
  | "BOOKINFO" => cmdBookinfo snd args
  | "BOOKLIST" => cmdBooklist snd args
  | "EXTEND" => cmdExtend snd args
  | "ENDNOW" => cmdEndnow snd args
  | "OCCINFO" => cmdOccinfo snd args
  | "RELOCK" => cmdRelock snd args
  | "UNLOCK" => cmdUnlock snd args
  | "ATTEMPTS" => cmdAttempts snd args
  | "SETCODE" => cmdSetcode snd args
  | "DELCODE" => cmdDelcode snd args
  | "SETMASTER" => cmdSetmaster snd args
  | "FREEZE" => cmdFreeze snd args
  | "LOCKINFO" => cmdLockinfo snd args
  | "FILTER" => cmdFilter snd args
  | "MASK" => cmdMask snd args
  | "LINEINFO" => cmdLineinfo snd args
  | "CLEARFAULT" => cmdClearfault snd args
  | "FAULTS" => cmdFaults snd args
  | "STATUS" => cmdStatus snd args
  | "MUTE" =>
    match args with
    | ["ON"] => cmdMute true snd
    | ["OFF"] => cmdMute false snd
    | _ => fun s => if below snd .presenter then no "CLASS" s else no "ARGS" s
  | "MAINT" =>
    match args with
    | ["ON"] => cmdMaintOn snd
    | ["OFF"] => cmdMaintOff snd
    | _ => fun s => if below snd .facility then no "CLASS" s else no "ARGS" s
  | "CEILING" =>
    match args with
    | ["CLEARTEMP"] => cmdCeilingCleartemp snd
    | [m, "PERSIST"] => cmdCeilingPersist snd [m]
    | [m, "TEMP"] => cmdCeilingTemp snd [m]
    | _ => fun s => if below snd .facility then no "CLASS" s else no "ARGS" s
  | "SETTING" =>
    match args with
    | [] => cmdSettingQuery snd []
    | k :: rest =>
      match parseSetting k with
      | some .address => cmdAddress snd rest
      | some .plan => cmdPlan snd rest
      | some .mount => cmdMount snd rest
      | some .defmode => cmdDefmode snd rest
      | some .condint => cmdCondint snd rest
      | some .autoscan => cmdAutoscan snd rest
      | some .prewarm => cmdPrewarm snd rest
      | some .grace => cmdGrace snd rest
      | some .idle => cmdIdle snd rest
      | some .idlelock => cmdIdlelock snd rest
      | none => fun s => no "ARGS" s
  | _ => fun s => no "VERB" s

/-- The verbs of the lamps, the wear records, the modes and the heat (chapters 1 to 4). -/
def lampVerbs : List String :=
  ["LAMPON", "LAMPOFF", "INSTALL", "REPLACE", "REMOVE", "REVIVE", "LAMPINFO", "MODE", "MODEINFO", "HEATINFO", "CEILING"]

/-- The verbs of the ports, the selector and the picture (chapters 5 to 7). -/
def pictureVerbs : List String :=
  ["PORTINFO", "PROFILE", "UNPROFILE", "TRIM", "PROFINFO", "SOURCE", "MUTE", "NUDGE", "LIMITS", "GEOINFO"]

/-- The verbs of the room schedule (chapters 8 and 9). -/
def roomVerbs : List String :=
  ["SETCLOCK", "CLOCK", "BOOK", "REBOOK", "UNBOOK", "SKIP", "UNSKIP", "BOOKINFO", "BOOKLIST", "EXTEND", "ENDNOW", "OCCINFO"]

/-- The verbs of the lockout and the codes (chapter 10). -/
def lockVerbs : List String :=
  ["RELOCK", "UNLOCK", "ATTEMPTS", "SETCODE", "DELCODE", "SETMASTER", "FREEZE", "LOCKINFO", "MAINT"]

/-- The verbs of the line, the faults and the settings (chapters 11 and 12). -/
def lineVerbs : List String := ["FILTER", "MASK", "LINEINFO", "CLEARFAULT", "FAULTS", "STATUS", "SETTING", "RESTART"]

/-- The verbs of the manual. -/
def verbs : List String := lampVerbs ++ pictureVerbs ++ roomVerbs ++ lockVerbs ++ lineVerbs

/-- A taken body is judged: its verb first, then its spaces, then its own rule (R174). -/
def runBody (snd : Sender) (words : List String) (s : State) : Answer :=
  match words with
  | [] => no "VERB" s
  | v :: args => if v ∈ verbs then judge words (commandOf snd v args) s else no "VERB" s

/-- A frame that is taken: at once, or after the reply before it has begun (R174). -/
def takeBody (snd : Sender) (words : List String) (s : State) : State :=
  if portBusy s snd.port then modChan snd.port (fun c => { c with inbox := c.inbox ++ [(snd, words)] }) s
  else answer snd (runBody snd words s)

/-! ## The check of a closed frame -/

/-- A good frame: its start character, its address, its originator and its body. -/
structure Frame where
  start : Char
  addr : Nat
  orig : Byte
  body : List Char

/-- A start character (section 11.1). -/
def startChar (c : Char) : Bool := c == '>' || c == '<' || c == '!'

/-- The characters before the `*` and two hex digits that end a frame, with the byte the two digits give (R169). -/
def splitCheck (cs : List Char) : Option (List Char × Byte) :=
  match cs.reverse with
  | y :: x :: '*' :: l => (hexOfChars x y).map (fun b => (l.reverse, b))
  | _ => none

/-- The form and the check of a closed frame, without its carriage return (R169). Lower-case letters in a body do not make a frame bad:
its words are then judged by their commands (DESIGN CHOICE, notes/assumptions/28.md). -/
def goodFrame (cs : List Char) : Option Frame :=
  match cs with
  | st :: d1 :: d2 :: h1 :: h2 :: ' ' :: rest =>
    match natOfChars [d1, d2], hexOfChars h1 h2, splitCheck rest with
    | some a, some o, some (body, k) =>
      if checkOf (d1 :: d2 :: h1 :: h2 :: ' ' :: body) = k then some ⟨st, a, o, body⟩ else none
    | _, _, _ => none
  | _ => none

/-- The words of a frame's body. -/
def Frame.words (f : Frame) : List String := (splitWords f.body).map String.ofList

/-! ## Class and addressing -/

/-- A filter's mask. -/
def filterMask (s : State) (f : Filter) : Byte := (nth s.work.masks f.mask).getD 0xFF

/-- A filter gives its class to an originator (R171). -/
def filterHits (s : State) (o : Byte) (f : Filter) : Bool := f.on && o &&& filterMask s f == f.code &&& filterMask s f

/-- The class that the acceptance filters give an originator (R171). -/
def classOf (s : State) (o : Byte) : Option Cls := (s.work.filters.find? (filterHits s o)).map Filter.cls

/-- The verbs that are taken as a broadcast (R170). -/
def broadcastVerb (words : List String) : Bool := words.head? == some "SETCLOCK" || words.head? == some "LAMPOFF"

/-- A good frame on the line is acted on, or not, by its start, its address and its originator (R170). It is classed now, at its close,
also where it waits for a RESTART to be acted on (DESIGN CHOICE, notes/assumptions/20.md). -/
def lineTake (f : Frame) (s : State) : State :=
  match classOf s f.orig with
  | none => s
  | some c =>
    if f.start != '>' then s
    else if f.addr = 0 then
      if broadcastVerb f.words then takeBody ⟨.line, c, f.orig, true⟩ f.words s else s
    else if f.addr = s.work.settings.address then takeBody ⟨.line, c, f.orig, false⟩ f.words s
    else s

/-- A good frame on the Lectern Port: only a command to the part's own address is taken, with the class Presenter (R175). -/
def lecternTake (f : Frame) (s : State) : State :=
  if f.start = '>' ∧ f.addr = s.work.settings.address ∧ f.addr ≠ 0 then
    takeBody ⟨.lectern, .presenter, f.orig, false⟩ f.words s
  else s

/-! ## Line health -/

/-- A dropped reply is not waited for by any write. -/
def dropWaiters (s : State) : State :=
  let keep (l : List CmdPort) : List CmdPort := l.filter (fun p => p != .line)
  { s with store := { s.store with
      busy := s.store.busy.map (fun j => { j with waiters := keep j.waiters })
      cmdQ := s.store.cmdQ.map (fun r => { r with waiters := keep r.waiters }) } }

/-- Deaf begins: no frame is open, a reply that has not begun is dropped, and of the frames that wait some may be dropped too (R173;
the choice is free, notes/assumptions/12.md). -/
def enterDeaf (s : State) : State :=
  let s1 := dropWaiters s
  { s1 with
    choices := s.choices + 1
    comms := { s1.comms with
      deaf := true
      line := { s1.comms.line with
        rx := none, reply := none, inbox := s1.comms.line.inbox.filter (fun _ => Config.deafKeepsFrame s.choices) }
      restartBy := s1.comms.restartBy.map (fun x => { x with broadcast := true }) } }

/-- A bad frame is counted; at 192 the line is Deaf (R173). -/
def countBad (s : State) : State :=
  let s1 := { s with comms := { s.comms with errCount := satAdd 255 s.comms.errCount 8 } }
  if 192 ≤ s1.comms.errCount then enterDeaf s1 else s1

/-- A good frame is counted (R173). -/
def countGood (s : State) : State := { s with comms := { s.comms with errCount := s.comms.errCount - 1 } }

/-- The open frame of a port is replaced. -/
def setRx (p : CmdPort) (rx : Option (List Char)) (s : State) : State := modChan p (fun c => { c with rx := rx }) s

/-- A character arrives on a port at this moment. -/
def heard (p : CmdPort) (s : State) : State := modChan p (fun c => { c with lastChar := s.uptime }) s

/-- An open frame on the line ends bad (R168). -/
def lineBad (s : State) : State := countBad (setRx .line none s)

/-- More than 200 ms have passed since the last character of an open frame (R168). -/
def gapPassed (s : State) (p : CmdPort) : Bool := (chan s p).rx.isSome && decide ((chan s p).lastChar + charGap < s.uptime)

/-! ## The receivers -/

/-- A start character on the line: an open frame ends bad, and unless the line is now Deaf a new frame opens (R168). This is so also
for a start character that is the 96th of its frame, which R168 names under two events (DESIGN CHOICE, notes/assumptions/28.md). -/
def lineStart (c : Char) (s : State) : State :=
  let s1 := if s.comms.line.rx.isSome then lineBad s else s
  if s1.comms.deaf then s1 else setRx .line (some [c]) s1

/-- A frame on the line closes: it is counted, and a good one may be taken (R169, R170). -/
def lineClose (cs : List Char) (s : State) : State :=
  match goodFrame cs with
  | some f => lineTake f (countGood (setRx .line none s))
  | none => lineBad s

/-- A character of an open frame (R168). -/
def lineMore (c : Char) (cs : List Char) (s : State) : State :=
  if c = Char.ofNat 13 then lineClose cs s
  else if 96 ≤ cs.length + 1 then lineBad s
  else setRx .line (some (cs ++ [c])) s

/-- A character that the line's receiver takes up (R168). -/
def lineJudge (c : Char) (s : State) : State :=
  if startChar c then lineStart c s
  else
    match s.comms.line.rx with
    | some cs => lineMore c cs s
    | none => s

/-- A character on the line: unheard while the part drives it, and only noted while the line is Deaf (R168, R173). -/
def lineChar (c : Char) (s : State) : State :=
  if sending s .line then s
  else if s.comms.deaf then heard .line s
  else lineJudge c (heard .line (if gapPassed s .line then lineBad s else s))

/-- Characters on the line, one after the other. -/
def lineChars : List Char → State → State
  | [], s => s
  | c :: cs, s => lineChars cs (lineChar c s)

/-- A character of an open frame on the Lectern Port (R175). -/
def lecternMore (c : Char) (cs : List Char) (s : State) : State :=
  if c = Char.ofNat 13 then
    match goodFrame cs with
    | some f => lecternTake f (setRx .lectern none s)
    | none => setRx .lectern none s
  else if 96 ≤ cs.length + 1 then setRx .lectern none s
  else setRx .lectern (some (cs ++ [c])) s

/-- A character that the Lectern Port's receiver takes up (R175). -/
def lecternJudge (c : Char) (s : State) : State :=
  if startChar c then setRx .lectern (some [c]) s
  else
    match s.comms.lectern.rx with
    | some cs => lecternMore c cs s
    | none => s

/-- A character on the Lectern Port, which hears while it sends (R175). -/
def lecternChar (c : Char) (s : State) : State :=
  lecternJudge c (heard .lectern (if gapPassed s .lectern then setRx .lectern none s else s))

/-- Characters on the Lectern Port, one after the other. -/
def lecternChars : List Char → State → State
  | [], s => s
  | c :: cs, s => lecternChars cs (lecternChar c s)

/-- The line hears the bad end of a frame (R168): not while it sends, and in Deaf it is a character like any other (R173). The row
stands for a whole bad frame: where no frame is open in `rx`, its earlier characters are taken as heard (DESIGN CHOICE,
notes/assumptions/28.md). -/
def lineBadFrame (start : Option Char) (s : State) : State :=
  if sending s .line then s
  else if s.comms.deaf then heard .line s
  else
    let s1 := lineBad (heard .line s)
    match start with
    | some c => if startChar c && !s1.comms.deaf then setRx .line (some [c]) s1 else s1
    | none => s1

/-- The end of a bad frame, on the port that its cause names (R168, R175). -/
def badFrame (cause : BadCause) (s : State) : State :=
  match cause with
  | .newStart c => lineBadFrame (some c) s
  | .framingError | .overlength | .failedCheck => lineBadFrame none s
  | .lecternFramingError => setRx .lectern none (heard .lectern s)

/-- The line has been idle for 3 s in Deaf (R173). -/
def deafOver (s : State) : Bool := s.comms.deaf && decide (s.comms.line.lastChar + deafIdle ≤ s.uptime)

/-- Deaf ends (R173). -/
def deafEnds (s : State) : State := { s with comms := { s.comms with deaf := false, errCount := 0 } }

/-! ## Frames and replies that wait -/

/-- The frames that wait on a port are taken in order, until one has a reply that waits in its turn (R174). -/
def drainList (p : CmdPort) : List (Sender × List String) → State → State
  | [], s => modChan p (fun c => { c with inbox := [] }) s
  | (snd, ws) :: l, s =>
    if portBusy s p then modChan p (fun c => { c with inbox := (snd, ws) :: l }) s
    else drainList p l (answer snd (runBody snd ws (ready s)))

/-- The frames that wait on a port are taken where they can be; a Deaf line takes none (R173, R174). -/
def drain (p : CmdPort) (s : State) : State :=
  if p = .line ∧ s.comms.deaf = true then s
  else if (chan s p).inbox.isEmpty then s
  else drainList p (chan s p).inbox s

/-- A reply that waits begins to be sent where it can, and then the frames that wait behind it are taken (R174). -/
def serve (p : CmdPort) (s : State) : State := drain p (sendIfReady p s)

/-- One write of a port's waiting reply has ended (R184). -/
def tellWaiter (ok : Bool) (s : State) (p : CmdPort) : State :=
  modChan p (fun c => { c with reply := c.reply.map (fun w =>
    { w with outstanding := w.outstanding - 1, failed := w.failed || !ok }) }) s

/-- The stored copy and the unsaved set after a write (R184). -/
def recordWrite (j : WriteJob) (ok : Bool) (s : State) : State :=
  if ok then
    { s with store := { s.store with
        stored := copyRec j.key j.snap s.store.stored, unsaved := s.store.unsaved.filter (fun k => k != j.key),
        unreadable := s.store.unreadable.filter (fun k => k != j.key), busy := none } }
  else { s with store := { s.store with unsaved := addKey j.key s.store.unsaved, busy := none } }

/-- A RESTART that waited is acted on, with its reply; otherwise the next waiting write starts (R184). -/
def afterWrite (s : State) : State :=
  match s.comms.restartBy with
  | some snd => answer snd (yes (restartAll { s with comms := { s.comms with restartBy := none } }) (fun _ => ["RESTART"]))
  | none => startWrite s

/-- A write ends (R184). -/
def writeEnds (ok : Bool) (s : State) : State :=
  match s.store.busy with
  | none => s
  | some j => serve .lectern (serve .line (settle (afterWrite (j.waiters.foldl (tellWaiter ok) (recordWrite j ok s)))))

/-! ## Notices -/

/-- The notice that is sent first: the highest priority, and the oldest among equals (R182). -/
def bestNotice : List Notice → Option Notice
  | [] => none
  | n :: l =>
    match bestNotice l with
    | some m => if n.kind.prio < m.kind.prio then some m else some n
    | none => some n

/-- The frame of a notice (R182). -/
def noticeFrame (s : State) (n : Notice) : List Char :=
  frameOf '!' s.work.settings.address 0x00 (showKind n.kind :: showSubject n.subject :: n.fields)

/-- The uptime of the last character received or sent on the line. -/
def lineBusyUntil (s : State) : Nat := max s.comms.line.lastChar (s.comms.line.txUntil.getD 0)

/-- A notice may begin (R173, R182). A reply on the line that still waits for its writes counts as waiting to be sent, and a RESTART
that waits for the write in progress does not (DESIGN CHOICE, notes/assumptions/29.md). -/
def noticeDue (s : State) : Bool :=
  !s.comms.deaf && decide (s.comms.errCount < 96) && !s.notices.queue.isEmpty && s.comms.line.reply.isNone &&
    !sending s .line && decide (lineBusyUntil s + noticeIdle ≤ s.uptime)

/-- A notice leaves the queue and is sent (R182). -/
def noticeSends (s : State) : State :=
  match bestNotice s.notices.queue with
  | some n => transmit .line (noticeFrame s n) { s with notices := { s.notices with queue := s.notices.queue.erase n } }
  | none => s

end Sys2Proof.Machine
end

