-- ==== Sys2Proof/Machine/SystemFamily.lean ====
section
/-! DEFINITION. Machine/SystemFamily.lean: the meanings of the rows that concern the part as a whole: the resets, the frames of both
ports, notices, replies and writes (R168 to R185). It also holds the three forms that every meaning takes. -/

namespace Sys2Proof.Machine

/-- A meaning ends in a next state, a fault or a refusal. -/
abbrev Result := Host.Outcome State Fault Refusal

/-- An event from outside, or one that the rules let happen at any time. -/
def act (f : State → State) (s : State) : Result := .next (event f s)

/-- The same for an event that may drop the demand or take a frame, before which a lock or a grant need not be taken. -/
def actLoose (f : State → State) (s : State) : Result := .next (eventLoose f s)

/-- An event of a timer or a count: it has no effect where it has not fallen due. -/
def onTime (due : State → Bool) (f : State → State) (s : State) : Result := .next (timed due f s)

/-- The same for an event of the schedule or one that takes a frame, before which a lock or a grant need not be taken. -/
def onTimeLoose (due : State → Bool) (f : State → State) (s : State) : Result := .next (timedLoose due f s)

/-- A command: it is taken from its port after the events that precede it, and answered (R174). -/
def run (snd : Sender) (words : List String) (cmd : State → Answer) (s : State) : Result :=
  .next (takeOn snd words cmd (ready s))

/-- POWER_ON (R185). -/
def execPowerOn (inp : PowerOnInputs) (s : State) : Result := .next (powerUp inp s)

/-- RESTART (R177). -/
def execRestart (snd : Sender) (args : List String) (s : State) : Result := run snd ("RESTART" :: args) (cmdRestart snd args) s

/-- LINE_FRAME: the characters of a frame arrive on the line and it closes (R168, R169, R170). -/
def execLineFrame (chars : List Char) (s : State) : Result := actLoose (lineChars chars) s

/-- BAD_FRAME: an open frame ends bad, on the line or by a framing error on the Lectern Port (R168, R173, R175). -/
def execBadFrame (cause : BadCause) (s : State) : Result := act (badFrame cause) s

/-- INTER_CHARACTER_GAP (R168, R173). -/
def execInterCharacterGap (s : State) : Result := onTime (fun x => gapPassed x .line) lineBad s

/-- LINE_DEAF_END (R173). LineDeaf has ended (R178) when a frame that waits is taken. -/
def execLineDeafEnd (s : State) : Result := onTimeLoose deafOver (fun x => serve .line (settle (deafEnds x))) s

/-- LECTERN_FRAME: the characters of a frame arrive on the Lectern Port and it closes (R175). -/
def execLecternFrame (chars : List Char) (s : State) : Result := actLoose (lecternChars chars) s

/-- NOTICE_SEND (R182). -/
def execNoticeSend (s : State) : Result := onTime noticeDue noticeSends s

/-- STORE_WRITE_DONE (R184). -/
def execStoreWriteDone (ok : Bool) (s : State) : Result := actLoose (writeEnds ok) s

/-- REPLY_SEND: a reply that is ready begins to be sent on its port (R174). -/
def execReplySend (port : CmdPort) (s : State) : Result := onTimeLoose (fun x => replyReady x port) (serve port) s

end Sys2Proof.Machine
end

