-- ==== Sys2Proof/Machine/GeometryFamily.lean ====
section
/-! DEFINITION. Machine/GeometryFamily.lean: the meanings of the Geometry Engine's rows (chapter 7). -/

namespace Sys2Proof.Machine

/-- TILT_READ (R104, R105). -/
def execTiltRead (reading : Option Int) (s : State) : Result := act (tiltReads reading) s

/-- TILT_INVALID (R105). -/
def execTiltInvalid (s : State) : Result := .next (fuTilt s)

/-- CADENCE_COMPUTATION (R107, R109). -/
def execCadenceComputation (s : State) : Result := onTime cadenceDue cadence s

/-- AUTO_TILT_CONFIRM (R107). -/
def execAutoTiltConfirm (s : State) : Result := .next (fuConfirm s)

/-- WARP_READY (R113). -/
def execWarpReady (s : State) : Result := act warpAccepts s

/-- WARP_REPLY_WINDOW_END (R113). -/
def execWarpReplyWindowEnd (s : State) : Result := onTime warpWindowDue warpWindowEnds s

/-- NUDGE (R114). -/
def execNudge (snd : Sender) (args : List String) (s : State) : Result :=
  run snd ("NUDGE" :: args) (cmdNudge snd args) s

/-- LIMITS (R115). -/
def execLimits (snd : Sender) (args : List String) (s : State) : Result :=
  run snd ("LIMITS" :: args) (cmdLimits snd args) s

/-- SETTING MOUNT (R116). -/
def execSettingMount (snd : Sender) (args : List String) (s : State) : Result :=
  run snd ("SETTING" :: "MOUNT" :: args) (cmdMount snd args) s

/-- GEOINFO (R117). -/
def execGeoinfo (snd : Sender) (args : List String) (s : State) : Result :=
  run snd ("GEOINFO" :: args) (cmdGeoinfo snd args) s

end Sys2Proof.Machine
end

