-- ==== Sys2Proof/Machine/HeatFamily.lean ====
section
/-! DEFINITION. Machine/HeatFamily.lean: the meanings of the Heat Monitor's rows (chapter 4). -/

namespace Sys2Proof.Machine

/-- THERMISTOR_CONVERSION (R63, R64, R65, R68). -/
def execThermistorConversion (housing ambient : Int) (s : State) : Result := actLoose (convert housing ambient) s

/-- HOUSING_SENSOR_FAULT (R64). -/
def execHousingSensorFault (s : State) : Result := .next (fuSensor s)

/-- THERMAL_LEVEL_CHANGE (R65, R66, R67). -/
def execThermalLevelChange (s : State) : Result := .next (fuLevel s)

/-- HOT_HALL_CHANGE (R68). -/
def execHotHallChange (s : State) : Result := .next (fuHall s)

/-- TACH_PULSE (R70). -/
def execTachPulse (s : State) : Result := act tachPulses s

/-- FAN_STALL (R70). -/
def execFanStall (s : State) : Result := onTime stallDue fanStalls s

/-- HEATINFO (R72). -/
def execHeatinfo (snd : Sender) (args : List String) (s : State) : Result :=
  run snd ("HEATINFO" :: args) (cmdHeatinfo snd args) s

end Sys2Proof.Machine
end

