-- ==== Sys2Proof/Machine/LampFamily.lean ====
section
/-! DEFINITION. Machine/LampFamily.lean: the meanings of the lamp bays' rows (chapter 1). -/

namespace Sys2Proof.Machine

/-- LAMPON (R20). -/
def execLampon (snd : Sender) (args : List String) (s : State) : Result :=
  run snd ("LAMPON" :: args) (cmdLampon snd args) s

/-- LAMPOFF (R21). -/
def execLampoff (snd : Sender) (args : List String) (s : State) : Result :=
  run snd ("LAMPOFF" :: args) (cmdLampoff snd args) s

/-- SETTING PLAN (R22). -/
def execSettingPlan (snd : Sender) (args : List String) (s : State) : Result :=
  run snd ("SETTING" :: "PLAN" :: args) (cmdPlan snd args) s

/-- IGNITER_GRANT (R2, R16). -/
def execIgniterGrant (s : State) : Result := .next (fuGrant s)

/-- STRIKE_SUCCESS: the lit sense of a bay is asserted (R3). -/
def execStrikeSuccess (b : Bay) (s : State) : Result := act (litAsserted b) s

/-- STRIKE_WINDOW_END (R4). -/
def execStrikeWindowEnd (b : Bay) (s : State) : Result := onTime (fun x => timerEnded x b .striking) (strikeFails b) s

/-- WARM_UP_END (R5). -/
def execWarmUpEnd (b : Bay) (s : State) : Result := onTime (fun x => timerEnded x b .warming) (warmUpEnds b) s

/-- LIT_SENSE_DROP (R10). -/
def execLitSenseDrop (b : Bay) (s : State) : Result := act (litDrops b) s

/-- COOLING_END (R6). -/
def execCoolingEnd (b : Bay) (s : State) : Result := onTime (fun x => timerEnded x b .cooling) (coolingEnds b) s

/-- REST_END (R7). -/
def execRestEnd (b : Bay) (s : State) : Result := onTime (fun x => timerEnded x b .rest) (enterDark b) s

/-- STRIKE_HOLDOFF_END: the bay becomes a waiter when the state settles (R2). -/
def execStrikeHoldoffEnd (b : Bay) (s : State) : Result := onTime (fun x => holdoffDue x b) id s

/-- DOOR_OPEN (R9, R19). -/
def execDoorOpen (b : Bay) (s : State) : Result := actLoose (doorOpens b) s

/-- DOOR_CLOSE (R9, R19). -/
def execDoorClose (b : Bay) (s : State) : Result := act (doorCloses b) s

/-- BALLAST_FAULT_ASSERTED (R9). -/
def execBallastFaultAsserted (b : Bay) (s : State) : Result := actLoose (ballastAsserts b) s

/-- BALLAST_FAULT_RELEASED (R9). -/
def execBallastFaultReleased (b : Bay) (s : State) : Result := act (setBallast b false) s

/-- SPACING_END (R17). -/
def execSpacingEnd (s : State) : Result := onTime spacingDue spacingEnds s

/-- STRIKE_LIST_EXPIRY (R18). -/
def execStrikeListExpiry (b : Bay) (s : State) : Result := onTime (fun x => strikeListDue x b) (strikeListExpires b) s

/-- LOSS_BAR_END (R15). -/
def execLossBarEnd (b : Bay) (s : State) : Result := onTime (fun x => reached x (bay x b).lossBar) (lossBarEnds b) s

/-- LAMP_LOST_EXPIRY (R10). -/
def execLampLostExpiry (b : Bay) (s : State) : Result := onTime (fun x => lampLostDue x b) (lampLostEnds b) s

end Sys2Proof.Machine
end

