-- ==== Sys2Proof/Machine/LockFamily.lean ====
section
/-! DEFINITION. Machine/LockFamily.lean: the meanings of the Lock Unit's rows (chapter 10). -/

namespace Sys2Proof.Machine

/-- SETTING IDLELOCK (R155). -/
def execSettingIdlelock (snd : Sender) (args : List String) (s : State) : Result :=
  run snd ("SETTING" :: "IDLELOCK" :: args) (cmdIdlelock snd args) s

/-- RELOCK (R156). -/
def execRelock (snd : Sender) (args : List String) (s : State) : Result :=
  run snd ("RELOCK" :: args) (cmdRelock snd args) s

/-- UNLOCK (R160). -/
def execUnlock (snd : Sender) (args : List String) (s : State) : Result :=
  run snd ("UNLOCK" :: args) (cmdUnlock snd args) s

/-- ATTEMPTS (R161). -/
def execAttempts (snd : Sender) (args : List String) (s : State) : Result :=
  run snd ("ATTEMPTS" :: args) (cmdAttempts snd args) s

/-- SETCODE (R162). -/
def execSetcode (snd : Sender) (args : List String) (s : State) : Result :=
  run snd ("SETCODE" :: args) (cmdSetcode snd args) s

/-- DELCODE (R163). -/
def execDelcode (snd : Sender) (args : List String) (s : State) : Result :=
  run snd ("DELCODE" :: args) (cmdDelcode snd args) s

/-- SETMASTER (R164). -/
def execSetmaster (snd : Sender) (args : List String) (s : State) : Result :=
  run snd ("SETMASTER" :: args) (cmdSetmaster snd args) s

/-- FREEZE (R165). -/
def execFreeze (snd : Sender) (args : List String) (s : State) : Result :=
  run snd ("FREEZE" :: args) (cmdFreeze snd args) s

/-- MAINT ON (R166). -/
def execMaintOn (snd : Sender) (s : State) : Result := run snd ["MAINT", "ON"] (cmdMaintOn snd) s

/-- MAINT OFF (R166). -/
def execMaintOff (snd : Sender) (s : State) : Result := run snd ["MAINT", "OFF"] (cmdMaintOff snd) s

/-- LOCKINFO (R167). -/
def execLockinfo (snd : Sender) (args : List String) (s : State) : Result :=
  run snd ("LOCKINFO" :: args) (cmdLockinfo snd args) s

end Sys2Proof.Machine
end

