-- ==== Sys2Proof/Machine/ModeFamily.lean ====
section
/-! DEFINITION. Machine/ModeFamily.lean: the meanings of the Mode Unit's rows (chapter 3). -/

namespace Sys2Proof.Machine

/-- MODE (R47). -/
def execMode (snd : Sender) (args : List String) (s : State) : Result :=
  run snd ("MODE" :: args) (cmdMode snd args) s

/-- SETTING DEFMODE (R48). -/
def execSettingDefmode (snd : Sender) (args : List String) (s : State) : Result :=
  run snd ("SETTING" :: "DEFMODE" :: args) (cmdDefmode snd args) s

/-- CEILING mode PERSIST (R50). -/
def execCeilingPersist (snd : Sender) (args : List String) (s : State) : Result :=
  run snd ("CEILING" :: args ++ ["PERSIST"]) (cmdCeilingPersist snd args) s

/-- CEILING mode TEMP (R50). -/
def execCeilingTemp (snd : Sender) (args : List String) (s : State) : Result :=
  run snd ("CEILING" :: args ++ ["TEMP"]) (cmdCeilingTemp snd args) s

/-- CEILING CLEARTEMP (R50). -/
def execCeilingCleartemp (snd : Sender) (s : State) : Result :=
  run snd ["CEILING", "CLEARTEMP"] (cmdCeilingCleartemp snd) s

/-- ECO_MINUTE (R53). -/
def execEcoMinute (b : Bay) (s : State) : Result := .next (fuEco b s)

/-- CONDITIONING_DUE (R54, R55). -/
def execConditioningDue (b : Bay) (s : State) : Result := .next (fuConditioning b s)

/-- SETTING CONDINT (R54). -/
def execSettingCondint (snd : Sender) (args : List String) (s : State) : Result :=
  run snd ("SETTING" :: "CONDINT" :: args) (cmdCondint snd args) s

/-- FULL_RUN_COMPLETE (R56). -/
def execFullRunComplete (b : Bay) (s : State) : Result := .next (fuFullRun b s)

/-- MODEINFO (R62). -/
def execModeinfo (snd : Sender) (args : List String) (s : State) : Result :=
  run snd ("MODEINFO" :: args) (cmdModeinfo snd args) s

end Sys2Proof.Machine
end

