-- ==== Sys2Proof/Machine/OccurrenceFamily.lean ====
section
/-! DEFINITION. Machine/OccurrenceFamily.lean: the meanings of the occurrence records' rows (chapter 9). -/

namespace Sys2Proof.Machine

/-- EXTEND (R145). -/
def execExtend (snd : Sender) (args : List String) (s : State) : Result :=
  run snd ("EXTEND" :: args) (cmdExtend snd args) s

/-- ENDNOW (R146). -/
def execEndnow (snd : Sender) (args : List String) (s : State) : Result :=
  run snd ("ENDNOW" :: args) (cmdEndnow snd args) s

/-- IDLE_AUTO_OFF (R151). -/
def execIdleAutoOff (s : State) : Result := onTimeLoose idleDue idleOff s

/-- SETTING IDLE (R152). -/
def execSettingIdle (snd : Sender) (args : List String) (s : State) : Result :=
  run snd ("SETTING" :: "IDLE" :: args) (cmdIdle snd args) s

/-- OCCINFO (R153). -/
def execOccinfo (snd : Sender) (args : List String) (s : State) : Result :=
  run snd ("OCCINFO" :: args) (cmdOccinfo snd args) s

end Sys2Proof.Machine
end

