-- ==== Sys2Proof/Machine/ProfileFamily.lean ====
section
/-! DEFINITION. Machine/ProfileFamily.lean: the meanings of the input ports' and the Profile Table's rows (chapter 5). -/

namespace Sys2Proof.Machine

/-- PORT_SAMPLE (R73, R90, R93 to R95, R97). -/
def execPortSample (readings : List PortReading) (s : State) : Result := act (samplesTaken readings) s

/-- PORTINFO (R75). -/
def execPortinfo (snd : Sender) (args : List String) (s : State) : Result :=
  run snd ("PORTINFO" :: args) (cmdPortinfo snd args) s

/-- PROFILE (R81, R82). -/
def execProfile (snd : Sender) (args : List String) (s : State) : Result :=
  run snd ("PROFILE" :: args) (cmdProfile snd args) s

/-- UNPROFILE (R83). -/
def execUnprofile (snd : Sender) (args : List String) (s : State) : Result :=
  run snd ("UNPROFILE" :: args) (cmdUnprofile snd args) s

/-- TRIM (R84). -/
def execTrim (snd : Sender) (args : List String) (s : State) : Result :=
  run snd ("TRIM" :: args) (cmdTrim snd args) s

/-- PROFINFO n (R86). -/
def execProfinfo (snd : Sender) (args : List String) (s : State) : Result :=
  run snd ("PROFINFO" :: args) (cmdProfinfo snd args) s

/-- PROFINFO without an argument (R86). -/
def execProfinfoTable (snd : Sender) (s : State) : Result := run snd ["PROFINFO"] (cmdProfinfoTable snd) s

end Sys2Proof.Machine
end

