-- ==== Sys2Proof/Machine/ScheduleFamily.lean ====
section
/-! DEFINITION. Machine/ScheduleFamily.lean: the meanings of the hall clock's and the booking table's rows (chapter 8). -/

namespace Sys2Proof.Machine

/-- MINUTE_EDGE (R120, R138). -/
def execMinuteEdge (s : State) : Result := onTimeLoose minuteEdgeDue minuteEdgePasses s

/-- CLOCK_END (R121). -/
def execClockEnd (s : State) : Result := onTimeLoose clockEndDue endClock s

/-- SETCLOCK (R122). -/
def execSetclock (snd : Sender) (args : List String) (s : State) : Result :=
  run snd ("SETCLOCK" :: args) (cmdSetclock snd args) s

/-- CLOCK (R123). -/
def execClock (snd : Sender) (args : List String) (s : State) : Result :=
  run snd ("CLOCK" :: args) (cmdClock snd args) s

/-- SETTING PREWARM (R126). -/
def execSettingPrewarm (snd : Sender) (args : List String) (s : State) : Result :=
  run snd ("SETTING" :: "PREWARM" :: args) (cmdPrewarm snd args) s

/-- SETTING GRACE (R126). -/
def execSettingGrace (snd : Sender) (args : List String) (s : State) : Result :=
  run snd ("SETTING" :: "GRACE" :: args) (cmdGrace snd args) s

/-- BOOK (R128). -/
def execBook (snd : Sender) (args : List String) (s : State) : Result :=
  run snd ("BOOK" :: args) (cmdBook snd args) s

/-- REBOOK (R129). -/
def execRebook (snd : Sender) (args : List String) (s : State) : Result :=
  run snd ("REBOOK" :: args) (cmdRebook snd args) s

/-- UNBOOK (R130). -/
def execUnbook (snd : Sender) (args : List String) (s : State) : Result :=
  run snd ("UNBOOK" :: args) (cmdUnbook snd args) s

/-- SKIP (R131). -/
def execSkip (snd : Sender) (args : List String) (s : State) : Result :=
  run snd ("SKIP" :: args) (cmdSkip snd args) s

/-- UNSKIP (R132). -/
def execUnskip (snd : Sender) (args : List String) (s : State) : Result :=
  run snd ("UNSKIP" :: args) (cmdUnskip snd args) s

/-- BOOKINFO (R135). -/
def execBookinfo (snd : Sender) (args : List String) (s : State) : Result :=
  run snd ("BOOKINFO" :: args) (cmdBookinfo snd args) s

/-- BOOKLIST (R136). -/
def execBooklist (snd : Sender) (args : List String) (s : State) : Result :=
  run snd ("BOOKLIST" :: args) (cmdBooklist snd args) s

end Sys2Proof.Machine
end

