-- ==== Sys2Proof/Machine/SourceFamily.lean ====
section
/-! DEFINITION. Machine/SourceFamily.lean: the meanings of the Source Selector's rows (chapter 6). -/

namespace Sys2Proof.Machine

/-- SOURCE with an argument (R99). -/
def execSource (snd : Sender) (args : List String) (s : State) : Result :=
  run snd ("SOURCE" :: args) (cmdSource snd args) s

/-- SWITCH_LOCK (R90). -/
def execSwitchLock (s : State) : Result := .next (fuSwitchLock s)

/-- SWITCH_TIMEOUT (R91). -/
def execSwitchTimeout (s : State) : Result := onTime switchTimeoutDue switchTimesOut s

/-- SIGNAL_LOSS (R93). -/
def execSignalLoss (s : State) : Result := .next (fuLoss s)

/-- CLASS_CHANGE (R94). -/
def execClassChange (s : State) : Result := .next (fuClass s)

/-- CLASS_CHANGE_TIMER_END (R94). -/
def execClassChangeTimerEnd (s : State) : Result := onTime classTimerDue classTimerEnds s

/-- NOSIGNAL_LOCK (R95). -/
def execNosignalLock (s : State) : Result := .next (fuNoSignalLock s)

/-- SCAN_START (R96). -/
def execScanStart (s : State) : Result := onTime scanReady scanBegins s

/-- DWELL_LOCK (R97). -/
def execDwellLock (s : State) : Result := .next (fuDwellLock s)

/-- DWELL_END (R97). -/
def execDwellEnd (s : State) : Result := onTime dwellEndDue dwellEnds s

/-- SETTING AUTOSCAN (R96). -/
def execSettingAutoscan (snd : Sender) (args : List String) (s : State) : Result :=
  run snd ("SETTING" :: "AUTOSCAN" :: args) (cmdAutoscan snd args) s

/-- MUTE ON (R98). -/
def execMuteOn (snd : Sender) (s : State) : Result := run snd ["MUTE", "ON"] (cmdMute true snd) s

/-- MUTE OFF (R98). -/
def execMuteOff (snd : Sender) (s : State) : Result := run snd ["MUTE", "OFF"] (cmdMute false snd) s

/-- SOURCE without an argument (R100). -/
def execSourceQuery (snd : Sender) (s : State) : Result := run snd ["SOURCE"] (cmdSourceQuery snd) s

end Sys2Proof.Machine
end

