-- ==== Sys2Proof/Machine/StatusFamily.lean ====
section
/-! DEFINITION. Machine/StatusFamily.lean: the meanings of the rows of the Line Port's own commands, the settings query, the Fault Table and STATUS (chapters 11 and 12). -/

namespace Sys2Proof.Machine

/-- FILTER (R172). -/
def execFilter (snd : Sender) (args : List String) (s : State) : Result :=
  run snd ("FILTER" :: args) (cmdFilter snd args) s

/-- MASK (R172). -/
def execMask (snd : Sender) (args : List String) (s : State) : Result :=
  run snd ("MASK" :: args) (cmdMask snd args) s

/-- LINEINFO (R173). -/
def execLineinfo (snd : Sender) (args : List String) (s : State) : Result :=
  run snd ("LINEINFO" :: args) (cmdLineinfo snd args) s

/-- SETTING ADDRESS (R176). -/
def execSettingAddress (snd : Sender) (args : List String) (s : State) : Result :=
  run snd ("SETTING" :: "ADDRESS" :: args) (cmdAddress snd args) s

/-- SETTING name without a value (R176). -/
def execSettingQuery (snd : Sender) (args : List String) (s : State) : Result :=
  run snd ("SETTING" :: args) (cmdSettingQuery snd args) s

/-- CLEARFAULT (R179). -/
def execClearfault (snd : Sender) (args : List String) (s : State) : Result :=
  run snd ("CLEARFAULT" :: args) (cmdClearfault snd args) s

/-- FAULTS (R179). -/
def execFaults (snd : Sender) (args : List String) (s : State) : Result :=
  run snd ("FAULTS" :: args) (cmdFaults snd args) s

/-- STATUS (R183). -/
def execStatus (snd : Sender) (args : List String) (s : State) : Result :=
  run snd ("STATUS" :: args) (cmdStatus snd args) s

end Sys2Proof.Machine
end

