-- ==== Sys2Proof/Machine/WearFamily.lean ====
section
/-! DEFINITION. Machine/WearFamily.lean: the meanings of the lamp records' rows (chapter 2). -/

namespace Sys2Proof.Machine

/-- LIT_SECOND (R27, R53, R56). A write that the last boundary's unsaved count called for is asked for first (R36). -/
def execLitSecond (s : State) : Result := onTime litSecondDue litSecondPasses (completeUnsaved s)

/-- WEAR_CARRY (R28). -/
def execWearCarry (b : Bay) (s : State) : Result := .next (fuCarry b s)

/-- UNSAVED_WRITE (R36). -/
def execUnsavedWrite (b : Bay) (s : State) : Result := .next (fuUnsaved b s)

/-- INSTALL (R41). -/
def execInstall (snd : Sender) (args : List String) (s : State) : Result :=
  run snd ("INSTALL" :: args) (cmdInstall snd args) s

/-- REPLACE (R42). -/
def execReplace (snd : Sender) (args : List String) (s : State) : Result :=
  run snd ("REPLACE" :: args) (cmdReplace snd args) s

/-- REMOVE (R43). -/
def execRemove (snd : Sender) (args : List String) (s : State) : Result :=
  run snd ("REMOVE" :: args) (cmdRemove snd args) s

/-- REVIVE (R44). -/
def execRevive (snd : Sender) (args : List String) (s : State) : Result :=
  run snd ("REVIVE" :: args) (cmdRevive snd args) s

/-- LAMPINFO (R45). -/
def execLampinfo (snd : Sender) (args : List String) (s : State) : Result :=
  run snd ("LAMPINFO" :: args) (cmdLampinfo snd args) s

end Sys2Proof.Machine
end

