-- ==== Sys2Proof/Machine/Dispatch.lean ====
section
/-! DEFINITION. Machine/Dispatch.lean: one arm per command or event, each one direct call of its meaning. -/

namespace Sys2Proof.Machine

/-- The effect of a command or event on everything but the queue. -/
def exec (i : Instr) (s : State) : Host.Outcome State Fault Refusal :=
  match i with
  | .powerOn inp => Sys2Proof.Machine.execPowerOn inp s
  | .restart snd args => Sys2Proof.Machine.execRestart snd args s
  | .lineFrame chars => Sys2Proof.Machine.execLineFrame chars s
  | .badFrame cause => Sys2Proof.Machine.execBadFrame cause s
  | .interCharacterGap => Sys2Proof.Machine.execInterCharacterGap s
  | .lineDeafEnd => Sys2Proof.Machine.execLineDeafEnd s
  | .lecternFrame chars => Sys2Proof.Machine.execLecternFrame chars s
  | .noticeSend => Sys2Proof.Machine.execNoticeSend s
  | .storeWriteDone ok => Sys2Proof.Machine.execStoreWriteDone ok s
  | .lampon snd args => Sys2Proof.Machine.execLampon snd args s
  | .lampoff snd args => Sys2Proof.Machine.execLampoff snd args s
  | .settingPlan snd args => Sys2Proof.Machine.execSettingPlan snd args s
  | .igniterGrant => Sys2Proof.Machine.execIgniterGrant s
  | .strikeSuccess b => Sys2Proof.Machine.execStrikeSuccess b s
  | .strikeWindowEnd b => Sys2Proof.Machine.execStrikeWindowEnd b s
  | .warmUpEnd b => Sys2Proof.Machine.execWarmUpEnd b s
  | .litSenseDrop b => Sys2Proof.Machine.execLitSenseDrop b s
  | .coolingEnd b => Sys2Proof.Machine.execCoolingEnd b s
  | .restEnd b => Sys2Proof.Machine.execRestEnd b s
  | .strikeHoldoffEnd b => Sys2Proof.Machine.execStrikeHoldoffEnd b s
  | .doorOpen b => Sys2Proof.Machine.execDoorOpen b s
  | .doorClose b => Sys2Proof.Machine.execDoorClose b s
  | .ballastFaultAsserted b => Sys2Proof.Machine.execBallastFaultAsserted b s
  | .ballastFaultReleased b => Sys2Proof.Machine.execBallastFaultReleased b s
  | .spacingEnd => Sys2Proof.Machine.execSpacingEnd s
  | .strikeListExpiry b => Sys2Proof.Machine.execStrikeListExpiry b s
  | .lossBarEnd b => Sys2Proof.Machine.execLossBarEnd b s
  | .lampLostExpiry b => Sys2Proof.Machine.execLampLostExpiry b s
  | .litSecond => Sys2Proof.Machine.execLitSecond s
  | .wearCarry b => Sys2Proof.Machine.execWearCarry b s
  | .unsavedWrite b => Sys2Proof.Machine.execUnsavedWrite b s
  | .install snd args => Sys2Proof.Machine.execInstall snd args s
  | .replace snd args => Sys2Proof.Machine.execReplace snd args s
  | .remove snd args => Sys2Proof.Machine.execRemove snd args s
  | .revive snd args => Sys2Proof.Machine.execRevive snd args s
  | .lampinfo snd args => Sys2Proof.Machine.execLampinfo snd args s
  | .mode snd args => Sys2Proof.Machine.execMode snd args s
  | .settingDefmode snd args => Sys2Proof.Machine.execSettingDefmode snd args s
  | .ceilingPersist snd args => Sys2Proof.Machine.execCeilingPersist snd args s
  | .ceilingTemp snd args => Sys2Proof.Machine.execCeilingTemp snd args s
  | .ceilingCleartemp snd => Sys2Proof.Machine.execCeilingCleartemp snd s
  | .ecoMinute b => Sys2Proof.Machine.execEcoMinute b s
  | .conditioningDue b => Sys2Proof.Machine.execConditioningDue b s
  | .settingCondint snd args => Sys2Proof.Machine.execSettingCondint snd args s
  | .fullRunComplete b => Sys2Proof.Machine.execFullRunComplete b s
  | .modeinfo snd args => Sys2Proof.Machine.execModeinfo snd args s
  | .thermistorConversion housing ambient => Sys2Proof.Machine.execThermistorConversion housing ambient s
  | .housingSensorFault => Sys2Proof.Machine.execHousingSensorFault s
  | .thermalLevelChange => Sys2Proof.Machine.execThermalLevelChange s
  | .hotHallChange => Sys2Proof.Machine.execHotHallChange s
  | .tachPulse => Sys2Proof.Machine.execTachPulse s
  | .fanStall => Sys2Proof.Machine.execFanStall s
  | .heatinfo snd args => Sys2Proof.Machine.execHeatinfo snd args s
  | .portSample readings => Sys2Proof.Machine.execPortSample readings s
  | .portinfo snd args => Sys2Proof.Machine.execPortinfo snd args s
  | .profile snd args => Sys2Proof.Machine.execProfile snd args s
  | .unprofile snd args => Sys2Proof.Machine.execUnprofile snd args s
  | .trim snd args => Sys2Proof.Machine.execTrim snd args s
  | .profinfo snd args => Sys2Proof.Machine.execProfinfo snd args s
  | .profinfoTable snd => Sys2Proof.Machine.execProfinfoTable snd s
  | .source snd args => Sys2Proof.Machine.execSource snd args s
  | .switchLock => Sys2Proof.Machine.execSwitchLock s
  | .switchTimeout => Sys2Proof.Machine.execSwitchTimeout s
  | .signalLoss => Sys2Proof.Machine.execSignalLoss s
  | .classChange => Sys2Proof.Machine.execClassChange s
  | .classChangeTimerEnd => Sys2Proof.Machine.execClassChangeTimerEnd s
  | .nosignalLock => Sys2Proof.Machine.execNosignalLock s
  | .scanStart => Sys2Proof.Machine.execScanStart s
  | .dwellLock => Sys2Proof.Machine.execDwellLock s
  | .dwellEnd => Sys2Proof.Machine.execDwellEnd s
  | .settingAutoscan snd args => Sys2Proof.Machine.execSettingAutoscan snd args s
  | .muteOn snd => Sys2Proof.Machine.execMuteOn snd s
  | .muteOff snd => Sys2Proof.Machine.execMuteOff snd s
  | .sourceQuery snd => Sys2Proof.Machine.execSourceQuery snd s
  | .tiltRead reading => Sys2Proof.Machine.execTiltRead reading s
  | .tiltInvalid => Sys2Proof.Machine.execTiltInvalid s
  | .cadenceComputation => Sys2Proof.Machine.execCadenceComputation s
  | .autoTiltConfirm => Sys2Proof.Machine.execAutoTiltConfirm s
  | .warpReady => Sys2Proof.Machine.execWarpReady s
  | .warpReplyWindowEnd => Sys2Proof.Machine.execWarpReplyWindowEnd s
  | .nudge snd args => Sys2Proof.Machine.execNudge snd args s
  | .limits snd args => Sys2Proof.Machine.execLimits snd args s
  | .settingMount snd args => Sys2Proof.Machine.execSettingMount snd args s
  | .geoinfo snd args => Sys2Proof.Machine.execGeoinfo snd args s
  | .minuteEdge => Sys2Proof.Machine.execMinuteEdge s
  | .clockEnd => Sys2Proof.Machine.execClockEnd s
  | .setclock snd args => Sys2Proof.Machine.execSetclock snd args s
  | .clock snd args => Sys2Proof.Machine.execClock snd args s
  | .settingPrewarm snd args => Sys2Proof.Machine.execSettingPrewarm snd args s
  | .settingGrace snd args => Sys2Proof.Machine.execSettingGrace snd args s
  | .book snd args => Sys2Proof.Machine.execBook snd args s
  | .rebook snd args => Sys2Proof.Machine.execRebook snd args s
  | .unbook snd args => Sys2Proof.Machine.execUnbook snd args s
  | .skip snd args => Sys2Proof.Machine.execSkip snd args s
  | .unskip snd args => Sys2Proof.Machine.execUnskip snd args s
  | .bookinfo snd args => Sys2Proof.Machine.execBookinfo snd args s
  | .booklist snd args => Sys2Proof.Machine.execBooklist snd args s
  | .extend snd args => Sys2Proof.Machine.execExtend snd args s
  | .endnow snd args => Sys2Proof.Machine.execEndnow snd args s
  | .idleAutoOff => Sys2Proof.Machine.execIdleAutoOff s
  | .settingIdle snd args => Sys2Proof.Machine.execSettingIdle snd args s
  | .occinfo snd args => Sys2Proof.Machine.execOccinfo snd args s
  | .settingIdlelock snd args => Sys2Proof.Machine.execSettingIdlelock snd args s
  | .relock snd args => Sys2Proof.Machine.execRelock snd args s
  | .unlock snd args => Sys2Proof.Machine.execUnlock snd args s
  | .attempts snd args => Sys2Proof.Machine.execAttempts snd args s
  | .setcode snd args => Sys2Proof.Machine.execSetcode snd args s
  | .delcode snd args => Sys2Proof.Machine.execDelcode snd args s
  | .setmaster snd args => Sys2Proof.Machine.execSetmaster snd args s
  | .freeze snd args => Sys2Proof.Machine.execFreeze snd args s
  | .maintOn snd => Sys2Proof.Machine.execMaintOn snd s
  | .maintOff snd => Sys2Proof.Machine.execMaintOff snd s
  | .lockinfo snd args => Sys2Proof.Machine.execLockinfo snd args s
  | .filter snd args => Sys2Proof.Machine.execFilter snd args s
  | .mask snd args => Sys2Proof.Machine.execMask snd args s
  | .lineinfo snd args => Sys2Proof.Machine.execLineinfo snd args s
  | .settingAddress snd args => Sys2Proof.Machine.execSettingAddress snd args s
  | .settingQuery snd args => Sys2Proof.Machine.execSettingQuery snd args s
  | .clearfault snd args => Sys2Proof.Machine.execClearfault snd args s
  | .faults snd args => Sys2Proof.Machine.execFaults snd args s
  | .status snd args => Sys2Proof.Machine.execStatus snd args s
  | .replySend port => Sys2Proof.Machine.execReplySend port s

end Sys2Proof.Machine
end

