-- ==== Sys2Proof/Machine/Idle.lean ====
section
/-! DEFINITION. Machine/Idle.lean: what the part does when no command or event waits: an event that has fallen due is put before it, and
otherwise one millisecond of uptime passes (notes/assumptions/1.md and 2.md). -/

namespace Sys2Proof.Machine

/-- An event, where it is due. -/
def whenDue (d : Bool) (i : Instr) : List Instr := if d then [i] else []

/-- An event of each bay, where it is due. -/
def whenBayDue (d : Bay → Bool) (i : Bay → Instr) : List Instr := whenDue (d .bayA) (i .bayA) ++ whenDue (d .bayB) (i .bayB)

/-- The events of the ports and the lamp bays that are due. -/
def dueLamps (s : State) : List Instr :=
  whenDue (gapPassed s .line) .interCharacterGap ++
  whenDue (deafOver s) .lineDeafEnd ++
  whenDue (noticeDue s) .noticeSend ++
  whenDue (replyReady s .line) (.replySend .line) ++
  whenDue (replyReady s .lectern) (.replySend .lectern) ++
  whenDue (grantee s).isSome .igniterGrant ++
  whenBayDue (strikeDue s) .strikeSuccess ++
  whenBayDue (fun b => timerEnded s b .striking) .strikeWindowEnd ++
  whenBayDue (fun b => timerEnded s b .warming) .warmUpEnd ++
  whenBayDue (fun b => timerEnded s b .cooling) .coolingEnd ++
  whenBayDue (fun b => timerEnded s b .rest) .restEnd ++
  whenBayDue (holdoffDue s) .strikeHoldoffEnd ++
  whenDue (spacingDue s) .spacingEnd ++
  whenBayDue (strikeListDue s) .strikeListExpiry ++
  whenBayDue (fun b => reached s (bay s b).lossBar) .lossBarEnd ++
  whenBayDue (lampLostDue s) .lampLostExpiry

/-- The events of wear, conditioning and heat that are due. -/
def dueCounts (s : State) : List Instr :=
  whenDue (litSecondDue s) .litSecond ++
  whenBayDue (carryDue s) .wearCarry ++
  whenBayDue (unsavedDue s) .unsavedWrite ++
  whenBayDue (ecoMinuteDue s) .ecoMinute ++
  whenBayDue (conditioningIsDue s) .conditioningDue ++
  whenBayDue (fullRunDue s) .fullRunComplete ++
  whenDue (sensorFaultDue s) .housingSensorFault ++
  whenDue (nextLevel s.heat).isSome .thermalLevelChange ++
  whenDue (hallDue s) .hotHallChange ++
  whenDue (stallDue s) .fanStall

/-- The events of the picture and the schedule that are due. -/
def duePicture (s : State) : List Instr :=
  whenDue (switchLockDue s) .switchLock ++
  whenDue (switchTimeoutDue s) .switchTimeout ++
  whenDue (lossDue s) .signalLoss ++
  whenDue (classDue s) .classChange ++
  whenDue (classTimerDue s) .classChangeTimerEnd ++
  whenDue (noSignalLockDue s) .nosignalLock ++
  whenDue (scanReady s) .scanStart ++
  whenDue (dwellLockDue s) .dwellLock ++
  whenDue (dwellEndDue s) .dwellEnd ++
  whenDue (tiltInvalidDue s) .tiltInvalid ++
  whenDue (cadenceDue s) .cadenceComputation ++
  whenDue (confirmDue s) .autoTiltConfirm ++
  whenDue (warpWindowDue s) .warpReplyWindowEnd ++
  whenDue (minuteEdgeDue s) .minuteEdge ++
  whenDue (clockEndDue s) .clockEnd ++
  whenDue (idleDue s) .idleAutoOff

/-- The events that have fallen due. -/
def dueEvents (s : State) : List Instr := dueLamps s ++ dueCounts s ++ duePicture s

/-- The hall clock one second later: it enters a new minute, or passes its last second (R120, R121). -/
def clockSecond (s : State) : State :=
  match s.sched.clock with
  | none => s
  | some c =>
    if c.secs + 1 < 86400 then
      modSched (fun x =>
        { x with clock := some ⟨c.date, c.secs + 1⟩, minuteDue := x.minuteDue || (c.secs + 1) % 60 == 0 }) s
    else if c.date < lastDate then modSched (fun x => { x with clock := some ⟨c.date + 1, 0⟩, minuteDue := true }) s
    else modSched (fun x => { x with endDue := true }) s

/-- The idle timer advances (R151). -/
def idleRuns (s : State) : Bool :=
  s.sched.active.isNone && s.sched.upcoming.isNone && decide (0 < s.lamp.count) &&
    (s.sel.st == .noSignal || s.sel.st == .scanning)

/-- The idle timer one second later, up to the idle limit (R151). -/
def idleSecond (s : State) : State :=
  if idleRuns s then modSched (fun x => { x with idle := min (idleLimit s) (x.idle + 1) }) s else s

/-- One millisecond of uptime passes; at a whole second the hall clock and the idle timer advance (R120, R151). -/
def tick (s : State) : State :=
  let s1 := { s with uptime := s.uptime + 1 }
  if s1.uptime % second = 0 then idleSecond (clockSecond s1) else s1

/-- The event that is taken next of those that are due: the one there is, or a free choice among several. -/
def choose (s : State) (l : List Instr) : State :=
  match l with
  | [] => s
  | [i] => { s with pending := [i] }
  | i :: j :: l =>
    { s with
      pending := [(i :: j :: l).getD (Config.dueChoice s.choices % (i :: j :: l).length) i]
      choices := s.choices + 1 }

/-- The part with an empty queue. -/
def idle (s : State) : State := if (dueEvents s).isEmpty then tick s else choose s (dueEvents s)

end Sys2Proof.Machine
end

