-- ==== Sys2Proof/WellFormed.lean ====
section
/-! DEFINITION. WellFormed.lean: which commands and events can reach the part: a sender that its port can give, words of printable
characters, and readings in the range of their inputs. -/

namespace Sys2Proof

/-- A sender that a port can give: the Lectern Port gives every frame the class Presenter and takes no broadcast (R175), and the line
takes only SETCLOCK and LAMPOFF as broadcasts (R170). -/
def Sender.wf (s : Sender) (mayBroadcast : Bool) : Bool :=
  (match s.port with
    | .line => true
    | .lectern => s.cls == .presenter && !s.broadcast) &&
  (mayBroadcast || !s.broadcast)

/-- A word of a frame: printable characters without a space (section 11.1). -/
def wordWf (w : String) : Bool :=
  let cs := w.toList
  !cs.isEmpty && cs.all (fun c => decide (33 ≤ c.toNat) && decide (c.toNat ≤ 126))

/-- The words of a command. -/
def wordsWf (l : List String) : Bool := l.all wordWf

/-- A character that eight data bits can carry (R168). -/
def byteChar (c : Char) : Bool := decide (c.toNat < 256)

/-- A number from 1 to `top`. -/
def inPlace (top n : Nat) : Bool := decide (1 ≤ n) && decide (n ≤ top)

/-- A record of the Settings Store (section 12.4). -/
def RecKey.wf : RecKey → Bool
  | .profile n => inPlace 16 n
  | .booking n => inPlace 48 n
  | .code n => inPlace 8 n
  | .filter n => inPlace 8 n
  | .mask n => inPlace 3 n
  | .lamp _ | .exceptions | .master | .ceiling | .limits | .setting _ => true

/-- What power-on may find: records of the store, each once. -/
def PowerOnInputs.wf (p : PowerOnInputs) : Bool := p.unreadable.all RecKey.wf && decide p.unreadable.Nodup

/-- A start character that ended an open frame (R168). -/
def BadCause.wf : BadCause → Bool
  | .newStart c => c == '>' || c == '<' || c == '!'
  | .framingError | .overlength | .failedCheck | .lecternFramingError => true

/-- A reading of the port status bus: a class of 0 to 31 (section 5.1). -/
def PortReading.wf (r : PortReading) : Bool := decide (r.cls ≤ 31)

/-- The sender of a command. -/
def Instr.sender : Instr → Option Sender
  | .powerOn _ => none
  | .restart snd _ => some snd
  | .lineFrame _ => none
  | .badFrame _ => none
  | .interCharacterGap => none
  | .lineDeafEnd => none
  | .lecternFrame _ => none
  | .noticeSend => none
  | .storeWriteDone _ => none
  | .lampon snd _ => some snd
  | .lampoff snd _ => some snd
  | .settingPlan snd _ => some snd
  | .igniterGrant => none
  | .strikeSuccess _ => none
  | .strikeWindowEnd _ => none
  | .warmUpEnd _ => none
  | .litSenseDrop _ => none
  | .coolingEnd _ => none
  | .restEnd _ => none
  | .strikeHoldoffEnd _ => none
  | .doorOpen _ => none
  | .doorClose _ => none
  | .ballastFaultAsserted _ => none
  | .ballastFaultReleased _ => none
  | .spacingEnd => none
  | .strikeListExpiry _ => none
  | .lossBarEnd _ => none
  | .lampLostExpiry _ => none
  | .litSecond => none
  | .wearCarry _ => none
  | .unsavedWrite _ => none
  | .install snd _ => some snd
  | .replace snd _ => some snd
  | .remove snd _ => some snd
  | .revive snd _ => some snd
  | .lampinfo snd _ => some snd
  | .mode snd _ => some snd
  | .settingDefmode snd _ => some snd
  | .ceilingPersist snd _ => some snd
  | .ceilingTemp snd _ => some snd
  | .ceilingCleartemp snd => some snd
  | .ecoMinute _ => none
  | .conditioningDue _ => none
  | .settingCondint snd _ => some snd
  | .fullRunComplete _ => none
  | .modeinfo snd _ => some snd
  | .thermistorConversion _ _ => none
  | .housingSensorFault => none
  | .thermalLevelChange => none
  | .hotHallChange => none
  | .tachPulse => none
  | .fanStall => none
  | .heatinfo snd _ => some snd
  | .portSample _ => none
  | .portinfo snd _ => some snd
  | .profile snd _ => some snd
  | .unprofile snd _ => some snd
  | .trim snd _ => some snd
  | .profinfo snd _ => some snd
  | .profinfoTable snd => some snd
  | .source snd _ => some snd
  | .switchLock => none
  | .switchTimeout => none
  | .signalLoss => none
  | .classChange => none
  | .classChangeTimerEnd => none
  | .nosignalLock => none
  | .scanStart => none
  | .dwellLock => none
  | .dwellEnd => none
  | .settingAutoscan snd _ => some snd
  | .muteOn snd => some snd
  | .muteOff snd => some snd
  | .sourceQuery snd => some snd
  | .tiltRead _ => none
  | .tiltInvalid => none
  | .cadenceComputation => none
  | .autoTiltConfirm => none
  | .warpReady => none
  | .warpReplyWindowEnd => none
  | .nudge snd _ => some snd
  | .limits snd _ => some snd
  | .settingMount snd _ => some snd
  | .geoinfo snd _ => some snd
  | .minuteEdge => none
  | .clockEnd => none
  | .setclock snd _ => some snd
  | .clock snd _ => some snd
  | .settingPrewarm snd _ => some snd
  | .settingGrace snd _ => some snd
  | .book snd _ => some snd
  | .rebook snd _ => some snd
  | .unbook snd _ => some snd
  | .skip snd _ => some snd
  | .unskip snd _ => some snd
  | .bookinfo snd _ => some snd
  | .booklist snd _ => some snd
  | .extend snd _ => some snd
  | .endnow snd _ => some snd
  | .idleAutoOff => none
  | .settingIdle snd _ => some snd
  | .occinfo snd _ => some snd
  | .settingIdlelock snd _ => some snd
  | .relock snd _ => some snd
  | .unlock snd _ => some snd
  | .attempts snd _ => some snd
  | .setcode snd _ => some snd
  | .delcode snd _ => some snd
  | .setmaster snd _ => some snd
  | .freeze snd _ => some snd
  | .maintOn snd => some snd
  | .maintOff snd => some snd
  | .lockinfo snd _ => some snd
  | .filter snd _ => some snd
  | .mask snd _ => some snd
  | .lineinfo snd _ => some snd
  | .settingAddress snd _ => some snd
  | .settingQuery snd _ => some snd
  | .clearfault snd _ => some snd
  | .faults snd _ => some snd
  | .status snd _ => some snd
  | .replySend _ => none

/-- A command or event that can reach the part. -/
def Instr.wf : Instr → Bool
  | .powerOn inp => inp.wf
  | .restart snd args => snd.wf false && wordsWf args
  | .lineFrame chars => chars.all byteChar
  | .badFrame cause => cause.wf
  | .interCharacterGap => true
  | .lineDeafEnd => true
  | .lecternFrame chars => chars.all byteChar
  | .noticeSend => true
  | .storeWriteDone _ => true
  | .lampon snd args => snd.wf false && wordsWf args
  | .lampoff snd args => snd.wf true && wordsWf args
  | .settingPlan snd args => snd.wf false && wordsWf args && !args.isEmpty
  | .igniterGrant => true
  | .strikeSuccess _ => true
  | .strikeWindowEnd _ => true
  | .warmUpEnd _ => true
  | .litSenseDrop _ => true
  | .coolingEnd _ => true
  | .restEnd _ => true
  | .strikeHoldoffEnd _ => true
  | .doorOpen _ => true
  | .doorClose _ => true
  | .ballastFaultAsserted _ => true
  | .ballastFaultReleased _ => true
  | .spacingEnd => true
  | .strikeListExpiry _ => true
  | .lossBarEnd _ => true
  | .lampLostExpiry _ => true
  | .litSecond => true
  | .wearCarry _ => true
  | .unsavedWrite _ => true
  | .install snd args => snd.wf false && wordsWf args
  | .replace snd args => snd.wf false && wordsWf args
  | .remove snd args => snd.wf false && wordsWf args
  | .revive snd args => snd.wf false && wordsWf args
  | .lampinfo snd args => snd.wf false && wordsWf args
  | .mode snd args => snd.wf false && wordsWf args
  | .settingDefmode snd args => snd.wf false && wordsWf args && !args.isEmpty
  | .ceilingPersist snd args => snd.wf false && wordsWf args
  | .ceilingTemp snd args => snd.wf false && wordsWf args
  | .ceilingCleartemp snd => snd.wf false
  | .ecoMinute _ => true
  | .conditioningDue _ => true
  | .settingCondint snd args => snd.wf false && wordsWf args && !args.isEmpty
  | .fullRunComplete _ => true
  | .modeinfo snd args => snd.wf false && wordsWf args
  | .thermistorConversion _ _ => true
  | .housingSensorFault => true
  | .thermalLevelChange => true
  | .hotHallChange => true
  | .tachPulse => true
  | .fanStall => true
  | .heatinfo snd args => snd.wf false && wordsWf args
  | .portSample readings => readings.length == 8 && readings.all PortReading.wf
  | .portinfo snd args => snd.wf false && wordsWf args
  | .profile snd args => snd.wf false && wordsWf args
  | .unprofile snd args => snd.wf false && wordsWf args
  | .trim snd args => snd.wf false && wordsWf args
  | .profinfo snd args => snd.wf false && wordsWf args && !args.isEmpty
  | .profinfoTable snd => snd.wf false
  | .source snd args => snd.wf false && wordsWf args && !args.isEmpty
  | .switchLock => true
  | .switchTimeout => true
  | .signalLoss => true
  | .classChange => true
  | .classChangeTimerEnd => true
  | .nosignalLock => true
  | .scanStart => true
  | .dwellLock => true
  | .dwellEnd => true
  | .settingAutoscan snd args => snd.wf false && wordsWf args && !args.isEmpty
  | .muteOn snd => snd.wf false
  | .muteOff snd => snd.wf false
  | .sourceQuery snd => snd.wf false
  | .tiltRead _ => true
  | .tiltInvalid => true
  | .cadenceComputation => true
  | .autoTiltConfirm => true
  | .warpReady => true
  | .warpReplyWindowEnd => true
  | .nudge snd args => snd.wf false && wordsWf args
  | .limits snd args => snd.wf false && wordsWf args
  | .settingMount snd args => snd.wf false && wordsWf args && !args.isEmpty
  | .geoinfo snd args => snd.wf false && wordsWf args
  | .minuteEdge => true
  | .clockEnd => true
  | .setclock snd args => snd.wf true && wordsWf args
  | .clock snd args => snd.wf false && wordsWf args
  | .settingPrewarm snd args => snd.wf false && wordsWf args && !args.isEmpty
  | .settingGrace snd args => snd.wf false && wordsWf args && !args.isEmpty
  | .book snd args => snd.wf false && wordsWf args
  | .rebook snd args => snd.wf false && wordsWf args
  | .unbook snd args => snd.wf false && wordsWf args
  | .skip snd args => snd.wf false && wordsWf args
  | .unskip snd args => snd.wf false && wordsWf args
  | .bookinfo snd args => snd.wf false && wordsWf args
  | .booklist snd args => snd.wf false && wordsWf args
  | .extend snd args => snd.wf false && wordsWf args
  | .endnow snd args => snd.wf false && wordsWf args
  | .idleAutoOff => true
  | .settingIdle snd args => snd.wf false && wordsWf args && !args.isEmpty
  | .occinfo snd args => snd.wf false && wordsWf args
  | .settingIdlelock snd args => snd.wf false && wordsWf args && !args.isEmpty
  | .relock snd args => snd.wf false && wordsWf args
  | .unlock snd args => snd.wf false && wordsWf args
  | .attempts snd args => snd.wf false && wordsWf args
  | .setcode snd args => snd.wf false && wordsWf args
  | .delcode snd args => snd.wf false && wordsWf args
  | .setmaster snd args => snd.wf false && wordsWf args
  | .freeze snd args => snd.wf false && wordsWf args
  | .maintOn snd => snd.wf false
  | .maintOff snd => snd.wf false
  | .lockinfo snd args => snd.wf false && wordsWf args
  | .filter snd args => snd.wf false && wordsWf args
  | .mask snd args => snd.wf false && wordsWf args
  | .lineinfo snd args => snd.wf false && wordsWf args
  | .settingAddress snd args => snd.wf false && wordsWf args && !args.isEmpty
  | .settingQuery snd args => snd.wf false && wordsWf args && args.length == 1
  | .clearfault snd args => snd.wf false && wordsWf args
  | .faults snd args => snd.wf false && wordsWf args
  | .status snd args => snd.wf false && wordsWf args
  | .replySend _ => true

end Sys2Proof
end

