-- ==== Sys2Proof/Safety.lean ====
section
/-! DEFINITION. Safety.lean: what claims are stated with: when a port takes a command at once, what of a state an event changes apart
from what follows every event, and what every state of a sound run satisfies. -/

namespace Sys2Proof.Machine

/-! ## Commands that are taken at once -/

/-- A command is taken at once, with nothing before it: no event waits to follow what has happened, the line is not Deaf to the
sender (R173), no reply of its port waits (R174), and its words are words (section 11.1). -/
def takesNow (s : State) (snd : Sender) (args : List String) : Bool :=
  quiescent s && !deafTo s snd && !portBusy s snd.port && wordsWf args

/-- The sender and the body's words of a command of the table: what a frame that carries the command holds (section 11.4). -/
def commandWords (i : Instr) : Option (Sender × List String) :=
  match i with
  | .restart snd args => some (snd, "RESTART" :: args)
  | .lampon snd args => some (snd, "LAMPON" :: args)
  | .lampoff snd args => some (snd, "LAMPOFF" :: args)
  | .settingPlan snd args => some (snd, "SETTING" :: "PLAN" :: args)
  | .install snd args => some (snd, "INSTALL" :: args)
  | .replace snd args => some (snd, "REPLACE" :: args)
  | .remove snd args => some (snd, "REMOVE" :: args)
  | .revive snd args => some (snd, "REVIVE" :: args)
  | .lampinfo snd args => some (snd, "LAMPINFO" :: args)
  | .mode snd args => some (snd, "MODE" :: args)
  | .settingDefmode snd args => some (snd, "SETTING" :: "DEFMODE" :: args)
  | .ceilingPersist snd [m] => some (snd, ["CEILING", m, "PERSIST"])
  | .ceilingTemp snd [m] => some (snd, ["CEILING", m, "TEMP"])
  | .ceilingCleartemp snd => some (snd, ["CEILING", "CLEARTEMP"])
  | .settingCondint snd args => some (snd, "SETTING" :: "CONDINT" :: args)
  | .modeinfo snd args => some (snd, "MODEINFO" :: args)
  | .heatinfo snd args => some (snd, "HEATINFO" :: args)
  | .portinfo snd args => some (snd, "PORTINFO" :: args)
  | .profile snd args => some (snd, "PROFILE" :: args)
  | .unprofile snd args => some (snd, "UNPROFILE" :: args)
  | .trim snd args => some (snd, "TRIM" :: args)
  | .profinfo snd args => some (snd, "PROFINFO" :: args)
  | .profinfoTable snd => some (snd, ["PROFINFO"])
  | .source snd args => some (snd, "SOURCE" :: args)
  | .settingAutoscan snd args => some (snd, "SETTING" :: "AUTOSCAN" :: args)
  | .muteOn snd => some (snd, ["MUTE", "ON"])
  | .muteOff snd => some (snd, ["MUTE", "OFF"])
  | .sourceQuery snd => some (snd, ["SOURCE"])
  | .nudge snd args => some (snd, "NUDGE" :: args)
  | .limits snd args => some (snd, "LIMITS" :: args)
  | .settingMount snd args => some (snd, "SETTING" :: "MOUNT" :: args)
  | .geoinfo snd args => some (snd, "GEOINFO" :: args)
  | .setclock snd args => some (snd, "SETCLOCK" :: args)
  | .clock snd args => some (snd, "CLOCK" :: args)
  | .settingPrewarm snd args => some (snd, "SETTING" :: "PREWARM" :: args)
  | .settingGrace snd args => some (snd, "SETTING" :: "GRACE" :: args)
  | .book snd args => some (snd, "BOOK" :: args)
  | .rebook snd args => some (snd, "REBOOK" :: args)
  | .unbook snd args => some (snd, "UNBOOK" :: args)
  | .skip snd args => some (snd, "SKIP" :: args)
  | .unskip snd args => some (snd, "UNSKIP" :: args)
  | .bookinfo snd args => some (snd, "BOOKINFO" :: args)
  | .booklist snd args => some (snd, "BOOKLIST" :: args)
  | .extend snd args => some (snd, "EXTEND" :: args)
  | .endnow snd args => some (snd, "ENDNOW" :: args)
  | .settingIdle snd args => some (snd, "SETTING" :: "IDLE" :: args)
  | .occinfo snd args => some (snd, "OCCINFO" :: args)
  | .settingIdlelock snd args => some (snd, "SETTING" :: "IDLELOCK" :: args)
  | .relock snd args => some (snd, "RELOCK" :: args)
  | .unlock snd args => some (snd, "UNLOCK" :: args)
  | .attempts snd args => some (snd, "ATTEMPTS" :: args)
  | .setcode snd args => some (snd, "SETCODE" :: args)
  | .delcode snd args => some (snd, "DELCODE" :: args)
  | .setmaster snd args => some (snd, "SETMASTER" :: args)
  | .freeze snd args => some (snd, "FREEZE" :: args)
  | .maintOn snd => some (snd, ["MAINT", "ON"])
  | .maintOff snd => some (snd, ["MAINT", "OFF"])
  | .lockinfo snd args => some (snd, "LOCKINFO" :: args)
  | .filter snd args => some (snd, "FILTER" :: args)
  | .mask snd args => some (snd, "MASK" :: args)
  | .lineinfo snd args => some (snd, "LINEINFO" :: args)
  | .settingAddress snd args => some (snd, "SETTING" :: "ADDRESS" :: args)
  | .settingQuery snd [w] => some (snd, ["SETTING", w])
  | .clearfault snd args => some (snd, "CLEARFAULT" :: args)
  | .faults snd args => some (snd, "FAULTS" :: args)
  | .status snd args => some (snd, "STATUS" :: args)
  | .ceilingPersist _ _ | .ceilingTemp _ _ | .settingQuery _ _ => none
  | .powerOn _ | .lineFrame _ | .badFrame _ | .interCharacterGap | .lineDeafEnd | .lecternFrame _ | .noticeSend
  | .storeWriteDone _ | .igniterGrant | .strikeSuccess _ | .strikeWindowEnd _ | .warmUpEnd _ | .litSenseDrop _ | .coolingEnd _
  | .restEnd _ | .strikeHoldoffEnd _ | .doorOpen _ | .doorClose _ | .ballastFaultAsserted _ | .ballastFaultReleased _
  | .spacingEnd | .strikeListExpiry _ | .lossBarEnd _ | .lampLostExpiry _ | .litSecond | .wearCarry _ | .unsavedWrite _
  | .ecoMinute _ | .conditioningDue _ | .fullRunComplete _ | .thermistorConversion _ _ | .housingSensorFault
  | .thermalLevelChange | .hotHallChange | .tachPulse | .fanStall | .portSample _ | .switchLock | .switchTimeout | .signalLoss
  | .classChange | .classChangeTimerEnd | .nosignalLock | .scanStart | .dwellLock | .dwellEnd | .tiltRead _ | .tiltInvalid
  | .cadenceComputation | .autoTiltConfirm | .warpReady | .warpReplyWindowEnd | .minuteEdge | .clockEnd | .idleAutoOff
  | .replySend _ => none

/-! ## What follows every event -/

/-- A bay's part of the Mode Unit without what is worked out anew after every event: the effective mode, the override and the Full-run
counter (R52, R56, R57, R59). -/
def BayMode.bare (m : BayMode) : BayMode := { m with effective := none, override := .none, run := 0 }

/-- A bay's part of the Lamp Controller without its waiter stamp (R16). -/
def BayCtl.bare (y : BayCtl) : BayCtl := { y with stamp := none }

/-- A state without what is worked out anew after every event: the end of a scan is made (R97), and the effective modes, the
overrides, the Full-run counters, the fan and its stall timer, the idle timer, the waiter stamps, the Fault Table, the Notice Queue and
the number of events are left out. Two states with one essence differ in nothing else. -/
def essence (s : State) : State :=
  let x := syncScan s
  { x with
    events := 0
    mode := { x.mode with bays := .make (fun b => (x.mode.bays.get b).bare) }
    heat := { x.heat with fan := .low, stallFrom := none }
    sched := { x.sched with idle := 0 }
    lamp := { x.lamp with bays := .make (fun b => (x.lamp.bays.get b).bare) }
    faults := .clear
    notices := { queue := [], overflow := false } }

/-- An event takes a state to one with the essence of another. -/
def goesTo (i : Instr) (s u : State) : Prop := ∃ t, exec i s = .next t ∧ essence t = essence u

/-- A command is accepted: it answers OK with fields read from the state it leaves, which has the essence of another, and its reply waits
for a number of writes (R174, R184). -/
def acceptedAs (i : Instr) (snd : Sender) (s : State) (fields : State → List String) (writes : Nat) (u : State) : Prop :=
  ∃ t, exec i s = .next (answer snd ⟨t, "OK" :: fields t, writes, none⟩) ∧ essence t = essence u

/-- A command is refused with a reason: nothing changes but the reply that is placed (R174). -/
def refusedWith (i : Instr) (snd : Sender) (s : State) (reason : String) : Prop :=
  exec i s = .next (answer snd ⟨nextEvent s, ["NO", reason], 0, none⟩)

/-- The state with its hall settings changed by a rule. -/
def withSettings (f : Settings → Settings) (s : State) : State := { s with work := { s.work with settings := f s.work.settings } }

/-- Two states have one essence but for the Lamp Controller, the lamp records, the unsaved counts and the Settings Store. -/
def sameBesideLamps (s t : State) : Prop :=
  essence { t with lamp := s.lamp, wear := s.wear, store := s.store, work := { t.work with lamps := s.work.lamps } } = essence s

/-- Two states have one essence but for the Source Selector and the Geometry Engine. -/
def sameBesidePicture (s t : State) : Prop := essence { t with sel := s.sel, geo := s.geo } = essence s

/-- Two states have one essence but for the booking table, the exceptions and the Settings Store with the unsaved counts. -/
def sameBesideBookings (s t : State) : Prop :=
  essence { t with store := s.store, wear := s.wear,
                   work := { t.work with bookings := s.work.bookings, exceptions := s.work.exceptions } } = essence s

/-- A write that a command asks for waits or is in progress, and the command's reply waits for it (R174, R184). -/
def writeAsked (snd : Sender) (k : RecKey) (t : State) : Prop :=
  (∃ j, t.store.busy = some j ∧ j.key = k ∧ (snd.broadcast = false → snd.port ∈ j.waiters)) ∨
    ∃ r ∈ t.store.cmdQ, r.key = k ∧ (snd.broadcast = false → snd.port ∈ r.waiters)

/-- The Notice Queue after an event that has made a queue of its own notices: each entry of the Fault Table that has become Active places
its FAULT notice, in the order of section 12.1 (R178, notes/assumptions/7.md). -/
def risen (s t : State) (q : NoticeQ) : NoticeQ :=
  (FaultId.all.filter (fun f => s.faults.get f != .active && t.faults.get f == .active)).foldl
    (fun x f => x.put ⟨.fault, .fault f, ["ACTIVE"]⟩) q

/-- From one state to the next the notices of a list are placed, in its order, and after them the FAULT notices of the entries that have
become Active; no other notice is (R178, R181). -/
def placed (s t : State) (l : List Notice) : Prop := t.notices = risen s t (l.foldl (fun q n => q.put n) s.notices)

/-- The notice of a change of a lamp's stage, where there is one (R33). -/
def stageNotice (b : Bay) (old new : Option LampRecord) : List Notice :=
  match old, new with
  | some x, some y => if stageOfRec x = stageOfRec y then [] else [⟨.life, .bay b, [showStage (stageOfRec y)]⟩]
  | _, _ => []

/-- The SOURCE notice that gives the selector as it stands (R87). -/
def selectorNotice (t : State) : Notice :=
  ⟨.source, .selector, [showSelSt t.sel.st, showPort t.sel.port, showNat (t.sel.settledCls.getD 0), showOpt showNat t.sel.active,
    showOpt id ((profileOf t t.sel.active).bind Profile.label)]⟩

/-- The LOCK notice of a change of the lock level, where there is one (R154). -/
def levelNotice (s t : State) : List Notice :=
  if lockLevel t = lockLevel s then [] else [⟨.lock, .level, [showLevel (lockLevel t), "UNLOCKED", showYes t.lock.unlocked]⟩]

/-- The BOOKING notice of an occurrence record, in the upcoming or the active place (section 12.2). -/
def bookingNotice (place : Subject) (o : Occ) (rest : List String) : Notice :=
  ⟨.booking, place, [showNat o.booking, showDate o.date] ++ rest⟩

/-- The time at which a Grace window ends, as notices and OCCINFO write it (R142, R153; notes/assumptions/34.md for minute 1440). -/
def graceUntil (o : Occ) : String :=
  if o.stop + o.grace < 1440 then showMinute (o.stop + o.grace) else showMinute (o.stop + o.grace - 1440) ++ "+1"

/-- The GRACE notice of a record (R142). -/
def graceNotice (o : Occ) : Notice := bookingNotice .active o ["GRACE", graceUntil o]

/-- The RUNNING notice of a record, with LATE where its late flag is set (R140, R145). -/
def runningNoticeOf (o : Occ) : Notice :=
  bookingNotice .active o (["RUNNING", showMinute o.stop] ++ if o.late then ["LATE"] else [])

/-- The PREWARM notice of an upcoming record that an evaluation has filled, where there is one (R139). -/
def begunNotice (s t : State) : List Notice :=
  if t.sched.upcoming = s.sched.upcoming then []
  else
    match t.sched.upcoming with
    | some u => [bookingNotice .upcoming u ["PREWARM", showMinute u.start]]
    | none => []

/-- The selector after a Running entry has asked for a booking's default source and removed the User mute. No source, or a place that is
empty, asks for nothing. A request for the settled port that resolves to the active profile only becomes the named profile, and one that
meets a switch of origin OPERATOR or FACILITY is dropped. Every other starts a switch of origin SCHEDULE, which ends a scan (R88 to R90,
R101). -/
def requestedSel (s : State) (source : Option Nat) : Selector :=
  let x := { s.sel with muteUser := false }
  match profileOf s source with
  | none => x
  | some p =>
    if s.sel.st = .settled ∧ p.port = s.sel.port ∧ resolved s p.port (s.sel.settledCls.getD 0) source = s.sel.active then
      { x with named := source }
    else if s.sel.st = .switching ∧ ((s.sel.req.map SwitchReq.origin) = some .operator ∨
        (s.sel.req.map SwitchReq.origin) = some .facility) then x
    else
      { x with
        st := .switching, req := some ⟨p.port, source, .schedule, s.uptime⟩, muteLoss := false, classTimer := none
        lockRun := ⟨0, 0⟩, lossRun := 0, classRun := ⟨0, 0⟩ }

/-- What a Running entry leaves of the selector: the one of `requestedSel`, in which a scan that goes on has returned to NoSignal where
the booking's lock is EXAM (R97, R140). -/
def selAtEntry (s : State) (bk : Booking) (sel : Selector) : Prop :=
  let x := requestedSel s bk.source
  (x.st ≠ .scanning → sel = x) ∧
    (x.st = .scanning → s.work.settings.autoscan = true →
      sel = if bk.lock = .exam then { x with st := .noSignal, noSigFrom := s.uptime, lockRun := ⟨0, 0⟩ } else x)

/-- A row of the table that is an event of the part: no command, and none of the rows that may hand over a command, a reply or a reset. -/
def ownEvent (i : Instr) : Prop :=
  commandWords i = none ∧ i.wf = true ∧ ∀ (inp : PowerOnInputs) (l : List Char) (ok : Bool) (p : CmdPort),
    i ∉ [Instr.powerOn inp, .lineFrame l, .lecternFrame l, .lineDeafEnd, .storeWriteDone ok, .replySend p]

/-- The events of the part that place no notice of their own (section 12.2 names the events that do). -/
def silentEvents (b : Bay) (housing ambient : Int) (l : List PortReading) (r : Option Int) (c : BadCause) : List Instr :=
  [.badFrame c, .interCharacterGap, .igniterGrant, .litSenseDrop b, .coolingEnd b, .strikeHoldoffEnd b, .doorOpen b, .doorClose b,
   .ballastFaultAsserted b, .ballastFaultReleased b, .spacingEnd, .strikeListExpiry b, .lossBarEnd b, .lampLostExpiry b, .litSecond,
   .unsavedWrite b, .ecoMinute b, .conditioningDue b, .fullRunComplete b, .thermistorConversion housing ambient, .housingSensorFault,
   .tachPulse, .fanStall, .portSample l, .classChangeTimerEnd, .scanStart, .dwellEnd, .tiltRead r, .tiltInvalid,
   .cadenceComputation, .autoTiltConfirm, .warpReady, .warpReplyWindowEnd]

/-! ## The choice of bays -/

/-- A bay comes before the other in the order of R13. Of two bays in use: the later state of Striking, Warming and Lit, and then the
lower per-mille. A bay in use comes before one that is not. Of two others: a clear cause mark before a set one (R15), Dark before a
hold, the hold that ends first, and then the lower per-mille. On a tie bay A. -/
def comesFirst (s : State) (b c : Bay) : Prop :=
  let late (x : Bay) : Nat := if (bay s x).st = .lit then 2 else if (bay s x).st = .warming then 1 else 0
  let dark (x : Bay) : Nat := if (bay s x).st = .dark then 0 else 1
  let mark (x : Bay) : Nat := if (bay s x).causeMark then 1 else 0
  let worn : Prop := perMille s b < perMille s c ∨ (perMille s b = perMille s c ∧ b = .bayA)
  if (bay s b).st.inUse = true ∧ (bay s c).st.inUse = true then late c < late b ∨ (late b = late c ∧ worn)
  else if (bay s b).st.inUse = true then True
  else if (bay s c).st.inUse = true then False
  else mark b < mark c ∨ (mark b = mark c ∧ (dark b < dark c ∨
    (dark b = dark c ∧ (darkEntry s b < darkEntry s c ∨ (darkEntry s b = darkEntry s c ∧ worn)))))

/-- The wanted set that the demand of a state calls for: as many eligible bays as the count asks for and there are, and for a count of 1
the one that comes first (R13, R14). -/
def rightChoice (s : State) (w : PerBay Bool) : Prop :=
  (∀ b, w.get b = true → eligible s b = true) ∧
    (s.lamp.count = 0 → w = .both false) ∧
    (2 ≤ s.lamp.count → ∀ b, w.get b = eligible s b) ∧
    (s.lamp.count = 1 → ∀ b, eligible s b = true → (w.get b = true ↔ eligible s b.other = false ∨ comesFirst s b b.other))

/-! ## What a sound state satisfies -/

/-- Every entry of the Fault Table is Active exactly while its condition holds, and an advisory entry is never Latched (R178). -/
def faultsSound (s : State) : Prop :=
  ∀ f, (s.faults.get f = .active ↔ faultCond s f = true) ∧ (f.actionable = false → s.faults.get f ≠ .latched)

/-- The Notice Queue holds at most eight notices, and no two of one kind and subject (R181). -/
def noticesSound (s : State) : Prop :=
  s.notices.queue.length ≤ 8 ∧ s.notices.queue.Pairwise (fun x y => x.same y = false)

/-- The igniter is with a bay exactly while that bay is Striking: so no two bays strike at once (R2, R16). -/
def igniterSound (s : State) : Prop := ∀ b, s.lamp.igniter = some b ↔ (bay s b).st = .striking

/-- The Mode Unit and the fan stand as the rules call for. A bay that does not burn is Off, and so is every bay at Shutdown; a burning
one runs at the mode that its override gives (R51, R52). An override stands on a Lit bay with a debt while the thermal ceiling is Full:
Forced at a debt of 4, and otherwise Normal, under a facility ceiling of Full (R57 to R59). A Lit bay with a debt and the thermal
ceiling at Full is without one only while it is postponed: with a debt below 4, under a lower facility ceiling or a Running booking at
Standard or Eco (R57). A Full run counts only on a bay that is Lit at Full (R56). The fan is at the level of R69. -/
def modesSound (s : State) : Prop :=
  let hot : LampMode := if s.heat.level = .warn ∨ s.heat.sensorFault = true ∨ s.heat.stall = true then .eco else .full
  let hall : LampMode := s.mode.temp.getD s.work.ceiling
  (∀ b, let m := bayMode s b
    ((bay s b).st ≠ .warming → (bay s b).st ≠ .lit → m.effective = none) ∧
    (s.heat.level = .shutdown → m.effective = none) ∧
    ((bay s b).st = .warming ∨ (bay s b).st = .lit → s.heat.level ≠ .shutdown → m.effective = some (match m.override with
      | .none => (s.mode.requested.lower hall).lower hot
      | .normal => hall.lower hot
      | .forced => hot)) ∧
    (m.override ≠ .none → (bay s b).st = .lit ∧ 0 < m.debt ∧ s.heat.level ≠ .shutdown ∧ hot = .full ∧
      (m.override = .forced ↔ 4 ≤ m.debt) ∧ (m.override = .normal → hall = .full)) ∧
    (m.override = .none → (bay s b).st = .lit → 0 < m.debt → s.heat.level ≠ .shutdown → hot = .full →
      m.debt < 4 ∧ (hall ≠ .full ∨ ∃ bk, runningBooking s = some bk ∧ (bk.mode = some .standard ∨ bk.mode = some .eco))) ∧
    (m.run ≠ 0 → (bay s b).st = .lit ∧ m.effective = some .full)) ∧
  s.heat.fan =
    (if (bay s .bayA).st = .cooling ∨ (bay s .bayB).st = .cooling ∨ s.heat.level ≠ .normal ∨ s.heat.sensorFault = true then .high
     else if (bay s .bayA).st.inUse = true ∨ (bay s .bayB).st.inUse = true then .normal else .low)

/-- The counters keep their ranges: the attempts (R161), the line error count (R173), the debts and credits, never both above 0 (R55,
R56), the nudges (R114), and the tilt ring with its invalid run (R104, R105). The idle timer is 0 with no bay in demand, with an occurrence record
filled and in Settled (R151). -/
def countsSound (s : State) : Prop :=
  s.lock.attempts ≤ 5 ∧ s.comms.errCount ≤ 255 ∧
    (∀ b, (bayMode s b).debt ≤ 4 ∧ (bayMode s b).credit ≤ 2 ∧ ((bayMode s b).debt = 0 ∨ (bayMode s b).credit = 0)) ∧
    (-10 ≤ s.geo.vAdj ∧ s.geo.vAdj ≤ 10) ∧ (-10 ≤ s.geo.hAdj ∧ s.geo.hAdj ≤ 10) ∧
    s.geo.ring.length = 4 ∧ s.geo.invalidRun ≤ 20 ∧
    (s.lamp.count = 0 ∨ s.sched.active ≠ none ∨ s.sched.upcoming ≠ none ∨ s.sel.st = .settled → s.sched.idle = 0)

end Sys2Proof.Machine
end

