-- ==== Sys2Proof/Certificates/Slice0/Obligations.lean ====
section
/-! DEFINITION. Certificates/Slice0/Obligations.lean: the statements for the provers, each with what it says and the rules it rests on. -/

open Sys2Proof Sys2Proof.Machine

/-- For every command c, every queue and every state s, a step of s with c at the front of its queue is exec of c on s with the
rest of the queue (the queue is the model's own form). (What each step holds, Commands and replies) -/
def Obligations.FrontCommandRuns : Prop :=
  ∀ (i : Instr) (rest : List Instr) (s : State),
    step { s with pending := i :: rest } = exec i { s with pending := rest }

/-- No command, no event and no idle step of any state ends in a fault or a refusal: the manual stops the part nowhere.
(Conventions, What each step holds) -/
def Obligations.EveryStepGoesOn : Prop :=
  ∀ s : State, ∃ t, step s = .next t

/-- Where no command waits and an event is due, a step puts one due event, and nothing else, into the queue; which of several it
is, is a free value (notes/assumptions/2.md). Where no event is due, a step adds one millisecond of uptime
(notes/assumptions/1.md: the model's tick). Between whole seconds nothing else changes. At a whole second a clock that is not
at the end of its day moves by one second, a clock at 23:59:59 moves to 00:00:00 of the next date, a clock at the last second
of 2099-12-31 stays and its end falls due, and an unset clock stays unset. The idle timer moves by one second, up to the idle
limit, where no occurrence record is filled, the demand is above 0 and the selector is in NoSignal or Scanning, and stands
otherwise. Nothing outside the Schedule Engine changes. (Conventions, What each step holds, 8.1 The hall clock, 9.7 Idle
auto-off) -/
def Obligations.EmptyQueueGoesOn : Prop :=
  ∀ s : State, s.pending = [] →
    (dueEvents s ≠ [] → ∃ i n, i ∈ dueEvents s ∧ step s = .next { s with pending := [i], choices := n }) ∧
    (dueEvents s = [] → (s.uptime + 1) % 1000 ≠ 0 → step s = .next { s with uptime := s.uptime + 1 }) ∧
    (dueEvents s = [] → (s.uptime + 1) % 1000 = 0 →
      ∃ t, step s = .next t ∧ t = { s with uptime := s.uptime + 1, sched := t.sched } ∧
        t.sched.active = s.sched.active ∧ t.sched.upcoming = s.sched.upcoming ∧ t.sched.lastEnded = s.sched.lastEnded ∧
        t.sched.idle = (if s.sched.active = none ∧ s.sched.upcoming = none ∧ 0 < s.lamp.count ∧
            (s.sel.st = .noSignal ∨ s.sel.st = .scanning) then min (s.work.settings.idle * 60) (s.sched.idle + 1)
          else s.sched.idle) ∧
        (s.sched.clock = none → t.sched.clock = none) ∧
        ∀ c, s.sched.clock = some c →
          (c.secs + 1 < 86400 →
            t.sched.clock = some ⟨c.date, c.secs + 1⟩ ∧
              t.sched.minuteDue = (s.sched.minuteDue || (c.secs + 1) % 60 == 0)) ∧
          (86400 ≤ c.secs + 1 → c.date < 36524 → t.sched.clock = some ⟨c.date + 1, 0⟩ ∧ t.sched.minuteDue = true) ∧
          (86400 ≤ c.secs + 1 → 36524 ≤ c.date → t.sched.clock = some c ∧ t.sched.endDue = true))

/-- The state right after power-on of a part as shipped holds what the manual states: both bays Empty, demand 0 with origin
POWERON, no bay wanted, the igniter free, no spacing, the requested mode the default mode STANDARD, the ceiling FULL, the
selector in NoSignal on P1, the clock unset, no records of occurrences, five attempts, not frozen, no maintenance, the line
error count 0, the shipped settings, filters and masks each at the value that its chapter gives, and a fault table that is
Clear. It also satisfies the invariants that the statements about every step use. (Resets, 1.7 Power-on and restart, 10.6 The
query and the resets, 11.2 Addressing and class, 11.5 Hall settings) -/
def Obligations.ShippedReset : Prop :=
  (∀ b, (bay State.reset b).st = .empty) ∧ State.reset.lamp.count = 0 ∧ State.reset.lamp.origin = .powerOn ∧
    State.reset.lamp.wanted = .both false ∧ State.reset.lamp.igniter = none ∧ State.reset.lamp.spacing = none ∧
    State.reset.mode.requested = .standard ∧ State.reset.work.ceiling = .full ∧ State.reset.mode.temp = none ∧
    State.reset.sel.st = .noSignal ∧ State.reset.sel.port = .p1 ∧ State.reset.sched.clock = none ∧
    State.reset.sched.active = none ∧ State.reset.sched.upcoming = none ∧ State.reset.lock.attempts = 5 ∧
    State.reset.lock.frozen = false ∧ State.reset.lock.maint = false ∧ State.reset.comms.errCount = 0 ∧
    State.reset.comms.deaf = false ∧ State.reset.work.settings = Settings.shipped ∧
    State.reset.work.settings =
      { address := 1, plan := .single, mount := .floor, defmode := .standard, condint := 240, autoscan := true, prewarm := 3,
        grace := 10, idle := 20, idlelock := .panel } ∧
    State.reset.work.filters =
      [⟨0xF0, 2, .facility, true⟩, ⟨0xE0, 2, .operator, true⟩, ⟨0x00, 3, .viewer, true⟩] ++
        List.replicate 5 ⟨0x00, 1, .viewer, false⟩ ∧
    State.reset.work.masks = [0xFF, 0xF0, 0x00] ∧ State.reset.work.limV = 40 ∧ State.reset.work.limH = 30 ∧
    (∀ f, State.reset.faults.get f = .clear) ∧ faultsSound State.reset ∧ modesSound State.reset ∧ noticesSound State.reset ∧
    igniterSound State.reset ∧ countsSound State.reset

/-- Whatever the state before, power-on with the stored records as shipped and readable, no strap, both doors closed and no lamp
line asserted (the model's choice of input levels, notes/assumptions/4.md) gives the reset state, but for the queue of waiting
commands and the count of free choices. With any stored records and any of them unreadable, each block's record is the stored one,
and the shipped one where it is unreadable; the strap makes the working address 1. A profile whose key a readable lower place
holds, a code whose digits the master code or a readable lower slot holds, and a booking that conflicts on some date with a
booking of a lower number that is kept are lost. A booking that conflicts with no readable lower one is kept, without a source or
an owner whose place is empty, and an exception is kept where its booking is WEEKLY and names its date. The unreadable and the
lost records, and no others, are unsaved, and each is being written back or waits for it. (That the lost records are written back
like unreadable ones is the model's reading, notes/assumptions/21.md.) (Resets, 2.6 Keeping the record, 5.2 The profile table, 8.8
Keeping the schedule, 10.4 Codes, 12.4 The Settings Store) -/
def Obligations.PowerOnAsShipped : Prop :=
  (∀ s : State, s.store.stored = Records.shipped →
    exec (.powerOn ⟨false, .both false, .both false, .both false, []⟩) s =
      .next { State.reset with pending := s.pending, choices := s.choices }) ∧
  ∀ (inp : PowerOnInputs) (s : State), ∃ t, exec (.powerOn inp) s = .next t ∧
    let r := s.store.stored
    let bad := inp.unreadable
    let exs := if .exceptions ∈ bad then [] else r.exceptions
    t.store.stored = r ∧ t.store.unreadable = bad ∧ t.mode.requested = t.work.settings.defmode ∧
    (∀ b, lampRec t b = if .lamp b ∈ bad then none else r.lamps.get b) ∧
    t.work.ceiling = (if .ceiling ∈ bad then .full else r.ceiling) ∧
    (t.work.limV, t.work.limH) = (if .limits ∈ bad then (40, 30) else (r.limV, r.limH)) ∧
    t.work.settings =
      { address := if inp.strap = true ∨ .setting .address ∈ bad then 1 else r.settings.address
        plan := if .setting .plan ∈ bad then .single else r.settings.plan
        mount := if .setting .mount ∈ bad then .floor else r.settings.mount
        defmode := if .setting .defmode ∈ bad then .standard else r.settings.defmode
        condint := if .setting .condint ∈ bad then 240 else r.settings.condint
        autoscan := if .setting .autoscan ∈ bad then true else r.settings.autoscan
        prewarm := if .setting .prewarm ∈ bad then 3 else r.settings.prewarm
        grace := if .setting .grace ∈ bad then 10 else r.settings.grace
        idle := if .setting .idle ∈ bad then 20 else r.settings.idle
        idlelock := if .setting .idlelock ∈ bad then .panel else r.settings.idlelock } ∧
    (r.filters.length = 8 → ∀ n : Nat,
      t.work.filters[n]? = if .filter (n + 1) ∈ bad then Records.shipped.filters[n]? else r.filters[n]?) ∧
    (r.masks.length = 3 → ∀ n : Nat,
      t.work.masks[n]? = if .mask (n + 1) ∈ bad then Records.shipped.masks[n]? else r.masks[n]?) ∧
    t.work.master = (if .master ∈ bad then none else r.master) ∧
    (∀ n p, n ≤ 16 → place r.profiles n = some p →
      (.profile n ∉ bad → (∀ m q, m < n → .profile m ∉ bad → place r.profiles m = some q → ¬(q.port = p.port ∧ q.cls = p.cls)) →
        profileAt t n = some p) ∧
      (.profile n ∈ bad ∨ (∃ m q, m < n ∧ .profile m ∉ bad ∧ place r.profiles m = some q ∧ q.port = p.port ∧ q.cls = p.cls) →
        profileAt t n = none)) ∧
    (∀ n c, n ≤ 8 → place r.codes n = some c →
      (.code n ∉ bad → t.work.master ≠ some c.digits →
        (∀ m k, m < n → .code m ∉ bad → place r.codes m = some k → k.digits ≠ c.digits) → place t.work.codes n = some c) ∧
      (.code n ∈ bad ∨ t.work.master = some c.digits ∨
          (∃ m k, m < n ∧ .code m ∉ bad ∧ place r.codes m = some k ∧ k.digits = c.digits) →
        place t.work.codes n = none)) ∧
    (∀ n bk, n ≤ 48 → place r.bookings n = some bk →
      (.booking n ∉ bad →
        (∀ m bk' d, m < n → .booking m ∉ bad → place r.bookings m = some bk' → occursIn exs n bk.dates d = true →
          occursIn exs m bk'.dates d = true → ¬(bk.start < bk'.stop ∧ bk'.start < bk.stop)) →
        let owned := (bk.owner.bind (place t.work.codes)).isSome
        place t.work.bookings n = some
          { bk with source := if (bk.source.bind (profileAt t)).isSome then bk.source else none
                    owner := if owned then bk.owner else none, ownerOnly := bk.ownerOnly && owned }) ∧
      (.booking n ∈ bad ∨
          (∃ m bk' d, m < n ∧ place r.bookings m = some bk' ∧ place t.work.bookings m ≠ none ∧ d ≤ 36524 ∧
            occursIn exs n bk.dates d = true ∧ occursIn exs m bk'.dates d = true ∧ bk.start < bk'.stop ∧ bk'.start < bk.stop) →
        place t.work.bookings n = none)) ∧
    t.work.exceptions = exs.filter (fun e => match place t.work.bookings e.booking with
      | some bk => bk.dates.isWeekly && bk.dates.onDate e.date
      | none => false) ∧
    (∀ k : RecKey, k.wf = true → (k ∈ t.store.unsaved ↔ k ∈ bad ∨
      (∃ n, k = .profile n ∧ place r.profiles n ≠ none ∧ profileAt t n = none) ∨
      (∃ n, k = .code n ∧ place r.codes n ≠ none ∧ place t.work.codes n = none) ∨
      (∃ n, k = .booking n ∧ place r.bookings n ≠ none ∧ place t.work.bookings n = none))) ∧
    ∀ k ∈ t.store.unsaved, (∃ j, t.store.busy = some j ∧ j.key = k) ∨ k ∈ t.store.ownQ

/-- After power-on a bay with no lamp record is Empty, a bay whose record holds the Failed flag is Failed, and every other bay is
in Rest with a rest of 150 s. The strike lists are empty, the door-cycled flags Clear, last extinguish, last loss, loss bar
and cause mark absent or clear, the demand is 0 with origin POWERON, no bay is wanted, and the igniter and the spacing are
free and absent. (1.7 Power-on and restart) -/
def Obligations.PowerOnBayStates : Prop :=
  ∀ (inp : PowerOnInputs) (s : State), ∃ t, exec (.powerOn inp) s = .next t ∧ t.uptime = 0 ∧
    (∀ b,
      (lampRec t b = none → (bay t b).st = .empty) ∧
      (∀ r, lampRec t b = some r → r.failed = true → (bay t b).st = .failed) ∧
      (∀ r, lampRec t b = some r → r.failed = false → (bay t b).st = .rest ∧ (bay t b).timer = some 150000) ∧
      (bay t b).strikes = [] ∧ (bay t b).doorFlag = .clear ∧ (bay t b).lastExt = none ∧ (bay t b).lastLoss = none ∧
      (bay t b).lossBar = none ∧ (bay t b).stamp = none ∧ (bay t b).causeMark = false ∧ t.lamp.wanted.get b = false) ∧
    t.lamp.count = 0 ∧ t.lamp.origin = .powerOn ∧ t.lamp.igniter = none ∧ t.lamp.spacing = none

/-- Where the arbiter has a bay to grant the free igniter to, IGNITER_GRANT ends in a next state in which that bay is Striking
with a strike window of 4 s, the uptime is the newest entry of its strike list, its door-cycled flag is Clear and the igniter is
held by it, and nothing else changes but what follows every event (R2 in part). The bay granted satisfies the strike conditions,
the spacing does not forbid it, the igniter was free, and the other bay is not grantable or does not come before it by stamp and
per-mille; of two bays that are grantable and equal in both, bay A is granted (R16 in part). (1.2 The bay state machine, 1.4 The
igniter) -/
def Obligations.IgniterGrantStrikes : Prop :=
  ∀ (s : State) (b : Bay), grantee s = some b →
    goesTo .igniterGrant s
      (modBay b (fun y => { y with st := .striking, timer := some (s.uptime + 4000), strikes := y.strikes ++ [s.uptime],
                                   doorFlag := .clear })
        { s with lamp := { s.lamp with igniter := some b } }) ∧
    s.lamp.igniter = none ∧ strikeReady s b = true ∧ (bay s b).stamp.isSome = true ∧
    (∀ t, s.lamp.spacing = some (t, b.other) → t ≤ s.uptime) ∧
    (grantable s b.other = false ∨ lexLess (stampRank s b.other) (stampRank s b) = false) ∧
    (grantable s .bayA = true → grantable s .bayB = true → stampRank s .bayA = stampRank s .bayB → b = .bayA)

/-- From a quiescent state, lit sense asserted on a Striking bay ends in a next state: the bay is Warming for 45 s, the igniter
is free, the spacing is set to this bay and 5 s from now, the lamp record gains one strike and 40 quarter-units of wear (each
up to its top) and no consecutive failures, and its write is asked for. On a bay in any other state only the lit sense
changes. Nothing else changes but what follows every event (R3, R17, R29, R30 in part). (1.2 The bay state machine, 2.3
Strike results) -/
def Obligations.StrikeSucceedsIntoWarming : Prop :=
  ∀ (s : State) (b : Bay), quiescent s = true →
    ((bay s b).st = .striking →
      goesTo (.strikeSuccess b) s
        (askOwn (.lamp b)
          (modBay b (fun y => { y with st := .warming, timer := some (s.uptime + 45000), burnSince := s.uptime })
            { s with
              pins := { s.pins with lit := s.pins.lit.set b true }
              lamp := { s.lamp with igniter := none, spacing := some (s.uptime + 5000, b) }
              work := { s.work with lamps := s.work.lamps.set b ((lampRec s b).map (fun r =>
                { r with strikeCount := min 65535 (r.strikeCount + 1), consecutive := 0,
                         wear := min 16777215 (r.wear + 40) })) } }))) ∧
    ((bay s b).st ≠ .striking →
      goesTo (.strikeSuccess b) s { s with pins := { s.pins with lit := s.pins.lit.set b true } })

/-- From a quiescent state in which the 4 s of a Striking bay have ended, STRIKE_WINDOW_END ends in a next state: the igniter is
free, the spacing is set, and the record gains one failed strike, one consecutive failure and 20 quarter-units of wear, each
up to its top. Where the Failed flag is then set (it was, or this is the third failure in a row) the bay is Failed and not
wanted; otherwise it is in Rest for 30 s. The last extinguish and the other blocks are as before, but for what follows every
event (R4, R17, R29 in part). (1.2 The bay state machine, 2.3 Strike results) -/
def Obligations.StrikeWindowFails : Prop :=
  ∀ (s : State) (b : Bay), quiescent s = true → timerEnded s b .striking = true →
    ∃ t, exec (.strikeWindowEnd b) s = .next t ∧
      t.lamp.igniter = none ∧ t.lamp.spacing = some (s.uptime + 5000, b) ∧
      t.work = { s.work with lamps := s.work.lamps.set b ((lampRec s b).map (fun r =>
        { r with failedCount := min 255 (r.failedCount + 1), consecutive := min 3 (r.consecutive + 1),
                 failed := r.failed || min 3 (r.consecutive + 1) == 3, wear := min 16777215 (r.wear + 20) })) } ∧
      (∀ r, lampRec t b = some r → r.failed = true → (bay t b).st = .failed ∧ t.lamp.wanted.get b = false) ∧
      (∀ r, lampRec t b = some r → r.failed = false → (bay t b).st = .rest ∧ (bay t b).timer = some (s.uptime + 30000)) ∧
      (bay t b).lastExt = (bay s b).lastExt ∧ t.lamp.count = s.lamp.count ∧ sameBesideLamps s t

/-- From a quiescent state: a warm-up that ends takes a wanted bay to Lit, with the cause mark and LampLost ended, and a bay that
is not wanted to Cooling for 90 s with its last extinguish set and its record's write asked for, but where the write for an
unsaved count that reached 600 at this same second boundary has started, and serves this exit too (notes/assumptions/36.md).
Cooling that ends gives a Rest of 60 s; a Rest that ends gives Dark with the door-cycled flag Clear. Nothing else changes but
what follows every event (R5, R6, R7, R36 in part). (1.2 The bay state machine, 2.6 Keeping the record) -/
def Obligations.BayTimersEnd : Prop :=
  ∀ (s : State) (b : Bay), quiescent s = true →
    let served : Prop := (bay s b).topAt = some s.uptime ∧ s.wear.get b = 0
    let out : State := modBay b (fun y =>
      { y with st := .cooling, timer := some (s.uptime + 90000), lastExt := some s.uptime }) s
    (timerEnded s b .warming = true → s.lamp.wanted.get b = true →
      goesTo (.warmUpEnd b) s (modBay b (fun y =>
        { y with st := .lit, timer := none, causeMark := false, lampLost := none, litSince := s.uptime }) s)) ∧
    (timerEnded s b .warming = true → s.lamp.wanted.get b = false →
      (¬served → goesTo (.warmUpEnd b) s (askOwn (.lamp b) out)) ∧ (served → goesTo (.warmUpEnd b) s out)) ∧
    (timerEnded s b .cooling = true →
      goesTo (.coolingEnd b) s (modBay b (fun y => { y with st := .rest, timer := some (s.uptime + 60000) }) s)) ∧
    (timerEnded s b .rest = true →
      goesTo (.restEnd b) s (modBay b (fun y => { y with st := .dark, timer := none, doorFlag := .clear }) s))

/-- From a quiescent state, a drop of lit sense on a bay in Warming or Lit ends in a next state: the bay is in Cooling for 90 s,
its last extinguish and last loss are the uptime, and LampLost holds from it. Where its last loss was less than 3600 s old it
takes a loss bar of 3600 s and is not wanted; where not, its loss bar is as it was, and a bay that was wanted and still has a
usable lamp stays wanted. On a bay that does not burn only the lit sense changes. The other blocks are as before, but for
what follows every event (R10 in part). (1.2 The bay state machine) -/
def Obligations.LitSenseDropLosesLamp : Prop :=
  ∀ (s : State) (b : Bay), quiescent s = true →
    ((bay s b).st.burning = true →
      ∃ t, exec (.litSenseDrop b) s = .next t ∧
        (bay t b).st = .cooling ∧ (bay t b).timer = some (s.uptime + 90000) ∧ (bay t b).lastExt = some s.uptime ∧
        (bay t b).lastLoss = some s.uptime ∧ (bay t b).lampLost = some s.uptime ∧
        ((∃ x, (bay s b).lastLoss = some x ∧ s.uptime < x + 3600000) →
          (bay t b).lossBar = some (s.uptime + 3600000) ∧ t.lamp.wanted.get b = false) ∧
        ((∀ x, (bay s b).lastLoss = some x → x + 3600000 ≤ s.uptime) →
          (bay t b).lossBar = (bay s b).lossBar ∧
          (s.lamp.wanted.get b = true → lampUsable s b = true → barClear s b = true → t.lamp.wanted = s.lamp.wanted)) ∧
        t.pins = { s.pins with lit := s.pins.lit.set b false } ∧ t.lamp.count = s.lamp.count ∧
        t.work = s.work ∧ sameBesideLamps s { t with pins := s.pins }) ∧
    ((bay s b).st.burning = false →
      goesTo (.litSenseDrop b) s { s with pins := { s.pins with lit := s.pins.lit.set b false } })

/-- From a quiescent state: a closed door that opens moves the door-cycled flag to Opened, a bay in Striking, Warming or Lit goes
to Cooling for 90 s with its DoorOpen condition on, and a bay in another state keeps its state. An open door that closes moves an
Opened flag to Cycled, and ends the DoorOpen condition. A ballast fault that is asserted puts a bay in use into Cooling for 90 s,
and leaves any other state. One that is released changes only its input. A wanted bay that a door or a ballast fault puts out has
its cause mark set, and with a demand above 0 the wanted set is chosen anew, from the state in which that bay is in Cooling,
marked and not wanted; a bay that was not wanted, or not in use, keeps its mark, and the wanted set stands. In each case a bay
that was Striking frees the igniter, the records are as before, and so are the other blocks but for what follows every event. That
a bay which may not be chosen is not kept either is the model's reading (notes/assumptions/16.md) (R9, R15, R19 in part). (1.2 The
bay state machine, 1.3 The lamp demand and the choice of bays, 1.5 Lamp doors) -/
def Obligations.LampDoorsAndBallast : Prop :=
  ∀ (s : State) (b : Bay), quiescent s = true →
    let marked (t : State) : Prop :=
      ((bay s b).st.inUse = true ∧ s.lamp.wanted.get b = true →
        let x := modBay b (fun y => { y with st := .cooling, timer := some (s.uptime + 90000), causeMark := true })
          { s with lamp := { s.lamp with wanted := s.lamp.wanted.set b false } }
        (bay t b).causeMark = true ∧ (s.lamp.count = 0 → t.lamp.wanted = x.lamp.wanted) ∧
          (s.lamp.count ≠ 0 → rightChoice x t.lamp.wanted)) ∧
      ((bay s b).st.inUse = false ∨ s.lamp.wanted.get b = false →
        (bay t b).causeMark = (bay s b).causeMark ∧ t.lamp.wanted = s.lamp.wanted)
    (s.pins.door.get b = false →
      ∃ t, exec (.doorOpen b) s = .next t ∧ t.pins = { s.pins with door := s.pins.door.set b true } ∧
        (bay t b).doorFlag = .opened ∧
        ((bay s b).st.inUse = true →
          (bay t b).st = .cooling ∧ (bay t b).timer = some (s.uptime + 90000) ∧ (bay t b).doorFault = true) ∧
        ((bay s b).st.inUse = false → (bay t b).st = (bay s b).st ∧ (bay t b).doorFault = (bay s b).doorFault) ∧
        ((bay s b).st = .striking → t.lamp.igniter = none ∧ t.lamp.spacing = some (s.uptime + 5000, b)) ∧
        marked t ∧ t.work = s.work ∧ sameBesideLamps s { t with pins := s.pins }) ∧
    (s.pins.door.get b = true →
      goesTo (.doorClose b) s (modBay b (fun y =>
        { y with doorFlag := if y.doorFlag = .opened then .cycled else y.doorFlag, doorFault := false })
          { s with pins := { s.pins with door := s.pins.door.set b false } })) ∧
    (s.pins.ballast.get b = false →
      ∃ t, exec (.ballastFaultAsserted b) s = .next t ∧ t.pins = { s.pins with ballast := s.pins.ballast.set b true } ∧
        ((bay s b).st.inUse = true → (bay t b).st = .cooling ∧ (bay t b).timer = some (s.uptime + 90000)) ∧
        ((bay s b).st.inUse = false → (bay t b).st = (bay s b).st) ∧
        ((bay s b).st = .striking → t.lamp.igniter = none ∧ t.lamp.spacing = some (s.uptime + 5000, b)) ∧
        marked t ∧ t.work = s.work ∧ sameBesideLamps s { t with pins := s.pins }) ∧
    goesTo (.ballastFaultReleased b) s { s with pins := { s.pins with ballast := s.pins.ballast.set b false } }

/-- From a quiescent state, each timed event that has fallen due ends in a next state: STRIKE_HOLDOFF_END gives the bay that has
come to meet the strike conditions the stamp of this uptime and this event; SPACING_END makes the spacing absent;
STRIKE_LIST_EXPIRY takes the oldest entry from the list; LOSS_BAR_END makes the bar absent, and with no shortfall nothing
else; LAMP_LOST_EXPIRY ends LampLost. Nothing else changes but what follows every event (R2, R10, R15 to R18 in part). (1.2
The bay state machine, 1.3 The lamp demand and the choice of bays, 1.4 The igniter) -/
def Obligations.LampTimesRunOut : Prop :=
  ∀ (s : State) (b : Bay), quiescent s = true →
    (holdoffDue s b = true →
      ∃ t, exec (.strikeHoldoffEnd b) s = .next t ∧ (bay t b).stamp = some (s.uptime, s.events + 1) ∧
        essence t = essence s) ∧
    (∀ x y, s.lamp.spacing = some (x, y) → x ≤ s.uptime →
      goesTo .spacingEnd s { s with lamp := { s.lamp with spacing := none } }) ∧
    (∀ x l, (bay s b).strikes = x :: l → x + 3600000 ≤ s.uptime →
      goesTo (.strikeListExpiry b) s (modBay b (fun y => { y with strikes := l }) s)) ∧
    (∀ x, (bay s b).lossBar = some x → x ≤ s.uptime →
      (∃ t, exec (.lossBarEnd b) s = .next t ∧ (bay t b).lossBar = none ∧ sameBesideLamps s t) ∧
      (shortfall s = 0 → goesTo (.lossBarEnd b) s (modBay b (fun y => { y with lossBar := none }) s))) ∧
    (∀ x, (bay s b).lampLost = some x → x + 3600000 ≤ s.uptime →
      goesTo (.lampLostExpiry b) s (modBay b (fun y => { y with lampLost := none }) s))

/-- Where a LAMPON is taken at once from a class above Viewer that the lock level allows, with the lock level not Maintenance, the
thermal level not Shutdown and a bay eligible, it is accepted: the demand count becomes the larger of its own and the count
carried, which is the larger booking's lamp count where one is called for and otherwise 1 or 2 after the plan; the origin changes,
to the sender's class, only where the count changes. The wanted set stands where the count does; where it rises the set is chosen
anew: for 2 every eligible bay, and for 1 the eligible bay that comes first, by state, cause mark, hold and per-mille. The reply
gives OK DEMAND n SERVE m A state B state with the values after it, and for each wanted bay that is neither burning nor Striking
HOLD bay s in Cooling or Rest, with the seconds until its Dark entry, and WAIT bay s with four strikes in its list, with the
seconds until the oldest leaves it. No notice is placed but of a fault, and the records and the other blocks are as before. That a
bay which may not be chosen is not kept either is the model's reading, and so are whole seconds rounded down
(notes/assumptions/16.md) (R12, R13, R14, R20 in part). (1.3 The lamp demand and the choice of bays, 1.6 Commands) -/
def Obligations.LamponRaises : Prop :=
  ∀ (s : State) (snd : Sender), takesNow s snd [] = true → below snd .presenter = false → lockLevel s ≠ .maintenance →
    lockedOut s snd.cls = false → s.heat.level ≠ .shutdown → (eligible s .bayA || eligible s .bayB) = true →
    let left (u : Nat) : String := showNat ((u - s.uptime) / 1000)
    let held (t : State) (b : Bay) : List String :=
      if t.lamp.wanted.get b = true ∧ (bay t b).st.inUse = false then
        (match (bay t b).st with
          | .cooling => ["HOLD", showBay b, left ((bay t b).timer.getD s.uptime + 60000)]
          | .rest => ["HOLD", showBay b, left ((bay t b).timer.getD s.uptime)]
          | _ => []) ++
        (match (bay t b).strikes with
          | x :: l => if 3 ≤ l.length then ["WAIT", showBay b, left (x + 3600000)] else []
          | [] => [])
      else []
    ∃ t, exec (.lampon snd []) s = .next (answer snd
        ⟨t, ["OK", "DEMAND", showNat t.lamp.count, "SERVE", showNat (wantedCount t), "A", showBaySt (bay t .bayA).st, "B",
             showBaySt (bay t .bayB).st] ++ held t .bayA ++ held t .bayB, 0, none⟩) ∧
      t.lamp.count = max s.lamp.count (lamponCount s) ∧
      t.lamp.origin = (if lamponCount s ≤ s.lamp.count then s.lamp.origin else originOf snd.cls) ∧
      (lamponCount s ≤ s.lamp.count → t.lamp.wanted = s.lamp.wanted) ∧
      (s.lamp.count < lamponCount s →
        rightChoice { s with lamp := { s.lamp with count := lamponCount s } } t.lamp.wanted) ∧
      placed s t [] ∧ t.work = s.work ∧ sameBesideLamps s t

/-- Where a LAMPOFF is taken at once from a class above Viewer that the lock level allows, it is accepted with the reply OK
DEMAND 0 A state B state. A demand above 0 becomes 0 with the origin of the sender's class and the wanted set empty; a Lit
bay is in Cooling for 90 s with its last extinguish set, and any other bay keeps its state and timer. A demand of 0 keeps its
origin. The unlocked flag is cleared where no record is active, and kept otherwise. No notice is placed but of a fault, and the
other blocks are as before, but for what follows every event (R6, R8, R12, R21 in part). (1.2 The bay state machine, 1.3 The lamp demand and the choice of bays,
1.6 Commands) -/
def Obligations.LampoffDrops : Prop :=
  ∀ (s : State) (snd : Sender), takesNow s snd [] = true → below snd .presenter = false → lockedOut s snd.cls = false →
    ∃ t, exec (.lampoff snd []) s = .next (answer snd
        ⟨t, ["OK", "DEMAND", "0", "A", showBaySt (bay t .bayA).st, "B", showBaySt (bay t .bayB).st], 0, none⟩) ∧
      t.lamp.count = 0 ∧
      (s.lamp.count = 0 → t.lamp.origin = s.lamp.origin) ∧
      (s.lamp.count ≠ 0 → t.lamp.origin = originOf snd.cls ∧ t.lamp.wanted = .both false ∧
        ∀ b, ((bay s b).st = .lit →
            (bay t b).st = .cooling ∧ (bay t b).timer = some (s.uptime + 90000) ∧ (bay t b).lastExt = some s.uptime) ∧
          ((bay s b).st ≠ .lit → (bay t b).st = (bay s b).st ∧ (bay t b).timer = (bay s b).timer)) ∧
      (s.sched.active = none → t.lock = { s.lock with unlocked := false, unlockedBy := none }) ∧
      (s.sched.active ≠ none → t.lock = s.lock) ∧ placed s t [] ∧ t.work = s.work ∧ sameBesideLamps s { t with lock := s.lock }

/-- Each command that changes state, taken at once, with any arguments, from a sender below the class its rule asks for
(Presenter, Operator or Facility), is answered NO CLASS, and the state is as it was but for the reply. A SETTING or SOURCE
without a value is a query, and is not among them. From a sender of the class the rule asks for, the same commands are answered
NO ARGS where their arguments are malformed: some where there should be none, a number, bay, word or date outside its form, or
too few or too many; the booking commands where the sender is not locked out. So are the queries, from every sender. That
surplus arguments are looked at, after the class, is the model's reading (notes/assumptions/11.md), and so is the form of
numbers (notes/assumptions/13.md). (10.3 Who may do what, 11.4 Taking a command and replying) -/
def Obligations.ClassBelowRefused : Prop :=
  ∀ (s : State) (snd : Sender) (args : List String), takesNow s snd args = true →
    (below snd .presenter = true →
      ∀ i ∈ [Instr.lampon snd args, .lampoff snd args, .muteOn snd, .muteOff snd, .nudge snd args, .extend snd args,
             .unlock snd args, .relock snd args] ++ (if args = [] then [] else [Instr.source snd args]),
        refusedWith i snd s "CLASS") ∧
    (below snd .operator = true →
      ∀ i ∈ [Instr.mode snd args, .profile snd args, .unprofile snd args, .trim snd args, .setclock snd args, .book snd args,
             .rebook snd args, .unbook snd args, .skip snd args, .unskip snd args, .endnow snd args, .freeze snd args,
             .clearfault snd args] ++
            (if args = [] then [] else
              [Instr.settingDefmode snd args, .settingCondint snd args, .settingAutoscan snd args, .settingPrewarm snd args,
               .settingGrace snd args, .settingIdle snd args, .settingIdlelock snd args]),
        refusedWith i snd s "CLASS") ∧
    (below snd .facility = true →
      ∀ i ∈ [Instr.install snd args, .replace snd args, .remove snd args, .revive snd args, .ceilingPersist snd args,
             .ceilingTemp snd args, .ceilingCleartemp snd, .limits snd args, .attempts snd args, .setcode snd args,
             .delcode snd args, .setmaster snd args, .maintOn snd, .maintOff snd, .filter snd args, .mask snd args,
             .restart snd args] ++
            (if args = [] then [] else [Instr.settingPlan snd args, .settingMount snd args, .settingAddress snd args]),
        refusedWith i snd s "CLASS") ∧
    let malformed (form : Prop) (l : List Instr) : Prop := ¬form → ∀ i ∈ l, refusedWith i snd s "ARGS"
    let number (lo hi : Nat) : Prop := ∃ w n, args = [w] ∧ parseNatIn lo hi w = some n
    let word {α : Type} (f : String → Option α) : Prop := ∃ w x, args = [w] ∧ f w = some x
    let lamp : Prop := ∃ b i h n, args = [b, i, h] ∧ parseBay b ≠ none ∧ isLabel 8 i = true ∧ parseNatIn 500 20000 h = some n
    let skip : Prop := ∃ w d n x, args = [w, d] ∧ parseNatIn 1 48 w = some n ∧ parseDate d = some x
    (malformed (args = []) [.modeinfo snd args, .heatinfo snd args, .portinfo snd args, .geoinfo snd args, .clock snd args,
        .booklist snd args, .occinfo snd args, .lockinfo snd args, .lineinfo snd args, .faults snd args, .status snd args] ∧
      malformed (args = [] ∨ number 1 16) [.profinfo snd args] ∧ malformed (number 1 48) [.bookinfo snd args] ∧
      malformed (word parseBay) [.lampinfo snd args] ∧ malformed (word parseSetting) [.settingQuery snd args]) ∧
    (below snd .presenter = false →
      malformed (args = []) [.lampon snd args, .lampoff snd args, .relock snd args] ∧ malformed (number 1 60) [.extend snd args] ∧
      malformed (∃ w, args = [w] ∧ isDigits 4 6 w = true) [.unlock snd args] ∧
      malformed (args = [] ∨ number 1 16 ∨ word parsePort) [.source snd args] ∧
      malformed (∃ v h x y, args = [v, h] ∧ parseInt v = some x ∧ parseInt h = some y) [.nudge snd args]) ∧
    (below snd .operator = false →
      malformed (args = []) [.endnow snd args, .freeze snd args] ∧ malformed (word parseMode) [.mode snd args] ∧
      malformed (args = [] ∨ word parseMode) [.settingDefmode snd args] ∧
      malformed (args = [] ∨ word parseOn) [.settingAutoscan snd args] ∧
      malformed (args = [] ∨ word parseIdleLock) [.settingIdlelock snd args] ∧
      malformed (args = [] ∨ word parseInt) [.settingCondint snd args, .settingPrewarm snd args, .settingGrace snd args,
        .settingIdle snd args] ∧
      malformed (parseProfile args s ≠ none) [.profile snd args] ∧ malformed (number 1 16) [.unprofile snd args] ∧
      malformed (∃ w v h n x y, args = [w, v, h] ∧ parseNatIn 1 16 w = some n ∧ parseInt v = some x ∧ parseInt h = some y)
        [.trim snd args] ∧
      malformed (∃ d t x y, args = [d, t] ∧ parseDate d = some x ∧ parseTime t = some y) [.setclock snd args] ∧
      malformed (parseFaultKind args ≠ none) [.clearfault snd args] ∧
      (lockedOut s snd.cls = false →
        malformed (parseBook args s ≠ none) [.book snd args] ∧ malformed (parseRebook args s ≠ none) [.rebook snd args] ∧
        malformed (number 1 48) [.unbook snd args] ∧ malformed skip [.skip snd args, .unskip snd args])) ∧
    (below snd .facility = false →
      malformed (args = []) [.attempts snd args, .restart snd args] ∧ malformed lamp [.install snd args, .replace snd args] ∧
      malformed (word parseBay) [.remove snd args, .revive snd args] ∧
      malformed (word parseMode) [.ceilingPersist snd args, .ceilingTemp snd args] ∧
      malformed (args = [] ∨ word parsePlan) [.settingPlan snd args] ∧
      malformed (args = [] ∨ word parseMount) [.settingMount snd args] ∧
      malformed (args = [] ∨ word parseInt) [.settingAddress snd args] ∧
      malformed (∃ v h x y, args = [v, h] ∧ parseNatIn 0 40 v = some x ∧ parseNatIn 0 30 h = some y) [.limits snd args] ∧
      malformed (parseCode args ≠ none) [.setcode snd args] ∧ malformed (number 1 8) [.delcode snd args] ∧
      malformed (parseMaster args ≠ none) [.setmaster snd args] ∧ malformed (parseFilter args ≠ none) [.filter snd args] ∧
      malformed (parseMask args ≠ none) [.mask snd args])

/-- While the lock level is Maintenance, LAMPOFF, MUTE ON, MUTE OFF and RELOCK from a Presenter or an Operator, and ENDNOW,
FREEZE and the booking commands (BOOK, REBOOK, UNBOOK, SKIP, UNSKIP) from an Operator, taken at once, are answered NO LOCKED; a LAMPON from any class above
Viewer is answered NO STATE. At thermal Shutdown a LAMPON that the lock level allows is answered NO STATE. A Presenter whose
presenter level is not Open is answered NO LOCKED to LAMPOFF. Each refusal leaves the state as it was but for the reply (R20,
R21, R157, R158 in part). (1.6 Commands, 10.3 Who may do what, 10.5 Maintenance) -/
def Obligations.MaintenanceLocksCommands : Prop :=
  ∀ (s : State) (snd : Sender),
    (lockLevel s = .maintenance →
      (snd.cls = .presenter ∨ snd.cls = .operator → takesNow s snd [] = true →
        ∀ i ∈ [Instr.lampoff snd [], .muteOn snd, .muteOff snd, .relock snd []], refusedWith i snd s "LOCKED") ∧
      (snd.cls = .operator → takesNow s snd [] = true →
        ∀ i ∈ [Instr.endnow snd [], .freeze snd []], refusedWith i snd s "LOCKED") ∧
      (snd.cls = .operator → ∀ args, takesNow s snd args = true →
        ∀ i ∈ [Instr.book snd args, .rebook snd args, .unbook snd args, .skip snd args, .unskip snd args],
          refusedWith i snd s "LOCKED") ∧
      (snd.cls ≠ .viewer → takesNow s snd [] = true → refusedWith (.lampon snd []) snd s "STATE")) ∧
    (takesNow s snd [] = true →
      (snd.cls ≠ .viewer → lockLevel s ≠ .maintenance → lockedOut s snd.cls = false → s.heat.level = .shutdown →
        refusedWith (.lampon snd []) snd s "STATE") ∧
      (snd.cls = .presenter → presenterLevel s ≠ .levelOpen → refusedWith (.lampoff snd []) snd s "LOCKED"))

/-- SETTING CONDINT, PREWARM, GRACE, IDLE and ADDRESS with a whole number, taken at once from a sender of the setting's class
that is not locked out, are accepted: the number is clamped into 120..600, 0..15, 0..30, 5..120 or 1..62, a value other than
the one in force is written to the Settings Store before the reply, and the reply gives the clamped value. An equal value
makes no write (the model's reading, notes/assumptions/6.md), and a number may have a sign (the model's reading,
notes/assumptions/13.md). A lower idle limit that the idle timer has reached drops the
demand and clears the unlocked flag at once. The reply to a change of address carries the address before it. Nothing else
changes but what follows every event. (3.5 Conditioning debt, 8.3 Occurrences and their windows, 9.7 Idle auto-off, 11.5 Hall
settings) -/
def Obligations.NumberSettingsStored : Prop :=
  ∀ (s : State) (snd : Sender) (w : String) (x : Int), takesNow s snd [w] = true → parseInt w = some x →
    lockedOut s snd.cls = false → below snd .operator = false →
    (let v := (max 120 (min 600 x)).toNat;
      (v ≠ s.work.settings.condint → acceptedAs (.settingCondint snd [w]) snd s (fun _ => ["CONDINT", showNat v]) 1
        (ask snd (.setting .condint) (withSettings (fun y => { y with condint := v }) s))) ∧
      (v = s.work.settings.condint →
        acceptedAs (.settingCondint snd [w]) snd s (fun _ => ["CONDINT", showNat v]) 0 s)) ∧
    (let v := (max 0 (min 15 x)).toNat;
      (v ≠ s.work.settings.prewarm → acceptedAs (.settingPrewarm snd [w]) snd s (fun _ => ["PREWARM", showNat v]) 1
        (ask snd (.setting .prewarm) (withSettings (fun y => { y with prewarm := v }) s))) ∧
      (v = s.work.settings.prewarm →
        acceptedAs (.settingPrewarm snd [w]) snd s (fun _ => ["PREWARM", showNat v]) 0 s)) ∧
    (let v := (max 0 (min 30 x)).toNat;
      (v ≠ s.work.settings.grace → acceptedAs (.settingGrace snd [w]) snd s (fun _ => ["GRACE", showNat v]) 1
        (ask snd (.setting .grace) (withSettings (fun y => { y with grace := v }) s))) ∧
      (v = s.work.settings.grace →
        acceptedAs (.settingGrace snd [w]) snd s (fun _ => ["GRACE", showNat v]) 0 s)) ∧
    (let v := (max 5 (min 120 x)).toNat;
      let y := ask snd (.setting .idle) (withSettings (fun y => { y with idle := v }) s);
      (v ≠ s.work.settings.idle → acceptedAs (.settingIdle snd [w]) snd s (fun _ => ["IDLE", showNat v]) 1
        (if v * 60 ≤ s.sched.idle then clearUnlocked (drop .idle y) else y)) ∧
      (v = s.work.settings.idle →
        acceptedAs (.settingIdle snd [w]) snd s (fun _ => ["IDLE", showNat v]) 0 s)) ∧
    (below snd .facility = false →
      let v := (max 1 (min 62 x)).toNat;
      (v ≠ s.work.settings.address →
        ∃ t, exec (.settingAddress snd [w]) s =
            .next (answer snd ⟨t, ["OK", "ADDRESS", show2 v], 1, some s.work.settings.address⟩) ∧
          essence t = essence (ask snd (.setting .address) (withSettings (fun y => { y with address := v }) s))) ∧
      (v = s.work.settings.address →
        acceptedAs (.settingAddress snd [w]) snd s (fun _ => ["ADDRESS", show2 v]) 0 s))

/-- SETTING PLAN, DEFMODE, AUTOSCAN, MOUNT and IDLELOCK with one of its words, other than the value in force, taken at once from
a sender of the setting's class that is not locked out, are accepted and written to the Settings Store before the reply OK
name value. A new mount sets the immediate flag and makes a computation; a new idle lock clears the unlocked flag. Nothing
else changes but what follows every event (a scan ends where AUTOSCAN becomes OFF). (1.6 Commands, 3.2 The requested mode,
6.5 Scanning, 7.7 Commands, 10.2 The lock level, 11.5 Hall settings) -/
def Obligations.WordSettingsStored : Prop :=
  ∀ (s : State) (snd : Sender) (w : String), takesNow s snd [w] = true → lockedOut s snd.cls = false →
    below snd .operator = false →
    (∀ v, parseMode w = some v → v ≠ s.work.settings.defmode →
      acceptedAs (.settingDefmode snd [w]) snd s (fun _ => ["DEFMODE", showMode v]) 1
        (ask snd (.setting .defmode) (withSettings (fun y => { y with defmode := v }) s))) ∧
    (∀ v, parseOn w = some v → v ≠ s.work.settings.autoscan →
      acceptedAs (.settingAutoscan snd [w]) snd s (fun _ => ["AUTOSCAN", showOn v]) 1
        (ask snd (.setting .autoscan) (withSettings (fun y => { y with autoscan := v }) s))) ∧
    (∀ v, parseIdleLock w = some v → v ≠ s.work.settings.idlelock →
      acceptedAs (.settingIdlelock snd [w]) snd s (fun _ => ["IDLELOCK", showIdleLock v]) 1
        (clearUnlocked (ask snd (.setting .idlelock) (withSettings (fun y => { y with idlelock := v }) s)))) ∧
    (∀ v, below snd .facility = false → parsePlan w = some v → v ≠ s.work.settings.plan →
      acceptedAs (.settingPlan snd [w]) snd s (fun _ => ["PLAN", showPlan v]) 1
        (ask snd (.setting .plan) (withSettings (fun y => { y with plan := v }) s))) ∧
    (∀ v, below snd .facility = false → parseMount w = some v → v ≠ s.work.settings.mount →
      acceptedAs (.settingMount snd [w]) snd s (fun _ => ["MOUNT", showMount v]) 1
        (computation (setImmediate (ask snd (.setting .mount) (withSettings (fun y => { y with mount := v }) s)))))

/-- From a quiescent state at a second boundary, LIT_SECOND ends in a next state in which, for each bay that burnt throughout the
second, the record has one more lit second and a fraction greater by the weight of its effective mode (Full 4, Standard 3,
Eco 2, and 1 more at thermal level Warn), and the unsaved count is one more, up to 600; the boundary at which it reaches 600 is
noted, the model's own (notes/assumptions/36.md). A bay that was Lit throughout the
second at Eco gains one eco second. For a bay that did neither, record and counters are as before. Debts, credits and
everything outside the Wear Counter and the Mode Unit are as before, but for what follows every event (R27, R53, R56 in
part). (2.2 Lit seconds and weighted seconds, 3.5 Conditioning debt, 3.6 Conditioning runs) -/
def Obligations.LitSecondCounts : Prop :=
  ∀ s : State, quiescent s = true → litSecondDue s = true →
    ∃ t, exec .litSecond s = .next t ∧ t.secondsDone = s.secondsDone + 1 ∧
      (∀ b,
        let burnt := (bay s b).st.burning && decide ((bay s b).burnSince + 1000 ≤ (s.secondsDone + 1) * 1000)
        let lit := (bay s b).st == .lit && decide ((bay s b).litSince + 1000 ≤ (s.secondsDone + 1) * 1000)
        let weight := match (bayMode s b).effective with
          | some .full => 4 + (if s.heat.level = .warn then 1 else 0)
          | some .standard => 3 + (if s.heat.level = .warn then 1 else 0)
          | some .eco => 2 + (if s.heat.level = .warn then 1 else 0)
          | none => (if s.heat.level = .warn then 1 else 0)
        lampRec t b = (if burnt then (lampRec s b).map (fun r =>
          { r with litSeconds := min 4294967295 (r.litSeconds + 1), fraction := r.fraction + weight }) else lampRec s b) ∧
        t.wear.get b = (if burnt then min 600 (s.wear.get b + 1) else s.wear.get b) ∧
        (bay t b).topAt = (if burnt && s.wear.get b == 599 then some ((s.secondsDone + 1) * 1000) else (bay s b).topAt) ∧
        (bayMode t b).ecoSec =
          (if lit && (bayMode s b).effective == some .eco then (bayMode s b).ecoSec + 1 else (bayMode s b).ecoSec) ∧
        (lit = true → (bayMode s b).effective = some .full → nextEffective s b = some .full →
          (bayMode t b).run = (bayMode s b).run + 1) ∧
        (bayMode t b).ecoMin = (bayMode s b).ecoMin ∧ (bayMode t b).debt = (bayMode s b).debt ∧
        (bayMode t b).credit = (bayMode s b).credit) ∧
      essence { t with work := { t.work with lamps := s.work.lamps }, wear := s.wear, mode := s.mode,
                       secondsDone := s.secondsDone
                       lamp := { t.lamp with bays := .make (fun b => { bay t b with topAt := (bay s b).topAt }) } } = essence s

/-- With the lock level Maintenance, a Facility sender's INSTALL on an Empty bay, or REPLACE on a Dark or Failed one, whose door-
cycled flag is Cycled, with an identity of 1 to 8 characters and a rated life of 500 to 20000 hours, taken at once, is accepted:
the record is new, with every counter 0 and the clock's date where it is set, the bay is Dark with its door-cycled flag Clear and
no last loss, loss bar or cause mark, its strike list is kept, its conditioning counters are 0, the write is asked for, and the
reply waits for it. A LAMP notice gives DARK, and a LIFE notice GOOD where a lamp of another stage was there. The other bay's
record and the other blocks are as before, but for what follows every event. The LAMP notice comes before the LIFE one by the
model's choice (notes/assumptions/7.md) (R41, R42, R60 in part). (2.7 Record commands, 1.5 Lamp doors, 3.7 Lamps, resets and the
query) -/
def Obligations.LampRecordsFitted : Prop :=
  ∀ (s : State) (snd : Sender) (b : Bay) (i h : String) (n : Nat), takesNow s snd [showBay b, i, h] = true →
    below snd .facility = false → lockLevel s = .maintenance → isLabel 8 i = true → parseNatIn 500 20000 h = some n →
    (bay s b).doorFlag = .cycled →
    ∀ c ∈ (if (bay s b).st = .empty then [Instr.install snd [showBay b, i, h]]
           else if (bay s b).st = .dark ∨ (bay s b).st = .failed then [Instr.replace snd [showBay b, i, h]] else []),
      ∃ t, exec c s = .next (answer snd ⟨t, ["OK", "BAY", showBay b, "DARK", "LIFE", showNat n], 1, none⟩) ∧
        lampRec t b = some
          { identity := i, ratedLife := n, wear := 0, fraction := 0, litSeconds := 0, strikeCount := 0, failedCount := 0,
            consecutive := 0, failed := false, installed := s.sched.clock.map HallClock.date } ∧
        lampRec t b.other = lampRec s b.other ∧
        writeAsked snd (.lamp b) t ∧ placed s t (⟨.lamp, .bay b, ["DARK"]⟩ :: (if (bay s b).st = .empty then [] else match lampRec s b with
          | some r => if stageOfRec r = .good then [] else [⟨.life, .bay b, ["GOOD"]⟩]
          | none => [])) ∧
        (bay t b).st = .dark ∧ (bay t b).doorFlag = .clear ∧ (bay t b).lastLoss = none ∧ (bay t b).lossBar = none ∧
        (bay t b).causeMark = false ∧ (bay t b).strikes = (bay s b).strikes ∧
        (bayMode t b).ecoSec = 0 ∧ (bayMode t b).ecoMin = 0 ∧ (bayMode t b).debt = 0 ∧ (bayMode t b).credit = 0 ∧
        sameBesideLamps s { t with mode := s.mode }

/-- REMOVE from a Facility sender under Maintenance, on an installed bay that is not Striking, Warming or Lit, is accepted: the
bay is Empty, with no record and not wanted. REVIVE from a Facility sender on a Failed bay is accepted at every lock level:
the bay is in Rest for 30 s, and its record has no consecutive failures and no Failed flag. Each asks for the write its reply
waits for, and a LAMP notice gives EMPTY at REMOVE. The other bay's record and the other blocks are as before, but for what follows every event (R11, R43, R44 in
part). (2.7 Record commands, 1.2 The bay state machine) -/
def Obligations.LampRecordsTaken : Prop :=
  ∀ (s : State) (snd : Sender) (b : Bay), takesNow s snd [showBay b] = true → below snd .facility = false →
    (lockLevel s = .maintenance → (bay s b).st ≠ .empty → (bay s b).st.inUse = false →
      ∃ t, exec (.remove snd [showBay b]) s = .next (answer snd ⟨t, ["OK", "BAY", showBay b, "EMPTY"], 1, none⟩) ∧
        lampRec t b = none ∧ lampRec t b.other = lampRec s b.other ∧ (bay t b).st = .empty ∧ (bay t b).timer = none ∧
        (bay t b).doorFlag = .clear ∧ t.lamp.wanted.get b = false ∧ writeAsked snd (.lamp b) t ∧
        placed s t [⟨.lamp, .bay b, ["EMPTY"]⟩] ∧ sameBesideLamps s { t with mode := s.mode }) ∧
    ((bay s b).st = .failed →
      ∃ t, exec (.revive snd [showBay b]) s = .next (answer snd ⟨t, ["OK", "BAY", showBay b, "REST", "30"], 1, none⟩) ∧
        lampRec t b = (lampRec s b).map (fun r => { r with consecutive := 0, failed := false }) ∧
        lampRec t b.other = lampRec s b.other ∧ (bay t b).st = .rest ∧ (bay t b).timer = some (s.uptime + 30000) ∧
        writeAsked snd (.lamp b) t ∧ placed s t [] ∧ sameBesideLamps s t)

/-- MODE from a sender of the Operator class or above that is not locked out sets the requested mode. From a Facility sender,
CEILING m TEMP sets the temporary ceiling, CEILING CLEARTEMP makes it absent, and CEILING m PERSIST sets the persistent
ceiling: a new value uses the allowance and is written before the reply, an equal one changes nothing, and a new one with the
allowance used is answered NO AGAIN. Each reply gives the values in force after it. Nothing else changes but what follows
every event (R46, R47, R49, R50 in part). (3.2 The requested mode, 3.3 Ceilings) -/
def Obligations.RequestedModeAndCeilings : Prop :=
  ∀ (s : State) (snd : Sender),
    (∀ w m, takesNow s snd [w] = true → parseMode w = some m → below snd .operator = false → lockedOut s snd.cls = false →
      acceptedAs (.mode snd [w]) snd s (fun t => ["MODE", showMode m, "A", showEff (bayMode t .bayA).effective, "B",
          showEff (bayMode t .bayB).effective]) 0
        { s with mode := { s.mode with requested := m } }) ∧
    (∀ w m, takesNow s snd [w] = true → parseMode w = some m → below snd .facility = false →
      acceptedAs (.ceilingTemp snd [w]) snd s ceilingFields 0 { s with mode := { s.mode with temp := some m } } ∧
      (m = s.work.ceiling → acceptedAs (.ceilingPersist snd [w]) snd s ceilingFields 0 s) ∧
      (m ≠ s.work.ceiling → s.mode.persistUsed = false →
        acceptedAs (.ceilingPersist snd [w]) snd s ceilingFields 1
          (ask snd .ceiling { s with work := { s.work with ceiling := m }, mode := { s.mode with persistUsed := true } })) ∧
      (m ≠ s.work.ceiling → s.mode.persistUsed = true → refusedWith (.ceilingPersist snd [w]) snd s "AGAIN")) ∧
    (takesNow s snd [] = true → below snd .facility = false →
      acceptedAs (.ceilingCleartemp snd) snd s ceilingFields 0 { s with mode := { s.mode with temp := none } })

/-- In the state that settling leaves, which every command and event ends with, a bay that does not burn is Off; at Shutdown a
burning bay has no mode; a burning bay under no override runs at the lowest of the requested mode, the facility ceiling in
force and the thermal ceiling, under a Normal override at the lower of the two ceilings, and under a Forced one at the thermal
ceiling, which is Eco at Warn, under a housing sensor fault or a fan stall, and Full otherwise. The fan is High while a bay is
in Cooling, the level is not Normal or the sensor fault is present, else Normal while a bay is in use, else Low. That every
step keeps all this is Obligations.FaultsAndModesStayTrue. (3.4 The effective mode, 3.5 Conditioning debt, 4.5 The fan) -/
def Obligations.EffectiveModeByOverride : Prop :=
  ∀ (x : State) (b : Bay),
    let t := settle x
    let hot : LampMode := if t.heat.level = .warn ∨ t.heat.sensorFault = true ∨ t.heat.stall = true then .eco else .full
    let hall : LampMode := (t.mode.temp).getD t.work.ceiling
    ((bay t b).st ≠ .warming → (bay t b).st ≠ .lit → (bayMode t b).effective = none) ∧
    (t.heat.level = .shutdown → (bayMode t b).effective = none) ∧
    ((bay t b).st = .warming ∨ (bay t b).st = .lit → t.heat.level ≠ .shutdown →
      ((bayMode t b).override = .none → (bayMode t b).effective = some ((t.mode.requested.lower hall).lower hot)) ∧
      ((bayMode t b).override = .normal → (bayMode t b).effective = some (hall.lower hot)) ∧
      ((bayMode t b).override = .forced → (bayMode t b).effective = some hot)) ∧
    t.heat.fan =
      (if (bay t .bayA).st = .cooling ∨ (bay t .bayB).st = .cooling ∨ t.heat.level ≠ .normal ∨ t.heat.sensorFault = true then .high
       else if (bay t .bayA).st.inUse = true ∨ (bay t .bayB).st.inUse = true then .normal else .low)

/-- Each event that is due ends in a next state. Where a fraction is 60 or more, WEAR_CARRY takes 60 from it and adds 1 to the
wear, up to 16,777,215, and leaves the other bay's record; where an unsaved count is 600 or more and no write of the record waits,
UNSAVED_WRITE asks for the write, after a carry of its bay that is due; at 60 eco seconds, ECO_MINUTE sets them to 0 and adds one
eco-minute; at the interval in force, CONDITIONING_DUE sets the eco-minute counter to 0 and spends a credit, or, with none, adds
one debt up to 4; at 600 seconds at Full, FULL_RUN_COMPLETE sets the run to 0 and takes one debt away, or, with none, adds one
credit up to 2. Nothing else changes but what follows every event. That a carry comes before the write of the same boundary is the
model's reading (notes/assumptions/36.md) (R28, R30, R36, R53, R55, R56 in part). (2.2 Lit seconds and weighted seconds, 2.4
Limits of the counters, 2.6 Keeping the record, 3.5 Conditioning debt, 3.6 Conditioning runs) -/
def Obligations.CountersCarry : Prop :=
  ∀ (s : State) (b : Bay),
    (∀ r, lampRec s b = some r → 60 ≤ r.fraction →
      ∃ t, exec (.wearCarry b) s = .next t ∧
        lampRec t b = some { r with fraction := r.fraction - 60, wear := min 16777215 (r.wear + 1) } ∧
        lampRec t b.other = lampRec s b.other ∧ sameBesideLamps s t) ∧
    (600 ≤ s.wear.get b → writeWaits s (.lamp b) = false →
      (carryDue s b = false → goesTo (.unsavedWrite b) s (askOwn (.lamp b) s)) ∧
      (carryDue s b = true → ∃ u, exec (.wearCarry b) s = .next u ∧
        (600 ≤ u.wear.get b → writeWaits u (.lamp b) = false → goesTo (.unsavedWrite b) s (askOwn (.lamp b) u)))) ∧
    (60 ≤ (bayMode s b).ecoSec →
      goesTo (.ecoMinute b) s (modBayMode b (fun m => { m with ecoSec := 0, ecoMin := m.ecoMin + 1 }) s)) ∧
    (0 < (bayMode s b).ecoMin →
      (if s.heat.hot = true then s.work.settings.condint / 2 else s.work.settings.condint) ≤ (bayMode s b).ecoMin →
      (0 < (bayMode s b).credit →
        goesTo (.conditioningDue b) s (modBayMode b (fun m => { m with ecoMin := 0, credit := m.credit - 1 }) s)) ∧
      ((bayMode s b).credit = 0 →
        goesTo (.conditioningDue b) s (modBayMode b (fun m => { m with ecoMin := 0, debt := min 4 (m.debt + 1) }) s))) ∧
    (600 ≤ (bayMode s b).run →
      ∃ t, exec (.fullRunComplete b) s = .next t ∧ (bayMode t b).run = 0 ∧
        (0 < (bayMode s b).debt → essence t = essence (modBayMode b (fun m => { m with debt := m.debt - 1 }) s)) ∧
        ((bayMode s b).debt = 0 → essence t = essence (modBayMode b (fun m => { m with credit := min 2 (m.credit + 1) }) s)))

/-- From a quiescent state, a pair of conversions is limited to -20..150 and replaces the last readings. A housing reading of -20
adds 1 to the sensor fault count and leaves the level counts; any other adds 1 to the sensor clear count and to each level
count whose condition it meets, and sets the others to 0. The ambient reading moves the hall counts in the same way. Counts
stop at 3. From any state, where the count against the present value has reached 3, HOUSING_SENSOR_FAULT changes the housing
sensor fault and HOT_HALL_CHANGE the hot-hall flag, and both counts of the one changed become 0. Nothing else changes but
what follows every event (R63, R64, R65, R68 in part). (4.2 Readings, 4.3 The thermal level, 4.4 The hot hall) -/
def Obligations.ConversionsCounted : Prop :=
  ∀ s : State,
    (∀ housing ambient : Int, quiescent s = true →
    let x := max (-20) (min 150 housing)
    let y := max (-20) (min 150 ambient)
    goesTo (.thermistorConversion housing ambient) s { s with heat := { s.heat with
      housing := some x, ambient := some y
      faultCount := if x = -20 then min 3 (s.heat.faultCount + 1) else 0
      clearCount := if x = -20 then 0 else min 3 (s.heat.clearCount + 1)
      atLeast78 := if x = -20 then s.heat.atLeast78 else if 78 ≤ x then min 3 (s.heat.atLeast78 + 1) else 0
      atLeast92 := if x = -20 then s.heat.atLeast92 else if 92 ≤ x then min 3 (s.heat.atLeast92 + 1) else 0
      below80 := if x = -20 then s.heat.below80 else if x < 80 then min 3 (s.heat.below80 + 1) else 0
      below70 := if x = -20 then s.heat.below70 else if x < 70 then min 3 (s.heat.below70 + 1) else 0
      atLeast35 := if 35 ≤ y then min 3 (s.heat.atLeast35 + 1) else 0
      below32 := if y < 32 then min 3 (s.heat.below32 + 1) else 0 } }) ∧
    (3 ≤ (if s.heat.sensorFault = true then s.heat.clearCount else s.heat.faultCount) →
      goesTo .housingSensorFault s { s with heat := { s.heat with
        sensorFault := !s.heat.sensorFault, faultCount := 0, clearCount := 0 } }) ∧
    (3 ≤ (if s.heat.hot = true then s.heat.below32 else s.heat.atLeast35) →
      goesTo .hotHallChange s { s with heat := { s.heat with hot := !s.heat.hot, atLeast35 := 0, below32 := 0 } })

/-- Where three readings in a row call for another level, THERMAL_LEVEL_CHANGE ends in a next state at that level with the four
counts 0: from Normal or Warn to Shutdown at 92 or more, else from Normal to Warn at 78 or more, else from Warn to Normal
below 70, and from Shutdown to Warn below 80. A change to Normal or Warn changes nothing else but what follows every event.
At entry to Shutdown every bay in Striking, Warming or Lit goes to Cooling for 90 s, the demand is 0 with no bay wanted, with
origin HEAT where it was above 0, the igniter is not held by a bay that was Striking, and the records and the other blocks
are as before (R9, R12, R65, R67 in part). (4.3 The thermal level, 1.2 The bay state machine, 1.3 The lamp demand and the
choice of bays) -/
def Obligations.ThermalLevelMoves : Prop :=
  ∀ s : State,
    let low (l : Thermal) : State := { s with heat := { s.heat with
      level := l, atLeast78 := 0, atLeast92 := 0, below80 := 0, below70 := 0 } }
    (s.heat.level = .normal → s.heat.atLeast92 < 3 → 3 ≤ s.heat.atLeast78 → goesTo .thermalLevelChange s (low .warn)) ∧
    (s.heat.level = .warn → s.heat.atLeast92 < 3 → 3 ≤ s.heat.below70 → goesTo .thermalLevelChange s (low .normal)) ∧
    (s.heat.level = .shutdown → 3 ≤ s.heat.below80 → goesTo .thermalLevelChange s (low .warn)) ∧
    (s.heat.level ≠ .shutdown → 3 ≤ s.heat.atLeast92 →
      ∃ t, exec .thermalLevelChange s = .next t ∧ t.heat.level = .shutdown ∧
        (∀ b, ((bay s b).st.inUse = true → (bay t b).st = .cooling ∧ (bay t b).timer = some (s.uptime + 90000)) ∧
          ((bay s b).st.inUse = false → (bay t b).st = (bay s b).st ∧ (bay t b).timer = (bay s b).timer) ∧
          ((bay s b).st = .striking → t.lamp.igniter = none)) ∧
        t.lamp.count = 0 ∧ (s.lamp.count ≠ 0 → t.lamp.origin = .heat ∧ t.lamp.wanted = .both false) ∧
        (s.lamp.count = 0 → t.lamp.origin = s.lamp.origin) ∧ t.work = s.work ∧ sameBesideLamps (low .shutdown) t)

/-- From a quiescent state, a tach pulse ends in a next state with no stall, in which the stall timer counts from now where the
fan stands at Normal or High. Where the stall timer has reached 5 s, FAN_STALL makes the stall present and stops the timer.
Nothing else changes but what follows every event (R70 in part). (4.5 The fan) -/
def Obligations.FanSupervised : Prop :=
  ∀ s : State, quiescent s = true →
    (∃ t, exec .tachPulse s = .next t ∧ t.heat.stall = false ∧
      (fanChoice s = s.heat.fan → t.heat.stallFrom = if s.heat.fan = .low then none else some s.uptime) ∧
      essence t = essence { s with heat := { s.heat with stall := false } }) ∧
    (∀ x, s.heat.stallFrom = some x → x + 5000 ≤ s.uptime →
      ∃ t, exec .fanStall s = .next t ∧ t.heat.stall = true ∧ (fanChoice s = s.heat.fan → t.heat.stallFrom = none) ∧
        essence t = essence { s with heat := { s.heat with stall := true } })

/-- Each query with its arguments, taken at once from any sender, is answered OK with the fields that its rule lists, in their
order and each from the state in which the query is taken, and leaves the state as it was but for the reply; STATUS also clears
the overflow flag of the Notice Queue. A BOOKINFO gives as NEXT the first date whose occurrence ends later than the clock. A
FAULTS reply that would pass 400 characters keeps as many whole entries as fit before the word MORE. (The form of the fields is
the model's where the manual names their content only: the dates after SKIPS and the entries after SLOTS, and that such a reply is
never cut, notes/assumptions/33.md; the whole seconds of HOLD and WAIT, notes/assumptions/16.md; ASPECT, VTRIM and HTRIM while a
changed profile is not computed yet, notes/assumptions/38.md; a Grace end at minute 1440, notes/assumptions/34.md; the two digits
of an address, notes/assumptions/13.md; the count of 400, notes/assumptions/23.md.) (R45, R62, R72, R75, R86, R100, R117, R123,
R135, R136, R153, R157, R167, R173, R176, R179, R183 in part). (1.6 Commands, 2.7 Record commands, 3.7 Lamps, resets and the
query, 4.6 Resets and the query, 5.6 Commands, 6.6 Commands, 7.7 Commands, 8.9 Queries, 9.8 The query, 10.6 The query and the
resets, 11.5 Hall settings, 12.3 The hall at a glance) -/
def Obligations.QueriesChangeNothing : Prop :=
  ∀ (s : State) (snd : Sender),
    let tells (i : Instr) (words : List String) : Prop := exec i s = .next (answer snd ⟨nextEvent s, "OK" :: words, 0, none⟩)
    let orNone (l : List String) : List String := if l = [] then ["NONE"] else l
    let bayModeWords (b : Bay) : List String :=
      let m := bayMode s b
      [showBay b, "EFF", showEff m.effective, "ECOMIN", showNat m.ecoMin, "ECOSEC", showNat m.ecoSec, "DEBT", showNat m.debt,
       "CREDIT", showNat m.credit, "RUN", showNat m.run, "OVR", showOverride m.override]
    let holds (b : Bay) : List String :=
      (if (bay s b).st = .cooling ∨ (bay s b).st = .rest then ["HOLD", showNat ((darkEntry s b - s.uptime) / 1000)] else []) ++
      (match (bay s b).strikes with
        | t :: l => if 3 ≤ l.length then ["WAIT", showNat ((t + 3600000 - s.uptime) / 1000)] else []
        | [] => [])
    let faultWords : List String := (FaultId.all.filter (fun f => s.faults.get f != .clear)).map (fun f =>
      showFault f ++ ":" ++ showFaultSt (s.faults.get f))
    (takesNow s snd [] = true →
      tells (.modeinfo snd [])
        (["REQ", showMode s.mode.requested, "DEF", showMode s.work.settings.defmode, "CEIL",
          showMode (s.mode.temp.getD s.work.ceiling), "PERSIST", showMode s.work.ceiling, "TEMP", showOpt showMode s.mode.temp,
          "ONCE", if s.mode.persistUsed then "USED" else "FREE", "THERMAL", showOpt showMode (thermalCeiling s), "INTERVAL",
          showNat (if s.heat.hot then s.work.settings.condint / 2 else s.work.settings.condint), "HOT", showYes s.heat.hot] ++
          bayModeWords .bayA ++ bayModeWords .bayB) ∧
      tells (.heatinfo snd [])
        ["HOUSING", showOpt showInt s.heat.housing, "AMBIENT", showOpt showInt s.heat.ambient, "LEVEL",
         showThermal s.heat.level, "HOT", showYes s.heat.hot, "SENSOR", if s.heat.sensorFault then "FAULT" else "OK", "FAN",
         showFan s.heat.fan, "TACH", if s.heat.stall then "STALL" else if s.heat.fan = .low then "IDLE" else "RUN"] ∧
      tells (.portinfo snd []) (VPort.all.flatMap (fun p =>
        [showPort p, match (portNow s p).present with | some x => showYes x | none => "NONE", showNat (portNow s p).cls, "PROF",
         showOpt showNat (lookup s p (portNow s p).cls)])) ∧
      tells (.profinfoTable snd)
        (["PROFILES"] ++ orNone ((filled s.work.profiles).map showNat) ++ ["SCAN"] ++ orNone ((scanList s).map showPort)) ∧
      tells (.sourceQuery snd)
        (["STATE", showSelSt s.sel.st, "PORT", showPort s.sel.port, "CLASS", showNat (s.sel.settledCls.getD 0), "PROFILE",
          showOpt showNat s.sel.active, "NAMED", showOpt showNat s.sel.named, "MUTE"] ++
          orNone ((if s.sel.st = .switching ∨ s.sel.st = .scanning ∨ s.sel.classTimer ≠ none then ["SWITCH"] else []) ++
            (if s.sel.muteLoss then ["LOSS"] else []) ++ (if s.sel.muteUser then ["USER"] else [])) ++
          (match s.sel.st, s.sel.req with
            | .switching, some r =>
              ["TARGET", showPort r.port, "REQ", match r.named with | some n => showNat n | none => "PORT", "ORIGIN",
               showSwOrigin r.origin, "LEFT", showNat (r.start + 5000 - s.uptime)]
            | .switching, none => []
            | .noSignal, _ => ["LOSS", showLoss s.sel.lossB, "IDLE", showNat ((s.uptime - s.sel.noSigFrom) / 1000)]
            | .scanning, _ => ["AT", showPort s.sel.scanPort, "DWELL", showNat (s.sel.dwellFrom + 3000 - s.uptime)]
            | .settled, _ => [])) ∧
      tells (.geoinfo snd [])
        (let g := s.geo
         let c := g.computed
         let point (x y : Int) : String := showInt x ++ "," ++ showInt y
         ["V", showInt g.v, "H", showInt g.h, "CLAMPV", showYes g.clampV, "CLAMPH", showYes g.clampH, "A", showInt g.applied,
          "CAND", showOpt showInt g.cand, "COUNT", showNat g.agree, "AUTO", showOn (autoTiltOn s), "MOUNT",
          showMount s.work.settings.mount, "VTRIM", showInt (trims s).1, "HTRIM", showInt (trims s).2, "VADJ", showInt g.vAdj,
          "HADJ", showInt g.hAdj, "LIMV", showNat s.work.limV, "LIMH", showNat s.work.limH, "TL", point c.tlX c.tlY, "TR",
          point c.trX c.trY, "BR", point c.brX c.brY, "BL", point c.blX c.blY, "ASPECT", showAspect c.aspect, "SCALE",
          showNat (scaleOf g.v g.h), "TILT",
          if g.tiltInvalid then "FAIL" else if g.ring.all Option.isSome then "VALID" else "HOLD", "LINK",
          if g.inFlight = none then "IDLE" else if g.nextSlot = none then "SENDING" else "QUEUED", "APPLIED",
          match g.appliedSet with | none => "NONE" | some x => showYes (decide (x = c))]) ∧
      (s.sched.clock = none → tells (.clock snd []) ["CLOCK", "UNSET"]) ∧
      (∀ c, s.sched.clock = some c →
        tells (.clock snd []) ["CLOCK", showDate c.date, showTime c.secs, "WEEKDAY", showWeekday (weekdayOf c.date)]) ∧
      tells (.booklist snd [])
        (["BOOKINGS"] ++ orNone ((filled s.work.bookings).map showNat) ++
          ["FREE", showNat (s.work.bookings.length - (filled s.work.bookings).length), "SKIPS",
           showNat s.work.exceptions.length]) ∧
      tells (.occinfo snd [])
        ((match s.sched.active with
            | some o =>
              ["ACTIVE", showNat o.booking, "DATE", showDate o.date, "PHASE", showPhase o.phase, "START", showMinute o.start,
               "END", showMinute o.stop, "UNTIL",
               if o.stop + o.grace < 1440 then showMinute (o.stop + o.grace) else showMinute (o.stop + o.grace - 1440) ++ "+1",
               "RAISED", showYes o.raised, "LATE", showYes o.late]
            | none => ["ACTIVE", "NONE"]) ++
          (match s.sched.upcoming with
            | some o =>
              ["UPCOMING", showNat o.booking, "DATE", showDate o.date, "START", showMinute o.start, "END", showMinute o.stop,
               "RAISED", showYes o.raised]
            | none => ["UPCOMING", "NONE"]) ++
          (match s.sched.lastEnded with
            | some (n, d) => ["ENDED", showNat n, "DATE", showDate d]
            | none => ["ENDED", "NONE"]) ++
          ["IDLE", showNat s.sched.idle, "LIMIT", showNat (s.work.settings.idle * 60)]) ∧
      tells (.lockinfo snd [])
        (["LEVEL", showLevel (lockLevel s), "PRESENTER", showLevel (presenterLevel s), "IDLE",
          showIdleLock s.work.settings.idlelock, "UNLOCKED", showYes s.lock.unlocked, "BY", showBy s.lock.unlockedBy, "ATTEMPTS",
          showNat s.lock.attempts, "FROZEN", showYes s.lock.frozen, "MAINT", showYes s.lock.maint, "MASTER",
          if s.work.master = none then "EMPTY" else "SET", "SLOTS"] ++
          orNone ((filled s.work.codes).map (fun n =>
            match place s.work.codes n with
            | some c => showNat n ++ ":" ++ showOpt id c.label ++ ":" ++ showOpt showDate c.expiry ++ ":" ++
                (if usable s c then "USABLE" else "EXPIRED")
            | none => ""))) ∧
      (s.work.masks.length = 3 → s.work.filters.length = 8 →
        tells (.lineinfo snd [])
          (["ADDRESS", show2 s.work.settings.address, "COUNT", showNat s.comms.errCount, "STATE",
            if s.comms.deaf then "DEAF" else if 96 ≤ s.comms.errCount then "GUARDED" else "ATTENTIVE"] ++
            [1, 2, 3].flatMap (fun n => ["M" ++ showNat n, showHex (s.work.masks.getD (n - 1) 0)]) ++
            [1, 2, 3, 4, 5, 6, 7, 8].flatMap (fun n =>
              let f := s.work.filters.getD (n - 1) Filter.unused
              ["F" ++ showNat n, showHex f.code ++ ":" ++ ("M" ++ showNat f.mask) ++ ":" ++ showCls f.cls ++ ":" ++
                showOn f.on]))) ∧
      (faultWords = [] → tells (.faults snd []) ["FAULTS", "NONE"]) ∧
      (faultWords ≠ [] →
        ((joinWords ("OK" :: "FAULTS" :: faultWords)).length + 10 ≤ 400 → tells (.faults snd []) ("FAULTS" :: faultWords)) ∧
        (400 < (joinWords ("OK" :: "FAULTS" :: faultWords)).length + 10 →
          ∃ k, k < faultWords.length ∧ tells (.faults snd []) ("FAULTS" :: (faultWords.take k ++ ["MORE"])) ∧
            (joinWords ("OK" :: "FAULTS" :: (faultWords.take k ++ ["MORE"]))).length + 10 ≤ 400 ∧
            400 < (joinWords ("OK" :: "FAULTS" :: (faultWords.take (k + 1) ++ ["MORE"]))).length + 10)) ∧
      exec (.status snd []) s = .next (answer snd
        ⟨{ nextEvent s with notices := { s.notices with overflow := false } },
         ["OK", "DEMAND", showNat s.lamp.count, "ORIGIN", showOrigin s.lamp.origin, "WANTED",
          if s.lamp.wanted.a then (if s.lamp.wanted.b then "AB" else "A") else (if s.lamp.wanted.b then "B" else "NONE"), "SHORT",
          showNat (s.lamp.count - wantedCount s), "A", showBaySt (bay s .bayA).st, "B", showBaySt (bay s .bayB).st, "SELECT",
          showSelSt s.sel.st, "PORT", showPort s.sel.port, "PROFILE", showOpt showNat s.sel.active, "LEVEL",
          showLevel (lockLevel s), "THERMAL", showThermal s.heat.level, "CLOCK",
          if s.sched.clock = none then "UNSET" else "SET", "FAULT", showLine (faultLine s), "SERVICE", showLine (serviceLine s),
          "QUEUE", showNat s.notices.queue.length, "OVERFLOW", showYes s.notices.overflow, "STORE",
          showNat s.store.unsaved.length], 0, none⟩)) ∧
    (∀ b, takesNow s snd [showBay b] = true →
      (∀ r, lampRec s b = some r →
        tells (.lampinfo snd [showBay b])
          (["BAY", showBay b, "STATE", showBaySt (bay s b).st, "ID", r.identity, "LIFE", showNat r.ratedLife, "WEAR",
            showNat r.wear, "FRAC", showNat r.fraction, "PERMILLE",
            showNat (min 1999 (r.wear * 1000 / (r.ratedLife * 240))), "STAGE", showStage (stageOfRec r), "HFULL",
            showNat ((r.ratedLife * 240 - r.wear) / 240), "HSTD", showNat ((r.ratedLife * 240 - r.wear) / 180), "HECO",
            showNat ((r.ratedLife * 240 - r.wear) / 120), "LITSEC", showNat r.litSeconds, "STRIKES", showNat r.strikeCount,
            "FAILS", showNat r.failedCount, "CONSEC", showNat r.consecutive, "INSTALLED", showOpt showDate r.installed, "DOOR",
            if s.pins.door.get b then "OPEN" else "CLOSED", "CYCLED", showDoorFlag (bay s b).doorFlag, "BUDGET",
            showNat (bay s b).strikes.length, "UNSAVED", showNat (s.wear.get b)] ++ holds b)) ∧
      (lampRec s b = none →
        tells (.lampinfo snd [showBay b])
          ["BAY", showBay b, "STATE", showBaySt (bay s b).st, "DOOR", if s.pins.door.get b then "OPEN" else "CLOSED", "CYCLED",
           showDoorFlag (bay s b).doorFlag, "BUDGET", showNat (bay s b).strikes.length])) ∧
    (∀ w n p, takesNow s snd [w] = true → parseNatIn 1 16 w = some n → profileAt s n = some p →
      tells (.profinfo snd [w])
        ["PROFILE", showNat n, "PORT", showPort p.port, "CLASS", match p.cls with | some c => showNat c | none => "ANY", "LABEL",
         showOpt id p.label, "ASPECT", showAspect p.aspect, "VTRIM", showInt p.vTrim, "HTRIM", showInt p.hTrim, "TILT",
         showOn p.autoTilt, "LOSS", showLoss p.loss, "RANK", showOpt showNat p.rank, "ACTIVE",
         showYes (decide (s.sel.active = some n))]) ∧
    (∀ w n bk, takesNow s snd [w] = true → parseNatIn 1 48 w = some n → place s.work.bookings n = some bk →
      ∃ next : Option Date,
        tells (.bookinfo snd [w])
          (["BOOK", showNat n] ++
            (match bk.dates with
              | .weekly days f u =>
                ["KIND", "WEEKLY", "DAYS", joinCommas (days.map showWeekday), "FROM", showOpt showDate f, "UNTIL",
                 showOpt showDate u]
              | .once d => ["KIND", "ONCE", "DATE", showDate d]) ++
            ["START", showMinute bk.start, "END", showMinute bk.stop, "SOURCE", showOpt showNat bk.source, "MODE",
             showOpt showMode bk.mode, "LAMPS", showOpt showNat bk.lamps, "LOCK", showBookLock bk.lock, "OWNER",
             showOpt showNat bk.owner, "OWNERONLY", showYes bk.ownerOnly, "GRACE", showNat bk.grace, "LABEL",
             showOpt id bk.label, "SKIPS"] ++
            orNone ((s.work.exceptions.filter (fun e => e.booking == n)).map (fun e => showDate e.date)) ++
            ["NEXT", showOpt showDate next]) ∧
        (s.sched.clock = none → next = none) ∧
        (∀ c, s.sched.clock = some c → c.secs < 86400 → bk.stop ≤ 1440 →
          (∀ d, next = some d → occurs s n bk d = true ∧ c.abs < minuteAbs d bk.stop ∧
            ∀ d', d' < d → occurs s n bk d' = true → minuteAbs d' bk.stop ≤ c.abs) ∧
          (next = none → ∀ d, d ≤ 36524 → occurs s n bk d = true → minuteAbs d bk.stop ≤ c.abs))) ∧
    (∀ k, takesNow s snd [showSetting k] = true →
      tells (.settingQuery snd [showSetting k]) [showSetting k, settingWord s k])

/-- From a quiescent state of eight ports, a sample of eight readings gives each port the new presence, its class or 0 without a
signal, and its old class as the previous one, where it had a sample. Settled, an absent sample of the selected port adds 1 to the
loss run, up to 5, and any other sets it to 0; a lockable sample of a new class moves the class-change run, and one of the settled
class sets it to 0. Switching, in NoSignal, and Scanning while a scan may run, a lockable sample of the judged port (the target,
the selected or the dwell port) counts in the lock run, up to 2, starting again at 1 for another class, and any other sets it to
0. Nothing else changes but what follows every event. That a port has no previous class at its first sample is the model's reading
(notes/assumptions/15.md) (R73, R90, R93, R94, R95, R97 in part). (5.1 Port readings, 6.3 Switch requests, 6.4 The settled source,
6.5 Scanning) -/
def Obligations.PortsSampled : Prop :=
  ∀ (s : State) (l : List PortReading), quiescent s = true → s.ports.length = 8 → l.length = 8 →
    ∃ t, exec (.portSample l) s = .next t ∧ t.ports.length = 8 ∧
      (∀ (k : Nat) (p : PortSample) (r : PortReading), s.ports[k]? = some p → l[k]? = some r →
        t.ports[k]? = some
          { present := some r.present, cls := if r.present then r.cls else 0
            prev := if p.present = none then none else some p.cls }) ∧
      (∀ p, t.ports[s.sel.port.idx]? = some p → s.sel.st = .settled →
        t.sel = { s.sel with
          lossRun := if p.present = some false then min 5 (s.sel.lossRun + 1) else 0
          classRun :=
            if p.present = some true ∧ p.cls ≠ 0 then
              (if s.sel.settledCls = some p.cls then ⟨0, 0⟩
               else if s.sel.classRun.count ≠ 0 ∧ s.sel.classRun.cls = p.cls then ⟨p.cls, min 2 (s.sel.classRun.count + 1)⟩
               else ⟨p.cls, 1⟩)
            else s.sel.classRun }) ∧
      (∀ p, t.ports[(selectedLine s).idx]? = some p →
        s.sel.st = .switching ∨ s.sel.st = .noSignal ∨
          (s.sel.st = .scanning ∧ s.work.settings.autoscan = true ∧ examRunning s = false) →
        t.sel = { s.sel with
          lockRun :=
            if p.present = some true ∧ p.cls ≠ 0 then
              (if s.sel.lockRun.count ≠ 0 ∧ s.sel.lockRun.cls = p.cls then ⟨p.cls, min 2 (s.sel.lockRun.count + 1)⟩
               else ⟨p.cls, 1⟩)
            else ⟨0, 0⟩ }) ∧
      essence { t with ports := s.ports, sel := s.sel } = essence s

/-- From an Operator or Facility sender that is not locked out, taken at once: a PROFILE whose record differs from the one held
and whose key no other place holds puts the record in its place; on an empty place the fields not named take their defaults. An
UNPROFILE of a place that no booking names empties it, and it is then neither the active nor the named profile. Settled, a change
of the active profile that still fits makes a computation with the nudges kept, and one that does not, or a deletion, makes the
profile that the lookup gives the active one, with a profile change and a SOURCE notice. In the other states a deletion of the
active profile, or its move to another port, makes the port's fallback the active one, and the loss is judged from it; another
change of it makes a computation in NoSignal, and in Switching and Scanning only where the auto-tilt field changes. In NoSignal a
change of the port's ANY profile has the loss judged again. A profile change clears the nudges, and auto-tilt that comes ON sets
the immediate flag. Any other change leaves the picture. A TRIM puts the trims, within 40 and 30 steps, into a filled place, and a
change to the active profile that fits the source on screen is computed at once with the nudges kept; equal trims change nothing.
Each change asks for the write its reply waits for, every other place is as before, and nothing changes beside the table, the
store, the selector and the geometry but what follows every event. That such a TRIM is computed at once in every state of the
selector, and which changes of a PROFILE are in Switching and Scanning, is the model's reading (notes/assumptions/14.md); that the
port's class is the settled one is its choice (notes/assumptions/30.md), and so is the form of its numbers
(notes/assumptions/13.md) (R82, R83, R84, R85 in part). (5.2 The profile table, 5.6 Commands, 5.3 What a profile gives) -/
def Obligations.ProfilesStored : Prop :=
  ∀ (s : State) (snd : Sender), below snd .operator = false → lockedOut s snd.cls = false →
    let reaches (n : Nat) (new : Option Profile) (t : State) : Prop :=
      let stored := ask snd (.profile n) { s with work := { s.work with profiles := s.work.profiles.set (n - 1) new } }
      let kept (m : Option Nat) : Option Nat := if m = some n then none else m
      let x : State := if new ≠ none then stored else { stored with sel := { s.sel with
        named := kept s.sel.named, req := s.sel.req.map (fun r => { r with named := kept r.named }) } }
      let cls := s.sel.settledCls.getD 0
      let back := lookup x s.sel.port 0
      let fits : Prop := ∃ p, new = some p ∧ p.fits s.sel.port cls = true
      let here : Prop := ∃ p, new = some p ∧ p.port = s.sel.port
      let any (q : Option Profile) : Prop := ∃ p, q = some p ∧ p.port = s.sel.port ∧ p.cls = none
      let tilt (q : Option Profile) : Option Bool := q.map Profile.autoTilt
      let again (y : State) : State := computation
        (if tilt (profileAt s n) = some false ∧ tilt new = some true then setImmediate y else y)
      let change (m : Option Nat) : State := computation (setImmediate (clearNudges { x with sel := { x.sel with active := m } }))
      let judged (y : State) : State := { y with sel := { y.sel with lossB := lossOf x back, muteLoss := lossOf x back == .blank } }
      (s.sel.active ≠ some n →
        (s.sel.st = .noSignal ∧ (any (profileAt s n) ∨ any new) → essence t = essence (judged x)) ∧
        (s.sel.st ≠ .noSignal ∨ ¬(any (profileAt s n) ∨ any new) → essence t = essence x)) ∧
      (s.sel.active = some n → s.sel.st = .settled →
        (fits → essence t = essence (again x)) ∧ (¬fits → essence t = essence (change (lookup x s.sel.port cls)))) ∧
      (s.sel.active = some n → s.sel.st ≠ .settled → ¬here → essence t = essence (judged (change back))) ∧
      (s.sel.active = some n → s.sel.st = .noSignal → here →
        (any (profileAt s n) ∨ any new → essence t = essence (judged (again x))) ∧
        (¬(any (profileAt s n) ∨ any new) → essence t = essence (again x))) ∧
      (s.sel.active = some n → s.sel.st = .switching ∨ s.sel.st = .scanning → here →
        (profileAt s n ≠ none ∧ tilt (profileAt s n) ≠ tilt new → essence t = essence (again x)) ∧
        (profileAt s n = none ∨ tilt (profileAt s n) = tilt new → essence t = essence x)) ∧
      (s.sel.active = some n ∧ s.sel.st = .settled ∧ ¬fits → placed s t [selectorNotice t]) ∧
      (s.sel.active ≠ some n ∨ s.sel.st ≠ .settled ∨ fits → placed s t [])
    (∀ w pairs n p, takesNow s snd (w :: pairs) = true → parseProfile (w :: pairs) s = some (n, p) → keyHolder s n p = none →
      profileAt s n ≠ some p →
      ∃ t, exec (.profile snd (w :: pairs)) s = .next (answer snd ⟨t, "OK" :: profinfoFields n t, 1, none⟩) ∧
        t.work = { s.work with profiles := s.work.profiles.set (n - 1) (some p) } ∧
        t.store = (ask snd (.profile n) { s with work := t.work }).store ∧
        (s.sel.st = .settled → s.sel.active ≠ some n → t.sel = s.sel ∧ t.geo = s.geo) ∧ reaches n (some p) t ∧
        sameBesidePicture s { t with work := s.work, store := s.store, wear := s.wear }) ∧
    (∀ w n q, parseNatIn 1 16 w = some n → profileAt s n = none →
      parseProfile [w, "PORT", showPort q] s = some (n,
        { port := q, cls := none, label := none, aspect := .r16x10, vTrim := 0, hTrim := 0, autoTilt := true, loss := .blank,
          rank := none })) ∧
    (∀ w n, takesNow s snd [w] = true → parseNatIn 1 16 w = some n → profileAt s n ≠ none →
      (∀ m bk, place s.work.bookings m = some bk → bk.source ≠ some n) →
      ∃ t, exec (.unprofile snd [w]) s = .next (answer snd ⟨t, ["OK", "PROFILE", showNat n, "EMPTY"], 1, none⟩) ∧
        t.work = { s.work with profiles := s.work.profiles.set (n - 1) none } ∧
        t.store = (ask snd (.profile n) { s with work := t.work }).store ∧
        t.sel.active ≠ some n ∧ t.sel.named ≠ some n ∧ reaches n none t ∧
        sameBesidePicture s { t with work := s.work, store := s.store, wear := s.wear }) ∧
    (∀ w v h n x y p, takesNow s snd [w, v, h] = true → parseNatIn 1 16 w = some n → parseInt v = some x → parseInt h = some y →
      profileAt s n = some p →
      let q := { p with vTrim := max (-40) (min 40 x), hTrim := max (-30) (min 30 y) }
      let fields := ["OK", "TRIM", showNat n, "V", showInt q.vTrim, "H", showInt q.hTrim]
      (q = p → ∃ t, exec (.trim snd [w, v, h]) s = .next (answer snd ⟨t, fields, 0, none⟩) ∧ essence t = essence s) ∧
      (q ≠ p → ∃ t, exec (.trim snd [w, v, h]) s = .next (answer snd ⟨t, fields, 1, none⟩) ∧
        t.work = { s.work with profiles := s.work.profiles.set (n - 1) (some q) } ∧
        t.store = (ask snd (.profile n) { s with work := t.work }).store ∧
        (s.sel.active = some n → q.fits s.sel.port (s.sel.settledCls.getD 0) = true →
          t.geo = (computation { s with work := t.work }).geo ∧ t.geo.vAdj = s.geo.vAdj ∧ t.geo.hAdj = s.geo.hAdj) ∧
        sameBesidePicture s { t with work := s.work, store := s.store, wear := s.wear }))

/-- For every profile table the scan list has no port twice, is at most eight long, holds a port exactly where a profile with a
rank has that port, and puts a port before another where some ranked profile of the first stands before every ranked profile
of the second, by rank and then by place number. Two tables with the same ports and ranks have the same list. An empty list
keeps a scan from beginning, and PROFINFO without an argument reports the list. The class of a profile plays no part. (R80) -/
def Obligations.ScanListOrder : Prop :=
  (∀ l : List (Option Profile),
    (scanListOf l).Nodup ∧ (scanListOf l).length ≤ 8 ∧
    (∀ p, p ∈ scanListOf l ↔ ∃ n q, place l n = some q ∧ q.port = p ∧ q.rank ≠ none) ∧
    (scanListOf l).Pairwise (fun p p' => ∃ n q r, place l n = some q ∧ q.port = p ∧ q.rank = some r ∧
      ∀ n' q' r', place l n' = some q' → q'.port = p' → q'.rank = some r' → r < r' ∨ (r = r' ∧ n < n'))) ∧
  (∀ l m : List (Option Profile),
    l.map (Option.map (fun p => (p.port, p.rank))) = m.map (Option.map (fun p => (p.port, p.rank))) →
      scanListOf l = scanListOf m) ∧
  (∀ s : State, scanList s = scanListOf s.work.profiles ∧ (scanList s = [] → scanReady s = false)) ∧
  (∀ (s : State) (snd : Sender), takesNow s snd [] = true →
    ∃ words, exec (.profinfoTable snd) s = .next (answer snd ⟨nextEvent s, ["OK", "PROFILES"] ++ words ++ ["SCAN"] ++
      (if scanListOf s.work.profiles = [] then ["NONE"] else (scanListOf s.work.profiles).map showPort), 0, none⟩))

/-- A SOURCE of a port, or of a filled place (its profile's port), taken at once from a sender above Viewer that is not locked
out: on the settled port, where it resolves to the active profile, only the named profile changes and the reply is SETTLED;
while a switch of a higher origin is in flight it is answered NO BUSY; otherwise the selector is Switching with the request
recorded with its origin and uptime, Loss removed, the class-change timer stopped and every run 0, and the reply is
SWITCHING. An empty place is answered NO NOTFOUND. Nothing else changes but what follows every event (R89, R90, R99 in part).
(6.1 What the selector holds, 6.3 Switch requests, 6.6 Commands) -/
def Obligations.SwitchRequested : Prop :=
  ∀ (s : State) (snd : Sender) (w : String), takesNow s snd [w] = true →
    below snd .presenter = false → lockedOut s snd.cls = false →
    (∀ n, parsePort w = none → parseNatIn 1 16 w = some n → profileAt s n = none →
      refusedWith (.source snd [w]) snd s "NOTFOUND") ∧
    ∀ (port : VPort) (named : Option Nat),
    ((parsePort w = some port ∧ named = none) ∨
      (∃ n p, parsePort w = none ∧ parseNatIn 1 16 w = some n ∧ profileAt s n = some p ∧ p.port = port ∧ named = some n)) →
    (s.sel.st = .settled → port = s.sel.port → resolved s port (s.sel.settledCls.getD 0) named = s.sel.active →
      acceptedAs (.source snd [w]) snd s (fun t => ["SETTLED", showPort port, "PROFILE", showOpt showNat t.sel.active]) 0
        { s with sel := { s.sel with named := named } }) ∧
    (∀ r, s.sel.st = .switching → s.sel.req = some r → (requestOrigin snd.cls).prio < r.origin.prio →
      refusedWith (.source snd [w]) snd s "BUSY") ∧
    ((s.sel.st = .settled → port = s.sel.port → resolved s port (s.sel.settledCls.getD 0) named ≠ s.sel.active) →
      (∀ r, s.sel.st = .switching → s.sel.req = some r → r.origin.prio ≤ (requestOrigin snd.cls).prio) →
      acceptedAs (.source snd [w]) snd s (fun _ => ["SWITCHING", showPort port, "REQ", match named with
          | some n => showNat n
          | none => "PORT"]) 0
        { s with sel := { s.sel with
            st := .switching, req := some ⟨port, named, requestOrigin snd.cls, s.uptime⟩, muteLoss := false, classTimer := none
            lockRun := ⟨0, 0⟩, lossRun := 0, classRun := ⟨0, 0⟩ } })

/-- Where a switch has two lockable samples of one class, SWITCH_LOCK settles the selector on the target port at that class, with
the request's named profile, no request and the runs at 0; the resolved profile becomes the active one. Where its 5 s have passed,
from a quiescent state, SWITCH_TIMEOUT leaves it in NoSignal on the target port with no class and no class before loss, the port's
ANY profile active, and Loss set where that profile blanks or there is none. A changed profile clears the nudges, sets the
immediate flag and makes a computation; at a lock an unchanged one makes a computation and keeps the nudges, and at a timeout it
leaves the geometry. Nothing changes beside the selector and the geometry but what follows every event (R90, R91 in part). (6.3
Switch requests, 6.2 Outputs and the mute) -/
def Obligations.SwitchEnds : Prop :=
  ∀ (s : State) (r : SwitchReq), s.sel.st = .switching → s.sel.req = some r →
    (2 ≤ s.sel.lockRun.count →
      ∃ t, exec .switchLock s = .next t ∧
        t.sel = { s.sel with
          st := .settled, port := r.port, settledCls := some s.sel.lockRun.cls, named := r.named, req := none
          active := resolved s r.port s.sel.lockRun.cls r.named, lockRun := ⟨0, 0⟩, lossRun := 0, classRun := ⟨0, 0⟩
          muteLoss := false } ∧
        (t.sel.active = s.sel.active → t.geo = (computation { s with sel := t.sel }).geo ∧
          t.geo.vAdj = s.geo.vAdj ∧ t.geo.hAdj = s.geo.hAdj) ∧
        (t.sel.active ≠ s.sel.active → t.geo = (computation (setImmediate (clearNudges { s with sel := t.sel }))).geo ∧
          t.geo.vAdj = 0 ∧ t.geo.hAdj = 0) ∧ sameBesidePicture s t) ∧
    (quiescent s = true → r.start + 5000 ≤ s.uptime →
      ∃ t, exec .switchTimeout s = .next t ∧
        t.sel = { s.sel with
          st := .noSignal, port := r.port, settledCls := none, beforeLoss := none, named := r.named, req := none
          active := lookup s r.port 0, noSigFrom := s.uptime, lockRun := ⟨0, 0⟩, lossRun := 0, classRun := ⟨0, 0⟩
          lossB := t.sel.lossB, muteLoss := t.sel.muteLoss } ∧
        (t.sel.muteLoss = true ↔ t.sel.lossB = .blank) ∧
        (lookup s r.port 0 = none → t.sel.lossB = .blank) ∧
        (∀ p, profileOf s (lookup s r.port 0) = some p → t.sel.lossB = p.loss) ∧
        (t.sel.active = s.sel.active → t.geo = s.geo) ∧
        (t.sel.active ≠ s.sel.active → t.geo = (computation (setImmediate (clearNudges { s with sel := t.sel }))).geo ∧
          t.geo.vAdj = 0 ∧ t.geo.hAdj = 0) ∧ sameBesidePicture s t)

/-- Where the loss run is 5, SIGNAL_LOSS leaves the selector in NoSignal on its port with its profile, the class before loss
taken from the settled class, and Loss set where the active profile blanks or there is none; the geometry is kept. Where the
class-change run is 2, CLASS_CHANGE makes its class the settled class, the resolved profile the active one, and starts the
class-change timer; after 1 s CLASS_CHANGE_TIMER_END stops it. Where the lock run in NoSignal is 2, NOSIGNAL_LOCK settles the
selector on its port at that class with Loss removed, and starts the class-change timer where the class before loss was another.
A changed profile clears the nudges, sets the immediate flag and makes a computation, and an unchanged one keeps the nudges; at
a class change it makes a computation too. That a lock in NoSignal with an unchanged profile makes none, whatever the class, is
the model's choice (notes/assumptions/15.md). Nothing else changes but what follows every event (R93, R94, R95 in part). (6.4
The settled source) -/
def Obligations.SettledSourceFollowed : Prop :=
  ∀ s : State,
    (s.sel.st = .settled → 5 ≤ s.sel.lossRun →
      ∃ t, exec .signalLoss s = .next t ∧
        t.sel = { s.sel with
          st := .noSignal, settledCls := none, beforeLoss := s.sel.settledCls, noSigFrom := s.uptime, lockRun := ⟨0, 0⟩
          lossRun := 0, classRun := ⟨0, 0⟩, lossB := t.sel.lossB, muteLoss := t.sel.muteLoss } ∧
        (t.sel.muteLoss = true ↔ t.sel.lossB = .blank) ∧ (s.sel.active = none → t.sel.lossB = .blank) ∧
        (∀ p, profileOf s s.sel.active = some p → t.sel.lossB = p.loss) ∧ t.geo = s.geo ∧ sameBesidePicture s t) ∧
    (s.sel.st = .settled → 2 ≤ s.sel.classRun.count →
      ∃ t, exec .classChange s = .next t ∧
        t.sel = { s.sel with
          settledCls := some s.sel.classRun.cls, classRun := ⟨0, 0⟩, classTimer := some s.uptime
          active := resolved s s.sel.port s.sel.classRun.cls s.sel.named } ∧
        (t.sel.active = s.sel.active → t.geo = (computation { s with sel := t.sel }).geo ∧
          t.geo.vAdj = s.geo.vAdj ∧ t.geo.hAdj = s.geo.hAdj) ∧
        (t.sel.active ≠ s.sel.active → t.geo = (computation (setImmediate (clearNudges { s with sel := t.sel }))).geo ∧
          t.geo.vAdj = 0 ∧ t.geo.hAdj = 0) ∧ sameBesidePicture s t) ∧
    (∀ u, quiescent s = true → s.sel.classTimer = some u → u + 1000 ≤ s.uptime →
      goesTo .classChangeTimerEnd s { s with sel := { s.sel with classTimer := none } }) ∧
    (s.sel.st = .noSignal → 2 ≤ s.sel.lockRun.count →
      ∃ t, exec .nosignalLock s = .next t ∧
        t.sel = { s.sel with
          st := .settled, settledCls := some s.sel.lockRun.cls, req := none, lockRun := ⟨0, 0⟩, lossRun := 0
          classRun := ⟨0, 0⟩, muteLoss := false
          active := resolved s s.sel.port s.sel.lockRun.cls s.sel.named
          classTimer := if s.sel.beforeLoss = none ∨ s.sel.beforeLoss = some s.sel.lockRun.cls then s.sel.classTimer
            else some s.uptime } ∧
        (t.sel.active = s.sel.active → t.geo = s.geo) ∧
        (t.sel.active ≠ s.sel.active → t.geo = (computation (setImmediate (clearNudges { s with sel := t.sel }))).geo ∧
          t.geo.vAdj = 0 ∧ t.geo.hAdj = 0) ∧ sameBesidePicture s t)

/-- From a quiescent state 10 s into NoSignal, with AUTOSCAN ON, a port in the scan list and no EXAM occurrence Running,
SCAN_START begins a dwell on the first port of the list. Where a dwell has two lockable samples of one class, DWELL_LOCK
settles the selector on the dwell port with no named profile and the lookup's profile active. From a quiescent state in which
a dwell of 3 s has ended, DWELL_END begins a dwell on the port that follows in the list, the first again after the last, or,
where the list is empty, returns to NoSignal with its timer at 0. That a dwell's lock with an unchanged profile makes no
computation is the model's choice (notes/assumptions/15.md). Nothing changes beside the selector and the geometry but
what follows every event (R96, R97 in part). (6.5 Scanning) -/
def Obligations.ScansRun : Prop :=
  ∀ s : State,
    (∀ p, quiescent s = true → s.sel.st = .noSignal → s.sel.noSigFrom + 10000 ≤ s.uptime → s.work.settings.autoscan = true →
      examRunning s = false → (scanList s).head? = some p →
      goesTo .scanStart s { s with sel := { s.sel with st := .scanning, scanPort := p, dwellFrom := s.uptime, lockRun := ⟨0, 0⟩ } }) ∧
    (s.sel.st = .scanning → 2 ≤ s.sel.lockRun.count →
      ∃ t, exec .dwellLock s = .next t ∧
        t.sel = { s.sel with
          st := .settled, port := s.sel.scanPort, settledCls := some s.sel.lockRun.cls, named := none, req := none
          active := lookup s s.sel.scanPort s.sel.lockRun.cls, lockRun := ⟨0, 0⟩, lossRun := 0, classRun := ⟨0, 0⟩
          muteLoss := false } ∧
        (t.sel.active = s.sel.active → t.geo = s.geo) ∧
        (t.sel.active ≠ s.sel.active → t.geo.vAdj = 0 ∧ t.geo.hAdj = 0) ∧ sameBesidePicture s t) ∧
    (quiescent s = true → s.sel.st = .scanning → s.sel.dwellFrom + 3000 ≤ s.uptime →
      (∀ p, (portAfter s.sel.scanPort (scanList s)).or (scanList s).head? = some p →
        goesTo .dwellEnd s { s with sel := { s.sel with scanPort := p, dwellFrom := s.uptime, lockRun := ⟨0, 0⟩ } }) ∧
      (scanList s = [] →
        goesTo .dwellEnd s { s with sel := { s.sel with st := .noSignal, noSigFrom := s.uptime, lockRun := ⟨0, 0⟩ } }))

/-- MUTE ON and OFF from a sender above Viewer, outside Maintenance or from Facility, set and remove the User cause, and the reply
gives the causes in force. A NUDGE from a sender above Viewer that is not locked out adds its two numbers to V adj and H adj, each
kept within -10..10, and makes a computation. LIMITS from a Facility sender, with V of 0..40 and H of 0..30, writes new limits and
makes a computation, and equal limits make a computation without a write. Nothing else changes but what follows every event. That
equal limits make a computation and no write (notes/assumptions/26.md), and the form of the numbers (notes/assumptions/13.md), are
the model's reading (R98, R114, R115 in part). (6.6 Commands, 7.4 The totals, 7.7 Commands) -/
def Obligations.MuteNudgeAndLimits : Prop :=
  ∀ (s : State) (snd : Sender), below snd .presenter = false →
    (takesNow s snd [] = true → (snd.cls = .facility ∨ lockLevel s ≠ .maintenance) →
      acceptedAs (.muteOn snd) snd s (fun t => ["MUTE", "ON", "CAUSES"] ++ muteWords t) 0
        { s with sel := { s.sel with muteUser := true } } ∧
      acceptedAs (.muteOff snd) snd s (fun t => ["MUTE", "OFF", "CAUSES"] ++ muteWords t) 0
        { s with sel := { s.sel with muteUser := false } }) ∧
    (∀ v h x y, takesNow s snd [v, h] = true → parseInt v = some x → parseInt h = some y → lockedOut s snd.cls = false →
      acceptedAs (.nudge snd [v, h]) snd s (fun t =>
          ["NUDGE", "VADJ", showInt t.geo.vAdj, "HADJ", showInt t.geo.hAdj, "V", showInt t.geo.v, "H", showInt t.geo.h, "SCALE",
           showNat (scaleOf t.geo.v t.geo.h)]) 0
        (computation { s with geo := { s.geo with
          vAdj := max (-10) (min 10 (s.geo.vAdj + x)), hAdj := max (-10) (min 10 (s.geo.hAdj + y)) } })) ∧
    (∀ v h x y, takesNow s snd [v, h] = true → parseNatIn 0 40 v = some x → parseNatIn 0 30 h = some y →
      below snd .facility = false →
      (s.work.limV = x ∧ s.work.limH = y →
        acceptedAs (.limits snd [v, h]) snd s (fun _ => ["LIMITS", "V", showNat x, "H", showNat y]) 0 (computation s)) ∧
      (¬(s.work.limV = x ∧ s.work.limH = y) →
        acceptedAs (.limits snd [v, h]) snd s (fun _ => ["LIMITS", "V", showNat x, "H", showNat y]) 1
          (computation (ask snd .limits { s with work := { s.work with limV := x, limH := y } }))))

/-- From a quiescent state, a tilt read of -450..450 tenths joins the ring in place of its oldest entry, sets the invalid run to
0 and ends TiltInvalid; any other read, or none, joins it as invalid and adds 1 to the invalid run, up to 20. Where the run
has reached 20 and TiltInvalid is not on, TILT_INVALID begins it. Nothing else changes but what follows every event (R104,
R105 in part). (7.2 The tilt sensor) -/
def Obligations.TiltReadsJoinRing : Prop :=
  ∀ s : State,
    (∀ x : Int, quiescent s = true → -450 ≤ x → x ≤ 450 →
      goesTo (.tiltRead (some x)) s { s with geo := { s.geo with
        ring := s.geo.ring.tail ++ (if s.geo.ring = [] then [] else [some x]), invalidRun := 0, tiltInvalid := false } }) ∧
    (∀ r : Option Int, quiescent s = true → (∀ x, r = some x → x < -450 ∨ 450 < x) →
      goesTo (.tiltRead r) s { s with geo := { s.geo with
        ring := s.geo.ring.tail ++ (if s.geo.ring = [] then [] else [none]), invalidRun := min 20 (s.geo.invalidRun + 1) } }) ∧
    (20 ≤ s.geo.invalidRun → s.geo.tiltInvalid = false →
      goesTo .tiltInvalid s { s with geo := { s.geo with tiltInvalid := true } })

/-- The candidate computation gives no value where an entry of the ring is invalid, and otherwise the sum of four readings,
negated under CEILING, divided by 30 and rounded to the nearest whole number with a half away from zero. From a quiescent
state at a second boundary, CADENCE_COMPUTATION with auto-tilt OFF makes the applied A 0 and clears the candidate, count and
immediate flag; with the immediate flag set it applies a value that is there and clears the flag; otherwise a skipped or
equal value clears the candidate and count, the candidate's value adds 1 to the count, up to 3, and another becomes the
candidate with count 1, the applied A unchanged. At count 3 AUTO_TILT_CONFIRM applies the candidate and clears it. Nothing
changes beside the geometry but what follows every event (R106, R107, R108, R109 in part). (7.3 The auto-tilt term, 7.4 The
totals) -/
def Obligations.CadenceStabilises : Prop :=
  ∀ s : State,
    (∀ w x y z : Option Int, s.geo.ring = [w, x, y, z] →
      (w = none ∨ x = none ∨ y = none ∨ z = none → candidate s = none) ∧
      ∀ a b c d, w = some a → x = some b → y = some c → z = some d →
        let sum : Int := if s.work.settings.mount = .ceiling then -(a + b + c + d) else a + b + c + d
        ∃ m, candidate s = some m ∧ -30 ≤ 2 * (sum - 30 * m) ∧ 2 * (sum - 30 * m) ≤ 30 ∧
          (2 * (sum - 30 * m) = 30 → sum < 0) ∧ (2 * (sum - 30 * m) = -30 → 0 < sum)) ∧
    (quiescent s = true → (s.cadenceDone + 1) * 1000 ≤ s.uptime →
      ∃ t, exec .cadenceComputation s = .next t ∧ t.cadenceDone = s.cadenceDone + 1 ∧
        (autoTiltOn s = false → t.geo.applied = 0 ∧ t.geo.cand = none ∧ t.geo.agree = 0 ∧ t.geo.imm = false) ∧
        (autoTiltOn s = true → s.geo.imm = true →
          (candidate s = none → t.geo.applied = s.geo.applied ∧ t.geo.imm = true) ∧
          (∀ x, candidate s = some x → t.geo.applied = x ∧ t.geo.imm = false)) ∧
        (autoTiltOn s = true → s.geo.imm = false →
          t.geo.applied = s.geo.applied ∧
          (candidate s = none ∨ candidate s = some s.geo.applied → t.geo.cand = none ∧ t.geo.agree = 0) ∧
          (∀ x, candidate s = some x → x ≠ s.geo.applied → t.geo.cand = some x ∧
            t.geo.agree = if s.geo.cand = some x then min 3 (s.geo.agree + 1) else 1)) ∧
        t.geo.vAdj = s.geo.vAdj ∧ t.geo.hAdj = s.geo.hAdj ∧
        essence { t with geo := s.geo, cadenceDone := s.cadenceDone } = essence s) ∧
    (∀ x, 3 ≤ s.geo.agree → s.geo.cand = some x →
      goesTo .autoTiltConfirm s
        (handOver (totals { s with geo := { s.geo with applied := x, cand := none, agree := 0 } })))

/-- After any computation the corners follow its totals: dv is 8 x |V| and dh is 6 x |H|, with limits of at most 40 and 30 steps
in 0..320 and 0..180; the sign of V narrows the top or the bottom edge, the sign of H shortens the right or the left side,
and the other corners are at the panel edge; the aspect is the active profile's or 16:10. The set is in flight, next in turn,
or already applied. The scale is the floor of 1000 times the smaller of narrowest width / 1920 and shortest height / 1200,
the narrowest width and shortest height are those of the inset edges counted inclusively; it is 1000 with no correction, 666
at dv 320 with dh at most 180, 700 at dh 180 with no dv, and it stands in the GEOINFO and NUDGE replies and not in the corner
set. (R110, R111) -/
def Obligations.CornersAndScale : Prop :=
  ∀ s : State, s.work.limV ≤ 40 → s.work.limH ≤ 30 →
    let t := computation s
    let c := t.geo.computed
    let dv : Int := 8 * |t.geo.v|
    let dh : Int := 6 * |t.geo.h|
    let width : Int := 1920 - 2 * dv
    let height : Int := 1200 - 2 * dh
    let scale : Int := scaleOf t.geo.v t.geo.h
    (0 ≤ dv ∧ dv ≤ 320 ∧ 0 ≤ dh ∧ dh ≤ 180) ∧
    (0 < t.geo.v → c.tlX = dv ∧ c.trX = 1919 - dv ∧ c.blX = 0 ∧ c.brX = 1919 ∧ width = c.trX - c.tlX + 1) ∧
    (t.geo.v < 0 → c.blX = dv ∧ c.brX = 1919 - dv ∧ c.tlX = 0 ∧ c.trX = 1919 ∧ width = c.brX - c.blX + 1) ∧
    (t.geo.v = 0 → c.tlX = 0 ∧ c.blX = 0 ∧ c.trX = 1919 ∧ c.brX = 1919) ∧
    (0 < t.geo.h → c.trY = dh ∧ c.brY = 1199 - dh ∧ c.tlY = 0 ∧ c.blY = 1199 ∧ height = c.brY - c.trY + 1) ∧
    (t.geo.h < 0 → c.tlY = dh ∧ c.blY = 1199 - dh ∧ c.trY = 0 ∧ c.brY = 1199 ∧ height = c.blY - c.tlY + 1) ∧
    (t.geo.h = 0 → c.tlY = 0 ∧ c.trY = 0 ∧ c.blY = 1199 ∧ c.brY = 1199) ∧
    (profileOf s s.sel.active = none → c.aspect = .r16x10) ∧
    (∀ p, profileOf s s.sel.active = some p → c.aspect = p.aspect) ∧
    ((∃ u, t.geo.inFlight = some (c, u)) ∨ (t.geo.inFlight ≠ none ∧ t.geo.nextSlot = some c) ∨ t.geo.appliedSet = some c) ∧
    (scale * 1920 ≤ 1000 * width ∧ scale * 1200 ≤ 1000 * height ∧
      (1000 * width < (scale + 1) * 1920 ∨ 1000 * height < (scale + 1) * 1200)) ∧
    (t.geo.v = 0 → t.geo.h = 0 → scale = 1000) ∧ (dv = 320 → scale = 666) ∧ (dv = 0 → dh = 180 → scale = 700) ∧
    666 ≤ scale ∧
    ["SCALE", showNat (scaleOf t.geo.v t.geo.h)] <:+ nudgeFields t ∧
    ["SCALE", showNat (scaleOf t.geo.v t.geo.h)] <:+: geoinfoFields t

/-- From a quiescent state with a set in flight, WARP READY makes it the applied set, ends WarpNoReply, and sends a set that
waits in the next slot with a new reply window; with no set in flight it changes nothing. Where 200 ms have passed since a
set was sent, WARP_REPLY_WINDOW_END drops it and begins WarpNoReply. Nothing else changes but what follows every event (R113
in part). (7.6 The warp link) -/
def Obligations.WarpLinkAnswers : Prop :=
  ∀ s : State, quiescent s = true →
    (s.geo.inFlight = none → goesTo .warpReady s s) ∧
    (∀ c u, s.geo.inFlight = some (c, u) →
      goesTo .warpReady s { s with geo := { s.geo with
        appliedSet := some c, warpNoReply := false, nextSlot := none
        inFlight := s.geo.nextSlot.map (fun n => (n, s.uptime)) } } ∧
      (u + 200 ≤ s.uptime →
        goesTo .warpReplyWindowEnd s { s with geo := { s.geo with inFlight := none, warpNoReply := true } }))

/-- A SETCLOCK with a date and a time, taken at once from an Operator or Facility sender that is not locked out, is accepted with
the clock's fields: the clock has that date and time, no minute edge and no end of the clock is due, and no occurrence is
remembered as the last ended, but a record that was kept in Grace and ended by another booking's Running. With an empty booking
table, no exceptions and no record, nothing else changes but what follows every event. From a quiescent state, a clock that has
passed its last second becomes absent by CLOCK_END: no record is active or upcoming, none is remembered, and, outside
Maintenance, the demand is 0 where a record was there; where none was, nothing outside the Schedule Engine changes but what
follows every event. That a record kept in Grace so ends, and that the clock's end leaves no last ended occurrence, retires no
booking, and makes its drop only where a record was there, is the model's reading (notes/assumptions/18.md) (R121, R122, R148 in
part). (8.1 The hall clock, 9.6 Maintenance, clock changes and restart) -/
def Obligations.ClockSetAndEnd : Prop :=
  ∀ s : State,
    (∀ (snd : Sender) (d t : String) (x y : Nat), takesNow s snd [d, t] = true → parseDate d = some x → parseTime t = some y →
      below snd .operator = false → lockedOut s snd.cls = false →
      ∃ u, exec (.setclock snd [d, t]) s = .next (answer snd
          ⟨u, ["OK", "CLOCK", showDate x, showTime y, "WEEKDAY", showWeekday (weekdayOf x)], 0, none⟩) ∧
        u.sched.clock = some ⟨x, y⟩ ∧ u.sched.minuteDue = false ∧ u.sched.endDue = false ∧
        (u.sched.lastEnded = none ∨ ∃ o, s.sched.active = some o ∧ o.phase = .grace ∧
          u.sched.lastEnded = some (o.booking, o.date)) ∧
        ((∀ n, place s.work.bookings n = none) → s.work.exceptions = [] → s.sched.active = none → s.sched.upcoming = none →
          essence u = essence { s with sched := { s.sched with
            clock := some ⟨x, y⟩, minuteDue := false, endDue := false, lastEnded := none } })) ∧
    (quiescent s = true → s.sched.endDue = true → s.sched.clock ≠ none →
      ∃ u, exec .clockEnd s = .next u ∧ u.sched.clock = none ∧ u.sched.active = none ∧ u.sched.upcoming = none ∧
        u.sched.lastEnded = none ∧ u.sched.endDue = false ∧ u.work = s.work ∧
        (s.sched.active ≠ none ∨ s.sched.upcoming ≠ none → s.lock.maint = false → u.lamp.count = 0) ∧
        (s.sched.active = none → s.sched.upcoming = none → essence u = essence { s with sched := { s.sched with
          clock := none, minuteDue := false, endDue := false, lastEnded := none } }))

/-- From a quiescent state, outside Maintenance, at a minute edge of a set clock. With no bookings, exceptions or records, only
the edge is taken. With no record, the bookings that lie wholly in the past are retired with their exceptions and their writes
asked for, and so are past exceptions; every other stays. Where booking n alone has an occurrence Running at the clock, and the
active record is empty, at its end, or in Grace, it is the active record in Running, with the flags of its Prewarm record, and
an active record before it is the last ended, without a drop (back to back). The schedule raises the demand to the booking's
count, or the plan's, where no Prewarm has; the booking's mode and source are requested, the source in each state of the
selector with origin SCHEDULE, and the unlocked flag, the nudges and the User mute are cleared. The late flag is set where the
edge is not that of its start or a wanted bay is held back. Where a booking alone has its Prewarm then, and no record is filled,
it is the upcoming record, and the demand is raised. Where the Running record has reached its end, its Grace is not over and no
other occurrence is Running, the record is in Grace with its times kept and the unlocked flag is cleared. Where the Grace is
over, no other is in its Prewarm or Running window and none is upcoming, no record is active, it is the last ended, its ONCE
booking is retired, and the demand is 0. A Running record whose end and Grace are both over, as with a grace of 0, passes
through Grace and so ends at once. Each places the BOOKING notices of its phases and the LOCK notice of a change of level, in
the model's order (notes/assumptions/7.md). Their words are presumed (notes/assumptions/17.md), a Grace end at 1440 is 00:00+1
by the model's choice (notes/assumptions/34.md), and the bays of a raise (notes/assumptions/16.md) and the retirement at a
record's end (notes/assumptions/18.md) follow its reading (R133, R138 to R144 in part). (9.2 Evaluations, 9.3 Phase entry
actions, 9.4 Back to back, 8.3 Occurrences and their windows, 8.7 Retirement) -/
def Obligations.MinuteEdgePhases : Prop :=
  ∀ (s : State) (c : HallClock), quiescent s = true → s.sched.clock = some c → s.sched.minuteDue = true → s.lock.maint = false →
    let raised (n : Nat) (t : State) : Prop :=
      t.lamp.count = max s.lamp.count n ∧ t.lamp.origin = (if n ≤ s.lamp.count then s.lamp.origin else .schedule) ∧
        (n ≤ s.lamp.count → t.lamp.wanted = s.lamp.wanted) ∧
        (s.lamp.count < n → rightChoice { s with lamp := { s.lamp with count := n } } t.lamp.wanted)
    let count (bk : Booking) : Nat := bk.lamps.getD (if s.work.settings.plan = .single then 1 else 2)
    ((∀ n, place s.work.bookings n = none) → s.work.exceptions = [] → s.sched.active = none → s.sched.upcoming = none →
      goesTo .minuteEdge s { s with sched := { s.sched with minuteDue := false } }) ∧
    (s.sched.active = none → s.sched.upcoming = none →
      let past (bk : Booking) : Prop := match bk.dates with
        | .once d => minuteAbs d bk.stop ≤ c.abs
        | .weekly _ _ (some u) => u < c.date
        | .weekly _ _ none => False
      ∃ t, exec .minuteEdge s = .next t ∧
        (∀ n bk, place s.work.bookings n = some bk →
          (past bk → place t.work.bookings n = none ∧ (writeWaits t (.booking n) = true ∨
            ∃ j, t.store.busy = some j ∧ j.key = .booking n ∧ place j.snap.bookings n = none)) ∧
          (¬past bk → place t.work.bookings n = some bk)) ∧
        (∀ n, place s.work.bookings n = none → place t.work.bookings n = none) ∧
        (∀ e, e ∈ t.work.exceptions ↔ e ∈ s.work.exceptions ∧ c.date ≤ e.date ∧
          ∀ bk, place s.work.bookings e.booking = some bk → ¬past bk)) ∧
    (∀ n bk, otherRunning s c.date c.abs = [(n, bk)] → (s.sched.active = none → s.sched.lastEnded ≠ some (n, c.date)) →
      (∀ o, s.sched.active = some o → o.phase = .grace ∨ (o.phase = .running ∧ minuteAbs o.date o.stop ≤ c.abs)) →
      (∀ u, s.sched.upcoming = some u →
        u.booking = n ∧ u.date = c.date ∧ u.start = bk.start ∧ u.stop = bk.stop ∧ u.grace = bk.grace ∧ u.late = false) →
      let had : Bool := (s.sched.upcoming.map Occ.raised).getD false
      let ended : List Notice := match s.sched.active with
        | some o => [bookingNotice .active o ["END"]]
        | none => []
      ∃ t o, exec .minuteEdge s = .next t ∧ t.sched.active = some o ∧ o.booking = n ∧ o.date = c.date ∧ o.start = bk.start ∧
        o.stop = bk.stop ∧ o.grace = bk.grace ∧ o.phase = .running ∧
        (o.raised = true ↔ had = true ∨ s.heat.level ≠ .shutdown) ∧ (c.secs ≠ bk.start * 60 → o.late = true) ∧
        t.sched.lastEnded = (match s.sched.active with
          | some x => some (x.booking, x.date)
          | none => s.sched.lastEnded) ∧
        (t.sched.upcoming = none →
          (o.late = true ↔ c.secs ≠ bk.start * 60 ∨ (0 < t.lamp.count ∧ ∃ b, t.lamp.wanted.get b = true ∧
            ((bay s b).st = .cooling ∨ (bay s b).st = .rest ∨
              ((bay s b).st = .dark ∧ (4 ≤ (bay s b).strikes.length ∨ holdoffOver s b = false))))) ∧
          (had = false → s.heat.level ≠ .shutdown → raised (count bk) t) ∧
          (had = true ∨ s.heat.level = .shutdown → t.lamp.count = s.lamp.count ∧ t.lamp.wanted = s.lamp.wanted)) ∧
        t.mode.requested = bk.mode.getD s.mode.requested ∧ t.lock.unlocked = false ∧ t.sel.muteUser = false ∧
        t.geo.vAdj = 0 ∧ t.geo.hAdj = 0 ∧
        selAtEntry s bk t.sel ∧
        placed s t (ended ++ [runningNoticeOf o] ++ begunNotice s t ++ levelNotice s t)) ∧
    (∀ n bk, s.sched.active = none → s.sched.upcoming = none → otherRunning s c.date c.abs = [] →
      prewarmHolding s c.date c.abs = [(n, bk)] →
      ∃ t, exec .minuteEdge s = .next t ∧ t.sched.active = none ∧ t.sched.lastEnded = s.sched.lastEnded ∧
        t.sched.upcoming = some
          { booking := n, date := c.date, start := bk.start, stop := bk.stop, grace := bk.grace, phase := .prewarm
            raised := decide (s.heat.level ≠ .shutdown), late := false } ∧
        (s.heat.level ≠ .shutdown → raised (count bk) t) ∧ (s.heat.level = .shutdown → t.lamp.count = s.lamp.count) ∧
        t.mode.requested = s.mode.requested ∧ t.lock = s.lock ∧ t.geo = s.geo ∧ placed s t (begunNotice s t)) ∧
    (∀ o, s.sched.active = some o → o.phase = .running → minuteAbs o.date o.stop ≤ c.abs →
      c.abs < minuteAbs o.date (o.stop + o.grace) → otherRunning s c.date c.abs = [] →
      ∃ t, exec .minuteEdge s = .next t ∧ t.sched.active = some { o with phase := .grace } ∧ t.lock.unlocked = false ∧
        t.sched.lastEnded = s.sched.lastEnded ∧ t.mode.requested = s.mode.requested ∧
        placed s t ([graceNotice o] ++ begunNotice s t ++ levelNotice s t)) ∧
    (∀ o, s.sched.active = some o → o.phase = .grace → minuteAbs o.date (o.stop + o.grace) ≤ c.abs → s.sched.upcoming = none →
      (∀ m bk, place s.work.bookings m = some bk → occurs s m bk c.date = true →
        windowHolds c.date (bk.start - s.work.settings.prewarm) bk.stop c.abs = true → o.booking = m ∧ o.date = c.date) →
      ∃ t, exec .minuteEdge s = .next t ∧ t.sched.active = none ∧ t.sched.lastEnded = some (o.booking, o.date) ∧
        (∀ bk, place s.work.bookings o.booking = some bk → bk.dates = .once o.date →
          place t.work.bookings o.booking = none) ∧
        t.lamp.count = 0 ∧ (s.lamp.count ≠ 0 → t.lamp.origin = .schedule) ∧ placed s t [bookingNotice .active o ["END"]]) ∧
    (∀ o, s.sched.active = some o → o.phase = .running → minuteAbs o.date (o.stop + o.grace) ≤ c.abs → s.sched.upcoming = none →
      (∀ m bk, place s.work.bookings m = some bk → occurs s m bk c.date = true →
        windowHolds c.date (bk.start - s.work.settings.prewarm) bk.stop c.abs = true → o.booking = m ∧ o.date = c.date) →
      ∃ t, exec .minuteEdge s = .next t ∧ t.sched.active = none ∧ t.sched.upcoming = none ∧
        t.sched.lastEnded = some (o.booking, o.date) ∧
        (∀ bk, place s.work.bookings o.booking = some bk → bk.dates = .once o.date →
          place t.work.bookings o.booking = none) ∧
        t.lock.unlocked = false ∧ t.mode.requested = s.mode.requested ∧
        t.lamp.count = 0 ∧ (s.lamp.count ≠ 0 → t.lamp.origin = .schedule) ∧
        placed s t ([graceNotice o, bookingNotice .active o ["END"]] ++ levelNotice s t))

/-- With a set clock and an active record, from a sender of the class that is not locked out, taken at once: EXTEND of 1 to 60
minutes puts the end of a Running record that many minutes later, and that of a Grace one that many minutes after the next minute,
Running again, where the new end is not past 24:00 and no other booking starts before it; ENDNOW of a record not in Grace puts its
end at the current minute and, where its grace is above 0, leaves it in Grace, with the unlocked flag cleared outside Maintenance,
and otherwise ends it with the schedule's drop; ENDNOW of a Grace ends the record and makes that drop. Each places its BOOKING
notices, ENDNOW none under Maintenance, and the LOCK notice of a change of level. Nothing else changes but what follows every
event, beside the lamps for the drops. (That ENDNOW writes the minute at which the grace ends modulo 1440, counts it from the
record's own date, and ends a grace of 0 in the same step, is the model's reading, notes/assumptions/18.md.) From a quiescent
state with no record filled, whose idle timer has reached the limit, IDLE_AUTO_OFF drops the demand with origin IDLE, clears the
unlocked flag and sets the timer to 0; no clock is needed. That an EXTEND leaves a flag that UNLOCK set in Grace is the model's
choice (notes/assumptions/35.md), and so are the order of a LOCK and a BOOKING notice, first at EXTEND and last at ENDNOW
(notes/assumptions/7.md), and a Grace end at minute 1440 written 00:00+1 (notes/assumptions/34.md); the words of the notices are
presumed (notes/assumptions/17.md) (R145, R146, R151 in part). (9.5 Running over and stopping early, 9.7 Idle auto-off) -/
def Obligations.ExtendEndnowAndIdleOff : Prop :=
  (∀ (s : State) (snd : Sender) (c : HallClock) (o : Occ), lockedOut s snd.cls = false → s.sched.clock = some c →
    s.sched.active = some o →
    let now : Nat := c.abs / 60 - o.date * 1440
    (∀ w m, takesNow s snd [w] = true → parseNatIn 1 60 w = some m → below snd .presenter = false →
      let e := if o.phase = .grace then now + 1 + m else o.stop + m
      let o' : Occ := { o with stop := e, phase := .running }
      e ≤ 1440 → extendConflict s o e = none →
      ∃ t, exec (.extend snd [w]) s = .next (answer snd
          ⟨t, ["OK", "EXTEND", showNat o.booking, "END", showMinute e], 0, none⟩) ∧
        t.sched.active = some o' ∧ essence t = essence { s with sched := { s.sched with active := some o' } } ∧
        placed s t (levelNotice s t ++ [runningNoticeOf o'])) ∧
    (takesNow s snd [] = true → below snd .operator = false →
      (o.phase ≠ .grace →
        ∃ t, exec (.endnow snd []) s = .next (answer snd
            ⟨t, ["OK", "ENDNOW", showNat o.booking, "GRACE", "UNTIL", showMinute ((now + o.grace) % 1440)], 0, none⟩) ∧
          t.lock = (if s.lock.maint = true then s.lock else { s.lock with unlocked := false, unlockedBy := none }) ∧
          (0 < o.grace →
            t.sched.active = some { o with stop := now, phase := .grace } ∧
            essence t = essence { s with sched := { s.sched with active := t.sched.active }, lock := t.lock } ∧
            placed s t ((if s.lock.maint = true then [] else [graceNotice { o with stop := now }]) ++ levelNotice s t)) ∧
          (o.grace = 0 →
            t.sched.active = none ∧ t.sched.lastEnded = some (o.booking, o.date) ∧ t.sched.upcoming = s.sched.upcoming ∧
            (s.sched.upcoming = none → s.lock.maint = false → t.lamp.count = 0) ∧
            placed s t ((if s.lock.maint = true then [] else
              [graceNotice { o with stop := now }, bookingNotice .active o ["END"]]) ++ levelNotice s t))) ∧
      (o.phase = .grace →
        ∃ t, exec (.endnow snd []) s = .next (answer snd ⟨t, ["OK", "ENDNOW", showNat o.booking, "END"], 0, none⟩) ∧
          t.sched.active = none ∧ t.sched.lastEnded = some (o.booking, o.date) ∧ t.sched.upcoming = s.sched.upcoming ∧
          (s.sched.upcoming = none → s.lock.maint = false → t.lamp.count = 0) ∧
          (s.sched.upcoming ≠ none ∨ s.lock.maint = true → t.lamp.count = s.lamp.count ∧ t.lamp.origin = s.lamp.origin ∧
            t.lamp.wanted = s.lamp.wanted) ∧ t.lock = s.lock ∧
          placed s t (if s.lock.maint = true then [] else [bookingNotice .active o ["END"]])))) ∧
  ∀ s : State, quiescent s = true → s.sched.active = none → s.sched.upcoming = none →
    s.work.settings.idle * 60 ≤ s.sched.idle → 0 < s.sched.idle →
    ∃ t, exec .idleAutoOff s = .next t ∧ t.sched.idle = 0 ∧ t.lamp.count = 0 ∧
      (s.lamp.count ≠ 0 → t.lamp.origin = .idle ∧ t.lamp.wanted = .both false) ∧ t.lock.unlocked = false ∧
      essence t = essence (clearUnlocked (drop .idle s)) ∧ placed s t []

/-- From an Operator or Facility sender that is not locked out, taken at once, with an unset clock: a well-formed BOOK with no
reference missing and no conflict takes the lowest empty place; a REBOOK that changes a filled place which no record holds in
Prewarm or Running, and has no reference missing and no conflict, replaces its record, and the exceptions that no longer name an
occurrence of it leave the list, counted in the reply; an UNBOOK of a filled place that no record holds empties it with its
exceptions. Each asks for its writes before the reply, and nothing changes beside the bookings, the exceptions and the store but
what follows every event. With a set clock a BOOK or a REBOOK that is also not past is accepted in the same way, with its record
in its place where no record names it; a REBOOK to the record held makes no write. An UNBOOK of a place that the record in Grace
names ends that record, with its END notice and the schedule's drop, and then empties the place and asks for its writes, so that
with an idle store the write of a lamp with unsaved seconds that the drop puts out is started before them. That the END notice
carries no time is presumed (notes/assumptions/17.md), and that UNBOOK's writes stand for the retirement at the record's end is
the model's reading (notes/assumptions/18.md) (R128, R129, R130 in part). (8.2 Bookings, 8.5 Booking commands) -/
def Obligations.BookingsStored : Prop :=
  ∀ (s : State) (snd : Sender), below snd .operator = false → lockedOut s snd.cls = false →
    (∀ args bk n, takesNow s snd args = true → parseBook args s = some bk → firstEmpty 1 s.work.bookings = some n →
      refsFound s bk = true → pastNow s bk = false → conflict s n bk = none → unnamed s n = true →
      ∃ t, exec (.book snd args) s = .next (answer snd ⟨t, ["OK", "BOOK", showNat n], 1, none⟩) ∧
        place t.work.bookings n = some bk ∧
        (s.sched.clock = none →
          t.work = { s.work with bookings := s.work.bookings.set (n - 1) (some bk) } ∧
          t.store = (ask snd (.booking n) { s with work := t.work }).store ∧ sameBesideBookings s t)) ∧
    (∀ args n old bk, takesNow s snd args = true → parseRebook args s = some (n, some bk) →
      place s.work.bookings n = some old → bookingBusy s n = false → refsFound s bk = true → pastNow s bk = false →
      conflict s n bk = none →
      let keeps (e : Exc) : Bool := e.booking != n || (bk.dates.isWeekly && bk.dates.onDate e.date)
      let kept := s.work.exceptions.filter keeps
      ∃ t, exec (.rebook snd args) s = .next (answer snd
          ⟨t, ["OK", "BOOK", showNat n, "DROPPED",
               showNat (if bk = old then 0 else s.work.exceptions.length - kept.length)], if bk = old then 0 else 2, none⟩) ∧
        (unnamed s n = true → place t.work.bookings n = some bk) ∧
        (bk ≠ old → ∀ e ∈ t.work.exceptions, e ∈ kept) ∧
        (s.sched.clock = none →
          (bk = old → essence t = essence s) ∧
          (bk ≠ old →
            t.work = { s.work with bookings := s.work.bookings.set (n - 1) (some bk), exceptions := kept } ∧
            t.store = (ask snd .exceptions (ask snd (.booking n) { s with work := t.work })).store ∧ sameBesideBookings s t))) ∧
    (∀ w n, takesNow s snd [w] = true → parseNatIn 1 48 w = some n → place s.work.bookings n ≠ none →
      let left := s.work.exceptions.filter (fun e => e.booking != n)
      let fields := ["OK", "UNBOOK", showNat n, "SKIPS", showNat (s.work.exceptions.length - left.length)]
      (unnamed s n = true →
        ∃ t, exec (.unbook snd [w]) s = .next (answer snd ⟨t, fields, 2, none⟩) ∧
          t.work = { s.work with bookings := s.work.bookings.set (n - 1) none, exceptions := left } ∧
          t.store = (ask snd .exceptions (ask snd (.booking n) { s with work := t.work })).store ∧ placed s t [] ∧
          sameBesideBookings s t) ∧
      (∀ o, s.sched.active = some o → o.booking = n → o.phase = .grace → bookingBusy s n = false →
        ∃ t, exec (.unbook snd [w]) s = .next (answer snd ⟨t, fields, 2, none⟩) ∧
          place t.work.bookings n = none ∧ t.work.exceptions = left ∧ t.sched.active = none ∧
          t.sched.lastEnded = some (n, o.date) ∧ t.sched.upcoming = s.sched.upcoming ∧
          (s.sched.upcoming = none → s.lock.maint = false →
            t.lamp.count = 0 ∧ (s.lamp.count ≠ 0 → t.lamp.origin = .schedule)) ∧
          (s.sched.upcoming ≠ none → t.lamp.count = s.lamp.count ∧ t.lamp.origin = s.lamp.origin ∧
            t.lamp.wanted = s.lamp.wanted) ∧
          placed s t (if s.lock.maint = true then [] else [bookingNotice .active o ["END"]]) ∧
          writeAsked snd (.booking n) t ∧ writeAsked snd .exceptions t ∧
          (∀ b, s.store.busy = none → s.store.cmdQ = [] → s.store.ownQ = [] → s.sched.upcoming = none → s.lock.maint = false →
            s.lamp.count ≠ 0 → s.lamp.wanted.get b = true → (bay s b).st = .lit → s.wear.get b ≠ 0 →
            ∃ j, t.store.busy = some j ∧ ∃ x, j.key = .lamp x)))

/-- From an Operator or Facility sender that is not locked out, taken at once: a SKIP of a date on which a WEEKLY booking would
have an occurrence, that is not skipped yet, not before the clock's date, not in Prewarm or Running, and with fewer than 32
exceptions, puts the pair into the list in its order; from then on the booking has no occurrence on that date. An UNSKIP of a
pair in the list, where the restored occurrence conflicts with no other, takes it out; with an unset clock nothing else
changes but what follows every event. The reply gives the pair and the number of exceptions, and waits for the write (R131,
R132 in part). (8.6 Exceptions, 8.5 Booking commands) -/
def Obligations.SkipsStored : Prop :=
  ∀ (s : State) (snd : Sender) (w d : String) (n : Nat) (x : Date), takesNow s snd [w, d] = true →
    below snd .operator = false → lockedOut s snd.cls = false → parseNatIn 1 48 w = some n → parseDate d = some x →
    (∀ bk, place s.work.bookings n = some bk → bk.dates.isWeekly = true → bk.dates.onDate x = true →
      (⟨n, x⟩ : Exc) ∉ s.work.exceptions → (∀ c, s.sched.clock = some c → c.date ≤ x) → occurrenceBusy s n x = false →
      s.work.exceptions.length < 32 →
      acceptedAs (.skip snd [w, d]) snd s
          (fun t => ["SKIP", showNat n, showDate x, "SKIPS", showNat t.work.exceptions.length]) 1
        (ask snd .exceptions { s with work := { s.work with exceptions := insertExc ⟨n, x⟩ s.work.exceptions } }) ∧
      occursIn (insertExc ⟨n, x⟩ s.work.exceptions) n bk.dates x = false) ∧
    ((⟨n, x⟩ : Exc) ∈ s.work.exceptions →
      (∀ bk, place s.work.bookings n = some bk → conflictOn s n bk x = none) →
      ∃ t, exec (.unskip snd [w, d]) s = .next (answer snd
          ⟨t, ["OK", "UNSKIP", showNat n, showDate x, "SKIPS", showNat t.work.exceptions.length], 1, none⟩) ∧
        (∀ e ∈ t.work.exceptions, e ∈ s.work.exceptions.erase ⟨n, x⟩) ∧
        (s.sched.clock = none → essence t = essence
          (ask snd .exceptions { s with work := { s.work with exceptions := s.work.exceptions.erase ⟨n, x⟩ } })))

/-- Outside Maintenance, an UNLOCK of 4 to 6 digits taken at once from a sender above Viewer is answered NO EXHAUSTED with no
attempt left; a code that matches sets the unlocked flag with that code; one that does not costs one attempt and is answered
NO MISMATCH. Below Exam a code matches where a usable slot holds its digits or it is the master code, and no other, the lowest
such slot first. At Exam only the owner's slot of the Running booking matches, where it is usable, and the master code, where the
booking is not for its owner only. RELOCK clears the flag, ATTEMPTS from Facility restores five attempts unless frozen, and FREEZE
from an Operator or Facility sender that is not locked out freezes the unit. Nothing else changes but what follows every event
(R156, R160, R161, R165 in part). (10.2 The lock level, 10.4 Codes) -/
def Obligations.LocksOpened : Prop :=
  ∀ (s : State) (snd : Sender),
    (∀ w, takesNow s snd [w] = true → isDigits 4 6 w = true → below snd .presenter = false → lockLevel s ≠ .maintenance →
      (s.lock.attempts = 0 → refusedWith (.unlock snd [w]) snd s "EXHAUSTED") ∧
      (s.lock.attempts ≠ 0 →
        (∀ u, codeMatch s w = some u →
          acceptedAs (.unlock snd [w]) snd s (fun _ => ["UNLOCKED", "BY", showBy (some u)]) 0
            { s with lock := { s.lock with unlocked := true, unlockedBy := some u } }) ∧
        (codeMatch s w = none →
          exec (.unlock snd [w]) s = .next (answer snd
            ⟨{ nextEvent s with lock := { s.lock with attempts := s.lock.attempts - 1 } }, ["NO", "MISMATCH"], 0, none⟩)))) ∧
    (∀ w,
      let opens (n : Nat) : Prop := ∃ c, place s.work.codes n = some c ∧ usable s c = true ∧ c.digits = w
      (lockLevel s ≠ .exam →
        (∀ n, opens n → (∀ m < n, ¬opens m) → codeMatch s w = some (.slot n)) ∧
        ((∀ n, ¬opens n) → codeMatch s w = if s.work.master = some w then some .master else none)) ∧
      (∀ bk, lockLevel s = .exam → runningBooking s = some bk →
        (∀ n, bk.owner = some n → opens n → codeMatch s w = some (.slot n)) ∧
        ((∀ n, bk.owner = some n → ¬opens n) →
          codeMatch s w = if s.work.master = some w ∧ bk.ownerOnly = false then some .master else none))) ∧
    (takesNow s snd [] = true →
      (below snd .presenter = false → (snd.cls = .facility ∨ lockLevel s ≠ .maintenance) →
        acceptedAs (.relock snd []) snd s (fun t => ["LEVEL", showLevel (lockLevel t), "UNLOCKED", "NO"]) 0
          { s with lock := { s.lock with unlocked := false, unlockedBy := none } }) ∧
      (below snd .facility = false → s.lock.frozen = false →
        acceptedAs (.attempts snd []) snd s (fun _ => ["ATTEMPTS", "5"]) 0 { s with lock := { s.lock with attempts := 5 } }) ∧
      (below snd .facility = false → s.lock.frozen = true → refusedWith (.attempts snd []) snd s "FROZEN") ∧
      (below snd .operator = false → lockedOut s snd.cls = false →
        acceptedAs (.freeze snd []) snd s (fun _ => ["FROZEN"]) 0 { s with lock := { s.lock with frozen := true } }))

/-- From a Facility sender, taken at once, unless frozen: a SETCODE of a slot whose digits no other slot and no master code holds
stores the code, also where it equals the one held; a DELCODE of a filled slot that no booking names as its owner empties it; a
SETMASTER that gives the present master code, with an attempt left, and whose new code no slot holds, stores the new one or none,
and one that gives another old code costs an attempt and is answered NO MISMATCH. Digits that another slot holds are answered NO
INUSE with the lowest such slot, at SETCODE and at SETMASTER, and those of the master code NO INUSE MASTER. Frozen, each is
answered NO FROZEN, and SETMASTER with no attempt left NO EXHAUSTED. Each change asks for the write its reply waits for, and
nothing else changes but what follows every event. That a code equal to the one held is stored and written again is the model's
reading (notes/assumptions/26.md) (R162, R163, R164 in part). (10.4 Codes) -/
def Obligations.CodesStored : Prop :=
  ∀ (s : State) (snd : Sender) (args : List String), takesNow s snd args = true → below snd .facility = false →
    let holds (n : Nat) (d : String) : Prop := ∃ k, place s.work.codes n = some k ∧ k.digits = d
    let inUse (i : Instr) (who : String) : Prop := exec i s = .next (answer snd ⟨nextEvent s, ["NO", "INUSE", who], 0, none⟩)
    (∀ n c, parseCode args = some (n, c) →
      (s.lock.frozen = true → refusedWith (.setcode snd args) snd s "FROZEN") ∧
      (s.lock.frozen = false →
        (∀ m, m ≠ n → holds m c.digits → (∀ j < m, j ≠ n → ¬holds j c.digits) → inUse (.setcode snd args) (showNat m)) ∧
        ((∀ m, m ≠ n → ¬holds m c.digits) →
          (s.work.master = some c.digits → inUse (.setcode snd args) "MASTER") ∧
          (s.work.master ≠ some c.digits →
            acceptedAs (.setcode snd args) snd s (fun _ => ["CODE", showNat n, "LABEL", showOpt id c.label, "EXPIRY",
                showOpt showDate c.expiry]) 1
              (ask snd (.code n) { s with work := { s.work with codes := s.work.codes.set (n - 1) (some c) } }))))) ∧
    (∀ w n, args = [w] → parseNatIn 1 8 w = some n →
      (s.lock.frozen = true → refusedWith (.delcode snd args) snd s "FROZEN") ∧
      (s.lock.frozen = false → place s.work.codes n ≠ none → (∀ m bk, place s.work.bookings m = some bk → bk.owner ≠ some n) →
        acceptedAs (.delcode snd args) snd s (fun _ => ["CODE", showNat n, "EMPTY"]) 1
          (ask snd (.code n) { s with work := { s.work with codes := s.work.codes.set (n - 1) none } }))) ∧
    (∀ old new, parseMaster args = some (old, new) →
      (s.lock.frozen = true → refusedWith (.setmaster snd args) snd s "FROZEN") ∧
      (s.lock.frozen = false → s.lock.attempts = 0 → refusedWith (.setmaster snd args) snd s "EXHAUSTED") ∧
      (s.lock.frozen = false → s.lock.attempts ≠ 0 → s.work.master ≠ old →
        exec (.setmaster snd args) s = .next (answer snd
          ⟨{ nextEvent s with lock := { s.lock with attempts := s.lock.attempts - 1 } }, ["NO", "MISMATCH"], 0, none⟩)) ∧
      (s.lock.frozen = false → s.lock.attempts ≠ 0 → s.work.master = old →
        (∀ d m, new = some d → holds m d → (∀ j < m, ¬holds j d) → inUse (.setmaster snd args) (showNat m)) ∧
        ((∀ d m, new = some d → ¬holds m d) →
          acceptedAs (.setmaster snd args) snd s (fun _ => ["MASTER", if new = none then "EMPTY" else "SET"]) 1
            (ask snd .master { s with work := { s.work with master := new } }))))

/-- From a Facility sender, taken at once: MAINT ON with no bay Striking or Warming sets the maintenance flag, clears the
unlocked flag, and drops the demand to 0 with origin MAINT where it was above 0, so a Lit bay goes to Cooling for 90 s; with a
bay Striking or Warming it is answered NO BUSY. MAINT OFF clears the flag, and with no record active or upcoming nothing else
changes but what follows every event. Where records are filled, a Running one takes its actions again with the late flag set,
whatever its raised flag says: the raise, the booking's mode and source, and the clearing of the unlocked flag, the nudges and
the User mute; one in Prewarm makes its raise, and one in Grace does nothing. The demand is then the larger of the counts, at
thermal Shutdown as it was. A LOCK notice gives each change of the level, at MAINT OFF before the RUNNING and PREWARM notices,
in the model's order (notes/assumptions/7.md; their words, notes/assumptions/17.md; the bays that a raise chooses,
notes/assumptions/16.md). Set again, or cleared again, the flag changes nothing. The lock level is Maintenance exactly while the
flag is set (R23, R147, R154, R166 in part). (10.5 Maintenance, 10.2 The lock level, 1.3 The lamp demand and the choice of bays,
9.6 Maintenance, clock changes and restart) -/
def Obligations.MaintenanceSwitched : Prop :=
  ∀ (s : State) (snd : Sender), (lockLevel s = .maintenance ↔ s.lock.maint = true) ∧
    (takesNow s snd [] = true → below snd .facility = false →
      ((∃ b, (bay s b).st = .striking ∨ (bay s b).st = .warming) → refusedWith (.maintOn snd) snd s "BUSY") ∧
      ((∀ b, (bay s b).st ≠ .striking ∧ (bay s b).st ≠ .warming) →
        ∃ t, exec (.maintOn snd) s = .next (answer snd ⟨t, ["OK", "MAINT", "ON", "LEVEL", "MAINTENANCE"], 0, none⟩) ∧
          t.lock.maint = true ∧
          (s.lock.maint = true → essence t = essence s) ∧
          (s.lock.maint = false →
            t.lock = { s.lock with maint := true, unlocked := false, unlockedBy := none } ∧ t.lamp.count = 0 ∧
            (s.lamp.count ≠ 0 → t.lamp.origin = .maint ∧ t.lamp.wanted = .both false ∧
              ∀ b, (bay s b).st = .lit → (bay t b).st = .cooling ∧ (bay t b).timer = some (s.uptime + 90000)) ∧
            placed s t [⟨.lock, .level, ["MAINTENANCE", "UNLOCKED", "NO"]⟩] ∧
            t.work = s.work ∧ sameBesideLamps s { t with lock := s.lock })) ∧
      (∃ t, exec (.maintOff snd) s = .next (answer snd
            ⟨t, ["OK", "MAINT", "OFF", "LEVEL", showLevel (lockLevel t)], 0, none⟩) ∧
          t.lock.maint = false ∧
          (s.lock.maint = false → essence t = essence s) ∧
          (s.sched.active = none → s.sched.upcoming = none →
            essence t = essence { s with lock := { s.lock with maint := false } } ∧ placed s t (levelNotice s t)) ∧
          (s.lock.maint = true →
            (∀ o, s.sched.active = some o ∨ s.sched.upcoming = some o → place s.work.bookings o.booking ≠ none) →
            let run := runningBooking s
            let pre := s.sched.upcoming.bind (fun u => place s.work.bookings u.booking)
            let count (bk : Option Booking) : Nat := match bk with
              | some x => x.lamps.getD (if s.work.settings.plan = .single then 1 else 2)
              | none => 0
            let n := max (count run) (count pre)
            let hot : Prop := s.heat.level = .shutdown
            (hot → t.lamp.count = s.lamp.count ∧ t.lamp.origin = s.lamp.origin ∧ t.lamp.wanted = s.lamp.wanted) ∧
            (¬hot → t.lamp.count = max s.lamp.count n ∧
              t.lamp.origin = (if n ≤ s.lamp.count then s.lamp.origin else .schedule) ∧
              (n ≤ s.lamp.count → t.lamp.wanted = s.lamp.wanted) ∧
              (s.lamp.count < n → rightChoice { s with lamp := { s.lamp with count := n } } t.lamp.wanted)) ∧
            t.sched.active = s.sched.active.map (fun o =>
              if o.phase = .running then { o with raised := o.raised || decide ¬hot, late := true } else o) ∧
            t.sched.upcoming = s.sched.upcoming.map (fun u => { u with raised := u.raised || decide ¬hot }) ∧
            t.sched.lastEnded = s.sched.lastEnded ∧ t.sched.clock = s.sched.clock ∧ t.work = s.work ∧
            (run = none → t.lock = { s.lock with maint := false } ∧ t.mode.requested = s.mode.requested ∧ t.geo = s.geo) ∧
            (∀ bk, run = some bk →
              t.lock = { s.lock with maint := false, unlocked := false, unlockedBy := none } ∧
              t.mode.requested = bk.mode.getD s.mode.requested ∧ selAtEntry s bk t.sel ∧
              t.geo = (computation (clearNudges s)).geo) ∧
            placed s t
              ([⟨.lock, .level, [showLevel (lockLevel t), "UNLOCKED", showYes s.lock.unlocked]⟩] ++
                (if run = none then [] else t.sched.active.toList.map runningNoticeOf) ++
                t.sched.upcoming.toList.map (fun u => bookingNotice .upcoming u ["PREWARM", showMinute u.start])))))

/-- From a Facility sender, taken at once: a FILTER that leaves some enabled filter of class Facility stores its filter, where
it differs, and one that would leave none is answered NO STATE; a MASK stores its byte, where it differs. One equal to what is
held is accepted without a write. From an Operator or Facility sender that is not locked out, CLEARFAULT makes Latched entries
Clear, without an argument all, with a kind those of that kind, and with a bay kind and a bay that one; it leaves the others,
and the reply counts those cleared; nothing else changes but what follows every event. Another argument is answered NO ARGS.
From every state whose entries are Active exactly while their conditions hold, every event of the part leaves each entry Active
where its condition then holds; where it does not, an advisory entry is Clear, and an actionable one that was Active or Latched
is Latched; and from a quiescent such state an entry that was Clear stays Clear. The actionable entries are LampFailed,
BallastFault, DoorOpen, LampExhausted, ThermalShutdown, FanStall, WarpNoReply and StoreFault. The FAULT line is asserted while
one of them is not Clear, and the SERVICE line while another entry is Active (R172, R178, R179 in part). (11.2 Addressing and
class, 11.4 Taking a command and replying, 12.1 The fault table) -/
def Obligations.FiltersMasksAndFaults : Prop :=
  (∀ (s : State) (snd : Sender) (args : List String), takesNow s snd args = true →
    (∀ n f, below snd .facility = false → parseFilter args = some (n, f) →
      let l := s.work.filters.set (n - 1) f
      ((∀ g ∈ l, g.on = true → g.cls ≠ .facility) → refusedWith (.filter snd args) snd s "STATE") ∧
      ((∃ g ∈ l, g.on = true ∧ g.cls = .facility) → s.work.filters[n - 1]? ≠ some f →
        acceptedAs (.filter snd args) snd s (fun _ => ["FILTER", showNat n, showHex f.code, "M" ++ showNat f.mask, showCls f.cls,
            showOn f.on]) 1
          (ask snd (.filter n) { s with work := { s.work with filters := l } }))) ∧
    (∀ n v, below snd .facility = false → parseMask args = some (n, v) → s.work.masks[n - 1]? ≠ some v →
      acceptedAs (.mask snd args) snd s (fun _ => ["MASK", "M" ++ showNat n, showHex v]) 1
        (ask snd (.mask n) { s with work := { s.work with masks := s.work.masks.set (n - 1) v } })) ∧
    (∀ n f, below snd .facility = false → parseFilter args = some (n, f) → s.work.filters[n - 1]? = some f →
      (∃ g ∈ s.work.filters, g.on = true ∧ g.cls = .facility) →
      acceptedAs (.filter snd args) snd s (fun _ => ["FILTER", showNat n, showHex f.code, "M" ++ showNat f.mask, showCls f.cls,
        showOn f.on]) 0 s) ∧
    (∀ n v, below snd .facility = false → parseMask args = some (n, v) → s.work.masks[n - 1]? = some v →
      acceptedAs (.mask snd args) snd s (fun _ => ["MASK", "M" ++ showNat n, showHex v]) 0 s) ∧
    (below snd .operator = false → lockedOut s snd.cls = false →
      let clears (acts : FaultId → Bool) : Prop :=
        ∃ t, exec (.clearfault snd args) s = .next (answer snd
            ⟨t, ["OK", "CLEARED", showNat (FaultId.all.filter (fun f => acts f && s.faults.get f == .latched)).length, "FAULT",
                 showLine (faultLine t)], 0, none⟩) ∧
          (∀ f, s.faults.get f ≠ .active → faultCond t f = false →
            t.faults.get f = if acts f = true then .clear else s.faults.get f) ∧
          (∀ f, faultCond t f = true → t.faults.get f = .active) ∧ essence t = essence s
      (args = [] → clears (fun _ => true)) ∧
      (∀ f, args = [showFaultKind f] → clears (fun g => showFaultKind g == showFaultKind f)) ∧
      (∀ f b, args = [showFaultKind f, showBay b] → f.bay? = some b → clears (fun g => g == f)) ∧
      ((∀ f, args ≠ [] ∧ args ≠ [showFaultKind f] ∧ ∀ b, f.bay? = some b → args ≠ [showFaultKind f, showBay b]) →
        refusedWith (.clearfault snd args) snd s "ARGS"))) ∧
  (∀ (s : State) (i : Instr), faultsSound s → ownEvent i → ∃ t, exec i s = .next t ∧
    ∀ f,
      (faultCond t f = true → t.faults.get f = .active) ∧
      (faultCond t f = false →
        (f.actionable = false → t.faults.get f = .clear) ∧
        (f.actionable = true → s.faults.get f ≠ .clear → t.faults.get f = .latched) ∧
        (quiescent s = true → s.faults.get f = .clear → t.faults.get f = .clear))) ∧
  (∀ f : FaultId, f.actionable = true ↔ ∃ b, f = .lampFailed b ∨ f = .ballastFault b ∨ f = .doorOpen b ∨ f = .lampExhausted b ∨
    f = .thermalShutdown ∨ f = .fanStall ∨ f = .warpNoReply ∨ f = .storeFault) ∧
  ∀ s : State, (faultLine s = true ↔ ∃ f : FaultId, f.actionable = true ∧ s.faults.get f ≠ .clear) ∧
    (serviceLine s = true ↔ ∃ f : FaultId, f.actionable = false ∧ s.faults.get f = .active)

/-- RESTART from a Facility sender, taken at once with no write in progress: Empty and Failed bays stay; outside Maintenance a
Striking, Warming or Lit bay with lit sense counts as alight: it is Warming for 45 s, or Lit as it was, unless its door is open or
its ballast fault asserted, which puts it into Cooling for 90 s, and every other bay is in Rest for 150 s. A Lit one goes out also
where the schedule then drops the demand. Strike lists, door-cycled flags, last losses and loss bars are kept. The temporary
ceiling is absent, the thermal level Normal, the idle timer 0, the unlocked flag clear, the line error count 0, and the lamp
records, profiles, codes, hall settings and the clock are as before. With an unset clock and no record the demand is the number of
bays alight with origin RESTART, and the selector is in NoSignal on P1. With a set clock, outside Maintenance, a Running record
before its end is retaken: its flags are set, its raise merges with the bays alight, its booking's mode and source are requested;
a Grace before its end, with no other booking Running, stays; an upcoming record, with no active one and no booking Running, is
raised again. Under Maintenance the demand is 0. With a write in progress RESTART waits, and nothing else changes. The order
within RESTART is the model's reading (notes/assumptions/20.md), and so is the choice of bays (notes/assumptions/16.md) (R25, R61,
R71, R103, R150, R156, R173, R177, R184 in part). (Resets, 1.7 Power-on and restart, 3.7 Lamps, resets and the query, 6.7 Power-on
and restart, 9.6 Maintenance, clock changes and restart, 11.4 Taking a command and replying, 11.6 Restart) -/
def Obligations.RestartKeepsRecords : Prop :=
  ∀ (s : State) (snd : Sender), takesNow s snd [] = true → below snd .facility = false →
    (s.store.busy ≠ none →
      exec (.restart snd []) s = .next { nextEvent s with comms := { s.comms with restartBy := some snd } }) ∧
    (s.store.busy = none →
      let alight (b : Bay) : Bool := (bay s b).st.inUse && s.pins.lit.get b && !s.lock.maint
      let burning : Nat := (if alight .bayA then 1 else 0) + (if alight .bayB then 1 else 0)
      let count (bk : Booking) : Nat := bk.lamps.getD (if s.work.settings.plan = .single then 1 else 2)
      ∃ t, exec (.restart snd []) s = .next (answer snd ⟨t, ["OK", "RESTART"], 0, none⟩) ∧
        t.mode.temp = none ∧ t.mode.persistUsed = s.mode.persistUsed ∧ t.heat.level = .normal ∧
        t.heat.housing = s.heat.housing ∧ t.lock.unlocked = false ∧ t.lock.maint = s.lock.maint ∧
        t.lock.attempts = s.lock.attempts ∧ t.comms.errCount = 0 ∧ t.comms.deaf = false ∧ t.sel.muteUser = false ∧
        t.work.lamps = s.work.lamps ∧ t.work.profiles = s.work.profiles ∧ t.work.codes = s.work.codes ∧
        t.work.settings = s.work.settings ∧ t.sched.clock = s.sched.clock ∧ t.sched.idle = 0 ∧
        (∀ b,
          ((bay s b).st = .empty → (bay t b).st = .empty) ∧
          ((bay s b).st = .failed → (bay t b).st = .failed) ∧
          ((bay s b).st ≠ .empty → (bay s b).st ≠ .failed → alight b = false →
            (bay t b).st = .rest ∧ (bay t b).timer = some (s.uptime + 150000)) ∧
          (alight b = true → s.pins.door.get b = true ∨ s.pins.ballast.get b = true →
            (bay t b).st = .cooling ∧ (bay t b).timer = some (s.uptime + 90000) ∧ (bay t b).causeMark = true) ∧
          (alight b = true → s.pins.door.get b = false → s.pins.ballast.get b = false →
            ((bay s b).st ≠ .lit → (bay t b).st = .warming ∧ (bay t b).timer = some (s.uptime + 45000)) ∧
            ((bay s b).st = .lit → t.lamp.count ≠ 0 → (bay t b).st = .lit) ∧
            ((bay s b).st = .lit → t.lamp.count = 0 → (bay t b).st = .cooling ∧ (bay t b).timer = some (s.uptime + 90000))) ∧
          ((bay s b).st.burning = true → (bay t b).st.burning = false → (bay t b).lastExt = some s.uptime) ∧
          (bay t b).strikes = (bay s b).strikes ∧ (bay t b).doorFlag = (bay s b).doorFlag ∧
          (bay t b).lastLoss = (bay s b).lastLoss ∧ (bay t b).lossBar = (bay s b).lossBar) ∧
        (s.lock.maint = true → t.lamp.count = 0) ∧
        (s.sched.clock = none → s.sched.active = none → s.sched.upcoming = none →
          t.sel.st = .noSignal ∧ t.sel.port = .p1 ∧ t.sel.noSigFrom = s.uptime ∧ t.work.bookings = s.work.bookings ∧
          t.lamp.origin = .restart ∧ t.lamp.count = burning ∧
          ((∀ b, s.pins.door.get b = false ∧ s.pins.ballast.get b = false) → ∀ b, t.lamp.wanted.get b = alight b)) ∧
        ∀ c, s.sched.clock = some c → s.lock.maint = false →
          (∀ o bk, s.sched.active = some o → o.phase = .running → c.abs < minuteAbs o.date o.stop →
            place s.work.bookings o.booking = some bk →
            t.sched.active = some { o with raised := true, late := true } ∧ t.sched.lastEnded = s.sched.lastEnded ∧
            t.mode.requested = bk.mode.getD s.mode.requested ∧
            (t.sched.upcoming = none → t.lamp.count = max burning (count bk) ∧
              t.lamp.origin = if count bk ≤ burning then .restart else .schedule) ∧
            (bk.source = none → t.sel.st = .noSignal ∧ t.sel.port = .p1) ∧
            (∀ k p, bk.source = some k → profileAt s k = some p →
              t.sel.st = .switching ∧ t.sel.req = some ⟨p.port, some k, .schedule, s.uptime⟩)) ∧
          (otherRunning s c.date c.abs = [] →
            (∀ o, s.sched.active = some o → o.phase = .grace → c.abs < minuteAbs o.date (o.stop + o.grace) →
              t.sched.active = some o ∧ t.sched.lastEnded = s.sched.lastEnded) ∧
            (∀ u bk, s.sched.active = none → s.sched.upcoming = some u → place s.work.bookings u.booking = some bk →
              t.sched.active = none ∧ t.sched.upcoming = some { u with raised := true } ∧
              t.lamp.count = max burning (count bk))))

/-- For every well-formed command row of the table and the words that stand for it: where the words hold no start character and
the frame is at most 96 characters, the frame with the part's own address and the row's originator, arriving at a quiescent part
whose port is free, has the effect of the row, sent with the class that the acceptance filters give on the line, or the class
Presenter on the Lectern Port, from a state in which the port has heard a character now and, on the line, the frame has been
counted as good; what follows every event is worked out once more. A broadcast SETCLOCK or LAMPOFF has the effect of its row
from a broadcast sender, and no reply. A good frame that begins with < or !, has another address, has an originator without a
class, or is a broadcast of any other body changes nothing but that it is heard and counted as good; the Lectern Port, where 00
is another address, only hears it. A frame whose verb no row of the table has is answered NO VERB, from every class, and one
with a known verb and two spaces together or one at its end NO ARGS (before the class, by the model's choice,
notes/assumptions/39.md); a MUTE, MAINT or CEILING whose arguments are none of its forms is answered NO ARGS, from every sender
of its class (after that check, by the model's reading, notes/assumptions/11.md). That a frame with lower-case letters is good
is the model's choice (notes/assumptions/28.md) (R168 to R171, R174, R175 in part). (11.1 Frames, 11.2 Addressing and class,
11.4 Taking a command and replying) -/
def Obligations.FrameDoesCommand : Prop :=
  (∀ (s : State) (i : Instr) (snd : Sender) (words : List String), i.wf = true → commandWords i = some (snd, words) →
    wordsWf words = true → (∀ w ∈ words, ∀ c ∈ w.toList, startChar c = false) →
    (frameOf '>' s.work.settings.address snd.orig words).length ≤ 96 →
    1 ≤ s.work.settings.address → s.work.settings.address ≤ 62 → quiescent s = true →
    let heard : State := { s with comms := { s.comms with
      errCount := s.comms.errCount - 1, line := { s.comms.line with lastChar := s.uptime } } }
    (snd.port = .line → classOf s snd.orig = some snd.cls → s.comms.deaf = false → s.comms.line.rx = none →
      sending s .line = false → portBusy s .line = false →
      (snd.broadcast = false → ∃ t, exec i heard = .next t ∧
        exec (.lineFrame (frameOf '>' s.work.settings.address snd.orig words)) s = .next (settle t)) ∧
      (snd.broadcast = true → words.head? = some "SETCLOCK" ∨ words.head? = some "LAMPOFF" → ∃ t, exec i heard = .next t ∧
        exec (.lineFrame (frameOf '>' 0 snd.orig words)) s = .next (settle t) ∧
        t.comms.line.reply = none ∧ t.comms.line.sent = s.comms.line.sent)) ∧
    (snd.port = .lectern → snd.broadcast = false → s.comms.lectern.rx = none → portBusy s .lectern = false →
      ∃ t, exec i { s with comms := { s.comms with lectern := { s.comms.lectern with lastChar := s.uptime } } } = .next t ∧
        exec (.lecternFrame (frameOf '>' s.work.settings.address snd.orig words)) s = .next (settle t))) ∧
  ∀ (s : State) (start : Char) (a : Nat) (o : Byte) (words : List String), quiescent s = true → startChar start = true → a ≤ 99 →
    (∀ w ∈ words, ∀ c ∈ w.toList, startChar c = false ∧ c ≠ ' ' ∧ c ≠ Char.ofNat 13) →
    (frameOf start a o words).length ≤ 96 →
    let own : Nat := s.work.settings.address
    let verb (v : String) : Prop := ∃ i snd l, commandWords i = some (snd, v :: l)
    let line : State := { s with comms := { s.comms with
      errCount := s.comms.errCount - 1, line := { s.comms.line with lastChar := s.uptime } } }
    let lectern : State := { s with comms := { s.comms with lectern := { s.comms.lectern with lastChar := s.uptime } } }
    let refusedFrame (i : Instr) (snd : Sender) (x : State) (reason : String) : Prop :=
      exec i s = .next (settle (answer snd ⟨nextEvent x, ["NO", reason], 0, none⟩))
    let judged (i : Instr) (snd : Sender) (x : State) : Prop :=
      (∀ v l, words = v :: l → ¬verb v → refusedFrame i snd x "VERB") ∧
      (∀ v l, words = v :: l → verb v → "" ∈ l → refusedFrame i snd x "ARGS") ∧
      (∀ l, words = "MUTE" :: l → "" ∉ l → l ≠ ["ON"] → l ≠ ["OFF"] → below snd .presenter = false →
        refusedFrame i snd x "ARGS") ∧
      (∀ l, words = "MAINT" :: l → "" ∉ l → l ≠ ["ON"] → l ≠ ["OFF"] → below snd .facility = false →
        refusedFrame i snd x "ARGS") ∧
      (∀ l, words = "CEILING" :: l → "" ∉ l → l ≠ ["CLEARTEMP"] → (∀ m, l ≠ [m, "PERSIST"] ∧ l ≠ [m, "TEMP"]) →
        below snd .facility = false → refusedFrame i snd x "ARGS")
    (s.comms.deaf = false → s.comms.line.rx = none → sending s .line = false →
      (start ≠ '>' ∨ (a ≠ own ∧ a ≠ 0) ∨ classOf s o = none ∨
          (a = 0 ∧ words.head? ≠ some "SETCLOCK" ∧ words.head? ≠ some "LAMPOFF") →
        goesTo (.lineFrame (frameOf start a o words)) s line) ∧
      (∀ c, start = '>' → a = own → 1 ≤ a → classOf s o = some c → portBusy s .line = false →
        judged (.lineFrame (frameOf start a o words)) ⟨.line, c, o, false⟩ line)) ∧
    (s.comms.lectern.rx = none →
      (start ≠ '>' ∨ a ≠ own ∨ a = 0 → goesTo (.lecternFrame (frameOf start a o words)) s lectern) ∧
      (start = '>' → a = own → 1 ≤ a → portBusy s .lectern = false →
        judged (.lecternFrame (frameOf start a o words)) ⟨.lectern, .presenter, o, false⟩ lectern))

/-- For every start character, address of 0 to 99, originator and list of words of printable characters, the frame ends in a
carriage return, and without it has a good form and check, and gives the start character, the address, the originator and the
words back. That lower-case letters leave the form good is the model's choice (notes/assumptions/28.md) (R169 in part). (11.1
Frames) -/
def Obligations.FrameReadsBack : Prop :=
  ∀ (start : Char) (addr : Nat) (orig : Byte) (words : List String), addr ≤ 99 → words ≠ [] → wordsWf words = true →
    ∃ f, frameOf start addr orig words = (frameOf start addr orig words).dropLast ++ [Char.ofNat 13] ∧
      goodFrame (frameOf start addr orig words).dropLast = some f ∧
      f.start = start ∧ f.addr = addr ∧ f.orig = orig ∧ f.words = words

/-- From a quiescent state with the line neither sending nor Deaf: a bad end of a frame, and a gap of more than 200 ms in an open
one, add 8 to the line error count, up to 255, and no frame is then open, but for the one that a start character opens; where the
count reaches 192 the line is Deaf, with no frame open, no reply waiting and no frame waiting that did not wait before. While the
part drives the line a bad frame is not heard, and in Deaf it only starts the 3 s again. On the Lectern Port a framing error ends
an open frame and is not counted. Deaf, 3 s after the last character, LINE_DEAF_END makes the line Attentive with the count 0, and
a frame that waits there is then taken as its command's row, with the LineDeaf entry ended. Nothing else changes but what follows
every event. (That BAD_FRAME counts where no frame is open is the model's choice, notes/assumptions/28.md, and what becomes of a
frame that waits when Deaf begins is a free value, notes/assumptions/12.md.) (R168, R173, R175 in part). (11.1 Frames, 11.3 Line
health, 11.4 Taking a command and replying) -/
def Obligations.BadFramesCounted : Prop :=
  ∀ s : State, quiescent s = true →
    let deafened (t : State) : Prop :=
      t.comms.deaf = true ∧ t.comms.errCount = min 255 (s.comms.errCount + 8) ∧ t.comms.line.rx = none ∧
        t.comms.line.reply = none ∧ (∀ f ∈ t.comms.line.inbox, f ∈ s.comms.line.inbox) ∧ t.work = s.work
    (∀ cause, cause.wf = true → cause ≠ .lecternFramingError → sending s .line = false → s.comms.deaf = false →
      (s.comms.errCount + 8 < 192 →
        goesTo (.badFrame cause) s { s with comms := { s.comms with
          errCount := s.comms.errCount + 8
          line := { s.comms.line with
            lastChar := s.uptime
            rx := match cause with
              | .newStart c => some [c]
              | .framingError | .overlength | .failedCheck | .lecternFramingError => none } } }) ∧
      (192 ≤ s.comms.errCount + 8 → ∃ t, exec (.badFrame cause) s = .next t ∧ deafened t)) ∧
    (∀ cause, cause ≠ .lecternFramingError →
      (sending s .line = true → goesTo (.badFrame cause) s s) ∧
      (sending s .line = false → s.comms.deaf = true → goesTo (.badFrame cause) s { s with comms := { s.comms with
        line := { s.comms.line with lastChar := s.uptime } } })) ∧
    goesTo (.badFrame .lecternFramingError) s { s with comms := { s.comms with
      lectern := { s.comms.lectern with lastChar := s.uptime, rx := none } } } ∧
    (s.comms.line.rx ≠ none → s.comms.line.lastChar + 200 < s.uptime →
      (s.comms.errCount + 8 < 192 →
        goesTo .interCharacterGap s { s with comms := { s.comms with
          errCount := s.comms.errCount + 8, line := { s.comms.line with rx := none } } }) ∧
      (192 ≤ s.comms.errCount + 8 → ∃ t, exec .interCharacterGap s = .next t ∧ deafened t)) ∧
    (s.comms.deaf = true → s.comms.line.lastChar + 3000 ≤ s.uptime →
      ∃ t, exec .lineDeafEnd s = .next t ∧ t.comms.deaf = false ∧ t.comms.errCount = 0 ∧
        (s.comms.line.reply = none → s.comms.line.inbox = [] →
          essence t = essence { s with comms := { s.comms with deaf := false, errCount := 0 } }) ∧
        (∀ i snd words, i.wf = true → commandWords i = some (snd, words) → snd.port = .line →
          s.comms.line.reply = none → s.comms.restartBy = none → s.comms.line.inbox = [(snd, words)] →
          ∃ u, exec i (settle { nextEvent s with comms := { s.comms with deaf := false, errCount := 0 } }) = .next u ∧
            t = settle (modChan .line (fun c => { c with inbox := [] }) u)))

/-- From a quiescent state: where a notice may begin, NOTICE_SEND sends the oldest of the highest priority on the line; where a
reply's writes have ended and its transmitter is free, REPLY_SEND sends it on its port, NO STORE in its place where a write
failed, and a frame that waits behind it is then taken as its command's row. STORE_WRITE_DONE puts the written record into the
stored copies and out of the unsaved and unreadable sets, or, failed, leaves the stored copies and puts the record into the
unsaved set. A reply that waits for this write alone is then sent, and a frame behind it taken; one that waits for more counts one
less. The next waiting write starts with the values of that moment, those that commands asked for first. A RESTART that waits is
acted on instead. Nothing else changes but what follows every event. The time that a frame takes (notes/assumptions/10.md), and
which replies hold a notice back (notes/assumptions/29.md), are the model's reading (R36, R174, R177, R182, R184 in part). (11.4
Taking a command and replying, 11.6 Restart, 12.2 The notice queue, 12.4 The Settings Store) -/
def Obligations.PortsSendAndWritesEnd : Prop :=
  ∀ s : State, quiescent s = true →
    let sent (p : CmdPort) (w : Waiting) (x : State) : State :=
      let f := frameOf '<' (w.addr.getD s.work.settings.address) w.orig (if w.failed then ["NO", "STORE"] else w.words)
      modChan p (fun c => { c with reply := none, txUntil := some (s.uptime + sendTime f.length), sent := some f }) x
    let empty (p : CmdPort) (x : State) : State := modChan p (fun c => { c with inbox := [] }) x
    (noticeDue s = true →
      ∃ n t, exec .noticeSend s = .next t ∧ n ∈ s.notices.queue ∧
        (∃ before after, s.notices.queue = before ++ n :: after ∧ (∀ m ∈ before, m.kind.prio < n.kind.prio) ∧
          (∀ m ∈ after, m.kind.prio ≤ n.kind.prio)) ∧
        essence t = essence { s with comms := { s.comms with line := { s.comms.line with
          txUntil := some (s.uptime + sendTime (noticeFrame s n).length), sent := some (noticeFrame s n) } } } ∧
        (faultsSound s → t.notices = { s.notices with queue := s.notices.queue.erase n })) ∧
    (∀ p w, (chan s p).reply = some w → w.outstanding = 0 → sending s p = false →
      ((chan s p).inbox = [] → goesTo (.replySend p) s (sent p w s)) ∧
      (∀ i snd words, i.wf = true → commandWords i = some (snd, words) → snd.port = p → (p = .line → s.comms.deaf = false) →
        s.comms.restartBy = none → (chan s p).inbox = [(snd, words)] →
        ∃ u, exec i (sent p w (nextEvent s)) = .next u ∧ exec (.replySend p) s = .next (settle (empty p u)))) ∧
    ∀ (j : WriteJob) (ok : Bool), s.store.busy = some j →
      let store : Store :=
        if ok then { s.store with
          stored := copyRec j.key j.snap s.store.stored, unsaved := s.store.unsaved.filter (fun k => k != j.key)
          unreadable := s.store.unreadable.filter (fun k => k != j.key), busy := none }
        else { s.store with
          unsaved := if j.key ∈ s.store.unsaved then s.store.unsaved else s.store.unsaved ++ [j.key], busy := none }
      let rezero (k : RecKey) : PerBay Nat := match k with
        | .lamp b => s.wear.set b 0
        | _ => s.wear
      (s.comms.restartBy = none →
        ((∀ p, (chan s p).inbox = [] ∧ (chan s p).reply = none) → j.waiters = [] →
          (s.store.cmdQ = [] → s.store.ownQ = [] → goesTo (.storeWriteDone ok) s { s with store := store }) ∧
          (∀ r rs, s.store.cmdQ = r :: rs → goesTo (.storeWriteDone ok) s { s with
            wear := rezero r.key, store := { store with cmdQ := rs, busy := some ⟨r.key, s.work, r.waiters⟩ } }) ∧
          (∀ k ks, s.store.cmdQ = [] → s.store.ownQ = k :: ks → goesTo (.storeWriteDone ok) s { s with
            wear := rezero k, store := { store with ownQ := ks, busy := some ⟨k, s.work, []⟩ } })) ∧
        (∀ p q w, p ≠ q → j.waiters = [p] → (chan s p).reply = some w → (chan s q).reply = none → (chan s q).inbox = [] →
          s.store.cmdQ = [] → s.store.ownQ = [] →
          let w' : Waiting := { w with outstanding := w.outstanding - 1, failed := w.failed || !ok }
          let x : State := modChan p (fun c => { c with reply := some w' }) { s with store := store }
          (1 < w.outstanding → (chan s p).inbox = [] → goesTo (.storeWriteDone ok) s x) ∧
          (w.outstanding = 1 → sending s p = false →
            ((chan s p).inbox = [] → goesTo (.storeWriteDone ok) s (sent p w' x)) ∧
            (∀ i snd words, i.wf = true → commandWords i = some (snd, words) → snd.port = p →
              (p = .line → s.comms.deaf = false) → (chan s p).inbox = [(snd, words)] →
              ∃ u, exec i (sent p w' (settle (nextEvent x))) = .next u ∧
                exec (.storeWriteDone ok) s = .next (settle (empty p u)))))) ∧
      (∀ snd, s.comms.restartBy = some snd → below snd .facility = false → s.comms.deaf = false →
        (∀ p, (chan s p).inbox = [] ∧ (chan s p).reply = none) → j.waiters = [] →
        ∃ u, exec (.restart snd []) { s with store := store, comms := { s.comms with restartBy := none } } = .next u ∧
          exec (.storeWriteDone ok) s = .next (settle (settle u)))

/-- A notice whose kind and subject are queued takes the place of that entry, and the queue keeps its length and overflow flag.
Otherwise, with fewer than 8 entries, it joins at the end. Otherwise, where its priority is above the lowest queued, the
newest entry of the lowest priority leaves, the notice joins at the end, and the overflow flag is set. Otherwise it is
dropped and the flag is set. The priority is 3 for FAULT and HEAT, 2 for LAMP, LOCK and BOOKING, and 1 for SOURCE and LIFE.
From a quiescent state, or from any where the event follows another at once, each event of the lamps, the wear, the heat and
the selector, and a change of IDLELOCK, places the notices that its rule names, with their fields, and no other: LAMP at entry
to Lit, Dark and Failed; LIFE where the stage changes; HEAT at a change of level and of the hall flag; SOURCE at a lock, a loss,
a timeout and a changed profile; LOCK where the level changes. The other events of these blocks, of the geometry and of the
ports place none. After each of them come the FAULT notices of the entries that have become Active (the order within one event
is the model's choice, notes/assumptions/7.md; the flag's word in HEAT is presumed, notes/assumptions/17.md). The BOOKING
notices stand in Obligations.MinuteEdgePhases and Obligations.ExtendEndnowAndIdleOff (R1, R33, R65, R68, R87, R154, R178, R181 in
part). (12.2 The notice queue, 1.2 The bay state machine, 2.3 Strike results, 4.3 The thermal level, 4.4 The hot hall, 6.2 Outputs
and the mute, 10.2 The lock level, 12.1 The fault table) -/
def Obligations.NoticesPlaced : Prop :=
  (∀ k : NoticeKind, k.prio = (if k = .fault ∨ k = .heat then 3 else if k = .source ∨ k = .life then 1 else 2)) ∧
  (∀ (q : NoticeQ) (n : Notice),
    (∀ before m after, q.queue = before ++ m :: after → m.kind = n.kind → m.subject = n.subject →
      (∀ x ∈ before ++ after, ¬(x.kind = n.kind ∧ x.subject = n.subject)) →
      q.put n = { q with queue := before ++ n :: after }) ∧
    ((∀ m ∈ q.queue, ¬(m.kind = n.kind ∧ m.subject = n.subject)) →
      (q.queue.length < 8 → q.put n = { q with queue := q.queue ++ [n] }) ∧
      (∀ before m after, 8 ≤ q.queue.length → q.queue = before ++ m :: after → m.kind.prio < n.kind.prio →
        (∀ x ∈ before, m.kind.prio ≤ x.kind.prio) → (∀ x ∈ after, m.kind.prio < x.kind.prio) →
        q.put n = { queue := before ++ after ++ [n], overflow := true }) ∧
      (8 ≤ q.queue.length → (∀ m ∈ q.queue, n.kind.prio ≤ m.kind.prio) → q.put n = { q with overflow := true }))) ∧
  (∀ (s : State) (b : Bay), quiescent s = true →
    (∃ t, exec (.strikeSuccess b) s = .next t ∧
      placed s t (if (bay s b).st = .striking then stageNotice b (lampRec s b) (lampRec t b) else [])) ∧
    (timerEnded s b .striking = true → ∃ t, exec (.strikeWindowEnd b) s = .next t ∧
      placed s t (stageNotice b (lampRec s b) (lampRec t b) ++
        if (bay t b).st = .failed then [⟨.lamp, .bay b, ["FAILED"]⟩] else [])) ∧
    (timerEnded s b .warming = true → ∃ t, exec (.warmUpEnd b) s = .next t ∧
      placed s t (if s.lamp.wanted.get b = true then [⟨.lamp, .bay b, ["LIT"]⟩] else [])) ∧
    (timerEnded s b .rest = true → ∃ t, exec (.restEnd b) s = .next t ∧ placed s t [⟨.lamp, .bay b, ["DARK"]⟩]) ∧
    (switchTimeoutDue s = true → s.sel.req ≠ none →
      ∃ t, exec .switchTimeout s = .next t ∧ placed s t [selectorNotice t]) ∧
    (∀ housing ambient l r c, ∀ i ∈ silentEvents b housing ambient l r c, ∃ t, exec i s = .next t ∧ placed s t [])) ∧
  (∀ (s : State) (b : Bay),
    (∀ r, lampRec s b = some r → 60 ≤ r.fraction →
      ∃ t, exec (.wearCarry b) s = .next t ∧ placed s t (stageNotice b (lampRec s b) (lampRec t b))) ∧
    (nextLevel s.heat ≠ none → ∃ t, exec .thermalLevelChange s = .next t ∧
      placed s t [⟨.heat, .housing, [showThermal t.heat.level, showOpt showInt s.heat.housing]⟩]) ∧
    (3 ≤ (if s.heat.hot = true then s.heat.below32 else s.heat.atLeast35) → ∃ t, exec .hotHallChange s = .next t ∧
      placed s t [⟨.heat, .ambient, [showYes t.heat.hot, showOpt showInt s.heat.ambient]⟩]) ∧
    (s.sel.st = .switching → s.sel.req ≠ none → 2 ≤ s.sel.lockRun.count →
      ∃ t, exec .switchLock s = .next t ∧ placed s t [selectorNotice t]) ∧
    (s.sel.st = .settled → 5 ≤ s.sel.lossRun → ∃ t, exec .signalLoss s = .next t ∧ placed s t [selectorNotice t]) ∧
    (s.sel.st = .settled → 2 ≤ s.sel.classRun.count →
      ∃ t, exec .classChange s = .next t ∧ placed s t (if t.sel.active = s.sel.active then [] else [selectorNotice t])) ∧
    (s.sel.st = .noSignal → 2 ≤ s.sel.lockRun.count →
      ∃ t, exec .nosignalLock s = .next t ∧ placed s t [selectorNotice t]) ∧
    (s.sel.st = .scanning → 2 ≤ s.sel.lockRun.count →
      ∃ t, exec .dwellLock s = .next t ∧ placed s t [selectorNotice t])) ∧
  ∀ (s : State) (snd : Sender) (w : String) (v : IdleLock), takesNow s snd [w] = true → below snd .operator = false →
    lockedOut s snd.cls = false → parseIdleLock w = some v → v ≠ s.work.settings.idlelock →
    ∃ t, exec (.settingIdlelock snd [w]) s = .next (answer snd ⟨t, ["OK", "IDLELOCK", showIdleLock v], 1, none⟩) ∧
      placed s t (levelNotice s t)

/-- For every state in which each entry of the Fault Table is Active exactly while its condition holds and no advisory entry is
Latched, and in which the Mode Unit and the fan stand as the rules call for, every step ends in such a state. The Mode Unit so
stands where each bay that does not burn is Off, each burning one runs at the mode its override gives, and a Full run counts
only on a bay Lit at Full; where an override stands exactly on a Lit bay with a debt and a thermal ceiling of Full, Forced at a
debt of 4, and below it Normal under a facility ceiling of Full, unless a Running booking at Standard or Eco postpones it; and
the fan is High, Normal or Low as R69 says (R51, R52, R56 to R59, R69, R178 in part). (12.1 The fault table, 3.4 The effective
mode, 3.5 Conditioning debt, 3.6 Conditioning runs, 4.5 The fan) -/
def Obligations.FaultsAndModesStayTrue : Prop :=
  ∀ s t : State, faultsSound s → modesSound s → step s = .next t → faultsSound t ∧ modesSound t

/-- For every state in which the igniter is held by a bay exactly while that bay is Striking, every step ends in such a state
(R2, R16, R17 in part). (1.2 The bay state machine, 1.4 The igniter) -/
def Obligations.IgniterStaysExclusive : Prop :=
  ∀ s t : State, igniterSound s → step s = .next t →
    igniterSound t ∧ ¬((bay t .bayA).st = .striking ∧ (bay t .bayB).st = .striking)

/-- For every state whose Notice Queue holds at most eight notices, no two of one kind and subject, every step ends in such a
state (R181 in part). (12.2 The notice queue) -/
def Obligations.NoticeQueueStaysSound : Prop :=
  ∀ s t : State, noticesSound s → step s = .next t → noticesSound t

/-- For every state with at most five attempts, a line error count of at most 255, a debt of at most 4 and a credit of at most 2
of which one is 0, nudges within -10..10, a tilt ring of four, an invalid run of at most 20, and an idle timer of 0 wherever the
demand is 0, an occurrence record is filled or the selector is Settled, every step ends in such a state (R55, R56, R104, R105,
R114, R151, R161, R173 in part). (3.5 Conditioning debt, 3.6 Conditioning runs, 7.2 The tilt sensor, 7.4 The totals, 9.7 Idle
auto-off, 10.4 Codes, 11.3 Line health) -/
def Obligations.CountersStayInRange : Prop :=
  ∀ s t : State, countsSound s → step s = .next t → countsSound t
end

