-- ==== Sys2Proof/Laws/State.lean ====
section
/-! SUPPORT. Laws/State.lean: for each named update of the state, what it leaves each field as. -/

namespace Sys2Proof.Machine

/-! `nextEvent` -/

@[simp] theorem nextEvent_pending (s : State) : (nextEvent s).pending = s.pending := rfl
@[simp] theorem nextEvent_uptime (s : State) : (nextEvent s).uptime = s.uptime := rfl
@[simp] theorem nextEvent_choices (s : State) : (nextEvent s).choices = s.choices := rfl
@[simp] theorem nextEvent_secondsDone (s : State) : (nextEvent s).secondsDone = s.secondsDone := rfl
@[simp] theorem nextEvent_cadenceDone (s : State) : (nextEvent s).cadenceDone = s.cadenceDone := rfl
@[simp] theorem nextEvent_pins (s : State) : (nextEvent s).pins = s.pins := rfl
@[simp] theorem nextEvent_work (s : State) : (nextEvent s).work = s.work := rfl
@[simp] theorem nextEvent_store (s : State) : (nextEvent s).store = s.store := rfl
@[simp] theorem nextEvent_lamp (s : State) : (nextEvent s).lamp = s.lamp := rfl
@[simp] theorem nextEvent_wear (s : State) : (nextEvent s).wear = s.wear := rfl
@[simp] theorem nextEvent_mode (s : State) : (nextEvent s).mode = s.mode := rfl
@[simp] theorem nextEvent_heat (s : State) : (nextEvent s).heat = s.heat := rfl
@[simp] theorem nextEvent_ports (s : State) : (nextEvent s).ports = s.ports := rfl
@[simp] theorem nextEvent_sel (s : State) : (nextEvent s).sel = s.sel := rfl
@[simp] theorem nextEvent_geo (s : State) : (nextEvent s).geo = s.geo := rfl
@[simp] theorem nextEvent_sched (s : State) : (nextEvent s).sched = s.sched := rfl
@[simp] theorem nextEvent_lock (s : State) : (nextEvent s).lock = s.lock := rfl
@[simp] theorem nextEvent_comms (s : State) : (nextEvent s).comms = s.comms := rfl
@[simp] theorem nextEvent_faults (s : State) : (nextEvent s).faults = s.faults := rfl
@[simp] theorem nextEvent_notices (s : State) : (nextEvent s).notices = s.notices := rfl

/-! `modBay` -/

@[simp] theorem modBay_pending (b : Bay) (f : BayCtl → BayCtl) (s : State) : (modBay b f s).pending = s.pending := rfl
@[simp] theorem modBay_uptime (b : Bay) (f : BayCtl → BayCtl) (s : State) : (modBay b f s).uptime = s.uptime := rfl
@[simp] theorem modBay_events (b : Bay) (f : BayCtl → BayCtl) (s : State) : (modBay b f s).events = s.events := rfl
@[simp] theorem modBay_choices (b : Bay) (f : BayCtl → BayCtl) (s : State) : (modBay b f s).choices = s.choices := rfl
@[simp] theorem modBay_secondsDone (b : Bay) (f : BayCtl → BayCtl) (s : State) : (modBay b f s).secondsDone = s.secondsDone := rfl
@[simp] theorem modBay_cadenceDone (b : Bay) (f : BayCtl → BayCtl) (s : State) : (modBay b f s).cadenceDone = s.cadenceDone := rfl
@[simp] theorem modBay_pins (b : Bay) (f : BayCtl → BayCtl) (s : State) : (modBay b f s).pins = s.pins := rfl
@[simp] theorem modBay_work (b : Bay) (f : BayCtl → BayCtl) (s : State) : (modBay b f s).work = s.work := rfl
@[simp] theorem modBay_store (b : Bay) (f : BayCtl → BayCtl) (s : State) : (modBay b f s).store = s.store := rfl
@[simp] theorem modBay_lamp (b : Bay) (f : BayCtl → BayCtl) (s : State) :
    (modBay b f s).lamp = { s.lamp with bays := s.lamp.bays.set b (f (s.lamp.bays.get b)) } := rfl
@[simp] theorem modBay_wear (b : Bay) (f : BayCtl → BayCtl) (s : State) : (modBay b f s).wear = s.wear := rfl
@[simp] theorem modBay_mode (b : Bay) (f : BayCtl → BayCtl) (s : State) : (modBay b f s).mode = s.mode := rfl
@[simp] theorem modBay_heat (b : Bay) (f : BayCtl → BayCtl) (s : State) : (modBay b f s).heat = s.heat := rfl
@[simp] theorem modBay_ports (b : Bay) (f : BayCtl → BayCtl) (s : State) : (modBay b f s).ports = s.ports := rfl
@[simp] theorem modBay_sel (b : Bay) (f : BayCtl → BayCtl) (s : State) : (modBay b f s).sel = s.sel := rfl
@[simp] theorem modBay_geo (b : Bay) (f : BayCtl → BayCtl) (s : State) : (modBay b f s).geo = s.geo := rfl
@[simp] theorem modBay_sched (b : Bay) (f : BayCtl → BayCtl) (s : State) : (modBay b f s).sched = s.sched := rfl
@[simp] theorem modBay_lock (b : Bay) (f : BayCtl → BayCtl) (s : State) : (modBay b f s).lock = s.lock := rfl
@[simp] theorem modBay_comms (b : Bay) (f : BayCtl → BayCtl) (s : State) : (modBay b f s).comms = s.comms := rfl
@[simp] theorem modBay_faults (b : Bay) (f : BayCtl → BayCtl) (s : State) : (modBay b f s).faults = s.faults := rfl
@[simp] theorem modBay_notices (b : Bay) (f : BayCtl → BayCtl) (s : State) : (modBay b f s).notices = s.notices := rfl

/-! `setLampRec` -/

@[simp] theorem setLampRec_pending (b : Bay) (r : Option LampRecord) (s : State) : (setLampRec b r s).pending = s.pending := rfl
@[simp] theorem setLampRec_uptime (b : Bay) (r : Option LampRecord) (s : State) : (setLampRec b r s).uptime = s.uptime := rfl
@[simp] theorem setLampRec_events (b : Bay) (r : Option LampRecord) (s : State) : (setLampRec b r s).events = s.events := rfl
@[simp] theorem setLampRec_choices (b : Bay) (r : Option LampRecord) (s : State) : (setLampRec b r s).choices = s.choices := rfl
@[simp] theorem setLampRec_secondsDone (b : Bay) (r : Option LampRecord) (s : State) : (setLampRec b r s).secondsDone = s.secondsDone := rfl
@[simp] theorem setLampRec_cadenceDone (b : Bay) (r : Option LampRecord) (s : State) : (setLampRec b r s).cadenceDone = s.cadenceDone := rfl
@[simp] theorem setLampRec_pins (b : Bay) (r : Option LampRecord) (s : State) : (setLampRec b r s).pins = s.pins := rfl
@[simp] theorem setLampRec_work (b : Bay) (r : Option LampRecord) (s : State) :
    (setLampRec b r s).work = { s.work with lamps := s.work.lamps.set b r } := rfl
@[simp] theorem setLampRec_store (b : Bay) (r : Option LampRecord) (s : State) : (setLampRec b r s).store = s.store := rfl
@[simp] theorem setLampRec_lamp (b : Bay) (r : Option LampRecord) (s : State) : (setLampRec b r s).lamp = s.lamp := rfl
@[simp] theorem setLampRec_wear (b : Bay) (r : Option LampRecord) (s : State) : (setLampRec b r s).wear = s.wear := rfl
@[simp] theorem setLampRec_mode (b : Bay) (r : Option LampRecord) (s : State) : (setLampRec b r s).mode = s.mode := rfl
@[simp] theorem setLampRec_heat (b : Bay) (r : Option LampRecord) (s : State) : (setLampRec b r s).heat = s.heat := rfl
@[simp] theorem setLampRec_ports (b : Bay) (r : Option LampRecord) (s : State) : (setLampRec b r s).ports = s.ports := rfl
@[simp] theorem setLampRec_sel (b : Bay) (r : Option LampRecord) (s : State) : (setLampRec b r s).sel = s.sel := rfl
@[simp] theorem setLampRec_geo (b : Bay) (r : Option LampRecord) (s : State) : (setLampRec b r s).geo = s.geo := rfl
@[simp] theorem setLampRec_sched (b : Bay) (r : Option LampRecord) (s : State) : (setLampRec b r s).sched = s.sched := rfl
@[simp] theorem setLampRec_lock (b : Bay) (r : Option LampRecord) (s : State) : (setLampRec b r s).lock = s.lock := rfl
@[simp] theorem setLampRec_comms (b : Bay) (r : Option LampRecord) (s : State) : (setLampRec b r s).comms = s.comms := rfl
@[simp] theorem setLampRec_faults (b : Bay) (r : Option LampRecord) (s : State) : (setLampRec b r s).faults = s.faults := rfl
@[simp] theorem setLampRec_notices (b : Bay) (r : Option LampRecord) (s : State) : (setLampRec b r s).notices = s.notices := rfl

/-! `modBayMode` -/

@[simp] theorem modBayMode_pending (b : Bay) (f : BayMode → BayMode) (s : State) : (modBayMode b f s).pending = s.pending := rfl
@[simp] theorem modBayMode_uptime (b : Bay) (f : BayMode → BayMode) (s : State) : (modBayMode b f s).uptime = s.uptime := rfl
@[simp] theorem modBayMode_events (b : Bay) (f : BayMode → BayMode) (s : State) : (modBayMode b f s).events = s.events := rfl
@[simp] theorem modBayMode_choices (b : Bay) (f : BayMode → BayMode) (s : State) : (modBayMode b f s).choices = s.choices := rfl
@[simp] theorem modBayMode_secondsDone (b : Bay) (f : BayMode → BayMode) (s : State) : (modBayMode b f s).secondsDone = s.secondsDone := rfl
@[simp] theorem modBayMode_cadenceDone (b : Bay) (f : BayMode → BayMode) (s : State) : (modBayMode b f s).cadenceDone = s.cadenceDone := rfl
@[simp] theorem modBayMode_pins (b : Bay) (f : BayMode → BayMode) (s : State) : (modBayMode b f s).pins = s.pins := rfl
@[simp] theorem modBayMode_work (b : Bay) (f : BayMode → BayMode) (s : State) : (modBayMode b f s).work = s.work := rfl
@[simp] theorem modBayMode_store (b : Bay) (f : BayMode → BayMode) (s : State) : (modBayMode b f s).store = s.store := rfl
@[simp] theorem modBayMode_lamp (b : Bay) (f : BayMode → BayMode) (s : State) : (modBayMode b f s).lamp = s.lamp := rfl
@[simp] theorem modBayMode_wear (b : Bay) (f : BayMode → BayMode) (s : State) : (modBayMode b f s).wear = s.wear := rfl
@[simp] theorem modBayMode_mode (b : Bay) (f : BayMode → BayMode) (s : State) :
    (modBayMode b f s).mode = { s.mode with bays := s.mode.bays.set b (f (s.mode.bays.get b)) } := rfl
@[simp] theorem modBayMode_heat (b : Bay) (f : BayMode → BayMode) (s : State) : (modBayMode b f s).heat = s.heat := rfl
@[simp] theorem modBayMode_ports (b : Bay) (f : BayMode → BayMode) (s : State) : (modBayMode b f s).ports = s.ports := rfl
@[simp] theorem modBayMode_sel (b : Bay) (f : BayMode → BayMode) (s : State) : (modBayMode b f s).sel = s.sel := rfl
@[simp] theorem modBayMode_geo (b : Bay) (f : BayMode → BayMode) (s : State) : (modBayMode b f s).geo = s.geo := rfl
@[simp] theorem modBayMode_sched (b : Bay) (f : BayMode → BayMode) (s : State) : (modBayMode b f s).sched = s.sched := rfl
@[simp] theorem modBayMode_lock (b : Bay) (f : BayMode → BayMode) (s : State) : (modBayMode b f s).lock = s.lock := rfl
@[simp] theorem modBayMode_comms (b : Bay) (f : BayMode → BayMode) (s : State) : (modBayMode b f s).comms = s.comms := rfl
@[simp] theorem modBayMode_faults (b : Bay) (f : BayMode → BayMode) (s : State) : (modBayMode b f s).faults = s.faults := rfl
@[simp] theorem modBayMode_notices (b : Bay) (f : BayMode → BayMode) (s : State) : (modBayMode b f s).notices = s.notices := rfl

/-! `modSel` -/

@[simp] theorem modSel_pending (f : Selector → Selector) (s : State) : (modSel f s).pending = s.pending := rfl
@[simp] theorem modSel_uptime (f : Selector → Selector) (s : State) : (modSel f s).uptime = s.uptime := rfl
@[simp] theorem modSel_events (f : Selector → Selector) (s : State) : (modSel f s).events = s.events := rfl
@[simp] theorem modSel_choices (f : Selector → Selector) (s : State) : (modSel f s).choices = s.choices := rfl
@[simp] theorem modSel_secondsDone (f : Selector → Selector) (s : State) : (modSel f s).secondsDone = s.secondsDone := rfl
@[simp] theorem modSel_cadenceDone (f : Selector → Selector) (s : State) : (modSel f s).cadenceDone = s.cadenceDone := rfl
@[simp] theorem modSel_pins (f : Selector → Selector) (s : State) : (modSel f s).pins = s.pins := rfl
@[simp] theorem modSel_work (f : Selector → Selector) (s : State) : (modSel f s).work = s.work := rfl
@[simp] theorem modSel_store (f : Selector → Selector) (s : State) : (modSel f s).store = s.store := rfl
@[simp] theorem modSel_lamp (f : Selector → Selector) (s : State) : (modSel f s).lamp = s.lamp := rfl
@[simp] theorem modSel_wear (f : Selector → Selector) (s : State) : (modSel f s).wear = s.wear := rfl
@[simp] theorem modSel_mode (f : Selector → Selector) (s : State) : (modSel f s).mode = s.mode := rfl
@[simp] theorem modSel_heat (f : Selector → Selector) (s : State) : (modSel f s).heat = s.heat := rfl
@[simp] theorem modSel_ports (f : Selector → Selector) (s : State) : (modSel f s).ports = s.ports := rfl
@[simp] theorem modSel_sel (f : Selector → Selector) (s : State) : (modSel f s).sel = f s.sel := rfl
@[simp] theorem modSel_geo (f : Selector → Selector) (s : State) : (modSel f s).geo = s.geo := rfl
@[simp] theorem modSel_sched (f : Selector → Selector) (s : State) : (modSel f s).sched = s.sched := rfl
@[simp] theorem modSel_lock (f : Selector → Selector) (s : State) : (modSel f s).lock = s.lock := rfl
@[simp] theorem modSel_comms (f : Selector → Selector) (s : State) : (modSel f s).comms = s.comms := rfl
@[simp] theorem modSel_faults (f : Selector → Selector) (s : State) : (modSel f s).faults = s.faults := rfl
@[simp] theorem modSel_notices (f : Selector → Selector) (s : State) : (modSel f s).notices = s.notices := rfl

/-! `modSched` -/

@[simp] theorem modSched_pending (f : Sched → Sched) (s : State) : (modSched f s).pending = s.pending := rfl
@[simp] theorem modSched_uptime (f : Sched → Sched) (s : State) : (modSched f s).uptime = s.uptime := rfl
@[simp] theorem modSched_events (f : Sched → Sched) (s : State) : (modSched f s).events = s.events := rfl
@[simp] theorem modSched_choices (f : Sched → Sched) (s : State) : (modSched f s).choices = s.choices := rfl
@[simp] theorem modSched_secondsDone (f : Sched → Sched) (s : State) : (modSched f s).secondsDone = s.secondsDone := rfl
@[simp] theorem modSched_cadenceDone (f : Sched → Sched) (s : State) : (modSched f s).cadenceDone = s.cadenceDone := rfl
@[simp] theorem modSched_pins (f : Sched → Sched) (s : State) : (modSched f s).pins = s.pins := rfl
@[simp] theorem modSched_work (f : Sched → Sched) (s : State) : (modSched f s).work = s.work := rfl
@[simp] theorem modSched_store (f : Sched → Sched) (s : State) : (modSched f s).store = s.store := rfl
@[simp] theorem modSched_lamp (f : Sched → Sched) (s : State) : (modSched f s).lamp = s.lamp := rfl
@[simp] theorem modSched_wear (f : Sched → Sched) (s : State) : (modSched f s).wear = s.wear := rfl
@[simp] theorem modSched_mode (f : Sched → Sched) (s : State) : (modSched f s).mode = s.mode := rfl
@[simp] theorem modSched_heat (f : Sched → Sched) (s : State) : (modSched f s).heat = s.heat := rfl
@[simp] theorem modSched_ports (f : Sched → Sched) (s : State) : (modSched f s).ports = s.ports := rfl
@[simp] theorem modSched_sel (f : Sched → Sched) (s : State) : (modSched f s).sel = s.sel := rfl
@[simp] theorem modSched_geo (f : Sched → Sched) (s : State) : (modSched f s).geo = s.geo := rfl
@[simp] theorem modSched_sched (f : Sched → Sched) (s : State) : (modSched f s).sched = f s.sched := rfl
@[simp] theorem modSched_lock (f : Sched → Sched) (s : State) : (modSched f s).lock = s.lock := rfl
@[simp] theorem modSched_comms (f : Sched → Sched) (s : State) : (modSched f s).comms = s.comms := rfl
@[simp] theorem modSched_faults (f : Sched → Sched) (s : State) : (modSched f s).faults = s.faults := rfl
@[simp] theorem modSched_notices (f : Sched → Sched) (s : State) : (modSched f s).notices = s.notices := rfl

/-! `notify` -/

@[simp] theorem notify_pending (k : NoticeKind) (x : Subject) (l : List String) (s : State) : (notify k x l s).pending = s.pending := rfl
@[simp] theorem notify_uptime (k : NoticeKind) (x : Subject) (l : List String) (s : State) : (notify k x l s).uptime = s.uptime := rfl
@[simp] theorem notify_events (k : NoticeKind) (x : Subject) (l : List String) (s : State) : (notify k x l s).events = s.events := rfl
@[simp] theorem notify_choices (k : NoticeKind) (x : Subject) (l : List String) (s : State) : (notify k x l s).choices = s.choices := rfl
@[simp] theorem notify_secondsDone (k : NoticeKind) (x : Subject) (l : List String) (s : State) : (notify k x l s).secondsDone = s.secondsDone := rfl
@[simp] theorem notify_cadenceDone (k : NoticeKind) (x : Subject) (l : List String) (s : State) : (notify k x l s).cadenceDone = s.cadenceDone := rfl
@[simp] theorem notify_pins (k : NoticeKind) (x : Subject) (l : List String) (s : State) : (notify k x l s).pins = s.pins := rfl
@[simp] theorem notify_work (k : NoticeKind) (x : Subject) (l : List String) (s : State) : (notify k x l s).work = s.work := rfl
@[simp] theorem notify_store (k : NoticeKind) (x : Subject) (l : List String) (s : State) : (notify k x l s).store = s.store := rfl
@[simp] theorem notify_lamp (k : NoticeKind) (x : Subject) (l : List String) (s : State) : (notify k x l s).lamp = s.lamp := rfl
@[simp] theorem notify_wear (k : NoticeKind) (x : Subject) (l : List String) (s : State) : (notify k x l s).wear = s.wear := rfl
@[simp] theorem notify_mode (k : NoticeKind) (x : Subject) (l : List String) (s : State) : (notify k x l s).mode = s.mode := rfl
@[simp] theorem notify_heat (k : NoticeKind) (x : Subject) (l : List String) (s : State) : (notify k x l s).heat = s.heat := rfl
@[simp] theorem notify_ports (k : NoticeKind) (x : Subject) (l : List String) (s : State) : (notify k x l s).ports = s.ports := rfl
@[simp] theorem notify_sel (k : NoticeKind) (x : Subject) (l : List String) (s : State) : (notify k x l s).sel = s.sel := rfl
@[simp] theorem notify_geo (k : NoticeKind) (x : Subject) (l : List String) (s : State) : (notify k x l s).geo = s.geo := rfl
@[simp] theorem notify_sched (k : NoticeKind) (x : Subject) (l : List String) (s : State) : (notify k x l s).sched = s.sched := rfl
@[simp] theorem notify_lock (k : NoticeKind) (x : Subject) (l : List String) (s : State) : (notify k x l s).lock = s.lock := rfl
@[simp] theorem notify_comms (k : NoticeKind) (x : Subject) (l : List String) (s : State) : (notify k x l s).comms = s.comms := rfl
@[simp] theorem notify_faults (k : NoticeKind) (x : Subject) (l : List String) (s : State) : (notify k x l s).faults = s.faults := rfl
@[simp] theorem notify_notices (k : NoticeKind) (x : Subject) (l : List String) (s : State) :
    (notify k x l s).notices = s.notices.put ⟨k, x, l⟩ := rfl

/-! `lampNotice` -/

@[simp] theorem lampNotice_pending (b : Bay) (st : BaySt) (s : State) : (lampNotice b st s).pending = s.pending := rfl
@[simp] theorem lampNotice_uptime (b : Bay) (st : BaySt) (s : State) : (lampNotice b st s).uptime = s.uptime := rfl
@[simp] theorem lampNotice_events (b : Bay) (st : BaySt) (s : State) : (lampNotice b st s).events = s.events := rfl
@[simp] theorem lampNotice_choices (b : Bay) (st : BaySt) (s : State) : (lampNotice b st s).choices = s.choices := rfl
@[simp] theorem lampNotice_secondsDone (b : Bay) (st : BaySt) (s : State) : (lampNotice b st s).secondsDone = s.secondsDone := rfl
@[simp] theorem lampNotice_cadenceDone (b : Bay) (st : BaySt) (s : State) : (lampNotice b st s).cadenceDone = s.cadenceDone := rfl
@[simp] theorem lampNotice_pins (b : Bay) (st : BaySt) (s : State) : (lampNotice b st s).pins = s.pins := rfl
@[simp] theorem lampNotice_work (b : Bay) (st : BaySt) (s : State) : (lampNotice b st s).work = s.work := rfl
@[simp] theorem lampNotice_store (b : Bay) (st : BaySt) (s : State) : (lampNotice b st s).store = s.store := rfl
@[simp] theorem lampNotice_lamp (b : Bay) (st : BaySt) (s : State) : (lampNotice b st s).lamp = s.lamp := rfl
@[simp] theorem lampNotice_wear (b : Bay) (st : BaySt) (s : State) : (lampNotice b st s).wear = s.wear := rfl
@[simp] theorem lampNotice_mode (b : Bay) (st : BaySt) (s : State) : (lampNotice b st s).mode = s.mode := rfl
@[simp] theorem lampNotice_heat (b : Bay) (st : BaySt) (s : State) : (lampNotice b st s).heat = s.heat := rfl
@[simp] theorem lampNotice_ports (b : Bay) (st : BaySt) (s : State) : (lampNotice b st s).ports = s.ports := rfl
@[simp] theorem lampNotice_sel (b : Bay) (st : BaySt) (s : State) : (lampNotice b st s).sel = s.sel := rfl
@[simp] theorem lampNotice_geo (b : Bay) (st : BaySt) (s : State) : (lampNotice b st s).geo = s.geo := rfl
@[simp] theorem lampNotice_sched (b : Bay) (st : BaySt) (s : State) : (lampNotice b st s).sched = s.sched := rfl
@[simp] theorem lampNotice_lock (b : Bay) (st : BaySt) (s : State) : (lampNotice b st s).lock = s.lock := rfl
@[simp] theorem lampNotice_comms (b : Bay) (st : BaySt) (s : State) : (lampNotice b st s).comms = s.comms := rfl
@[simp] theorem lampNotice_faults (b : Bay) (st : BaySt) (s : State) : (lampNotice b st s).faults = s.faults := rfl
@[simp] theorem lampNotice_notices (b : Bay) (st : BaySt) (s : State) :
    (lampNotice b st s).notices = s.notices.put ⟨.lamp, .bay b, [showBaySt st]⟩ := rfl

/-! `lockNotice` -/

@[simp] theorem lockNotice_pending (s : State) : (lockNotice s).pending = s.pending := rfl
@[simp] theorem lockNotice_uptime (s : State) : (lockNotice s).uptime = s.uptime := rfl
@[simp] theorem lockNotice_events (s : State) : (lockNotice s).events = s.events := rfl
@[simp] theorem lockNotice_choices (s : State) : (lockNotice s).choices = s.choices := rfl
@[simp] theorem lockNotice_secondsDone (s : State) : (lockNotice s).secondsDone = s.secondsDone := rfl
@[simp] theorem lockNotice_cadenceDone (s : State) : (lockNotice s).cadenceDone = s.cadenceDone := rfl
@[simp] theorem lockNotice_pins (s : State) : (lockNotice s).pins = s.pins := rfl
@[simp] theorem lockNotice_work (s : State) : (lockNotice s).work = s.work := rfl
@[simp] theorem lockNotice_store (s : State) : (lockNotice s).store = s.store := rfl
@[simp] theorem lockNotice_lamp (s : State) : (lockNotice s).lamp = s.lamp := rfl
@[simp] theorem lockNotice_wear (s : State) : (lockNotice s).wear = s.wear := rfl
@[simp] theorem lockNotice_mode (s : State) : (lockNotice s).mode = s.mode := rfl
@[simp] theorem lockNotice_heat (s : State) : (lockNotice s).heat = s.heat := rfl
@[simp] theorem lockNotice_ports (s : State) : (lockNotice s).ports = s.ports := rfl
@[simp] theorem lockNotice_sel (s : State) : (lockNotice s).sel = s.sel := rfl
@[simp] theorem lockNotice_geo (s : State) : (lockNotice s).geo = s.geo := rfl
@[simp] theorem lockNotice_sched (s : State) : (lockNotice s).sched = s.sched := rfl
@[simp] theorem lockNotice_lock (s : State) : (lockNotice s).lock = s.lock := rfl
@[simp] theorem lockNotice_comms (s : State) : (lockNotice s).comms = s.comms := rfl
@[simp] theorem lockNotice_faults (s : State) : (lockNotice s).faults = s.faults := rfl

/-! `sourceNotice` -/

@[simp] theorem sourceNotice_pending (s : State) : (sourceNotice s).pending = s.pending := rfl
@[simp] theorem sourceNotice_uptime (s : State) : (sourceNotice s).uptime = s.uptime := rfl
@[simp] theorem sourceNotice_events (s : State) : (sourceNotice s).events = s.events := rfl
@[simp] theorem sourceNotice_choices (s : State) : (sourceNotice s).choices = s.choices := rfl
@[simp] theorem sourceNotice_secondsDone (s : State) : (sourceNotice s).secondsDone = s.secondsDone := rfl
@[simp] theorem sourceNotice_cadenceDone (s : State) : (sourceNotice s).cadenceDone = s.cadenceDone := rfl
@[simp] theorem sourceNotice_pins (s : State) : (sourceNotice s).pins = s.pins := rfl
@[simp] theorem sourceNotice_work (s : State) : (sourceNotice s).work = s.work := rfl
@[simp] theorem sourceNotice_store (s : State) : (sourceNotice s).store = s.store := rfl
@[simp] theorem sourceNotice_lamp (s : State) : (sourceNotice s).lamp = s.lamp := rfl
@[simp] theorem sourceNotice_wear (s : State) : (sourceNotice s).wear = s.wear := rfl
@[simp] theorem sourceNotice_mode (s : State) : (sourceNotice s).mode = s.mode := rfl
@[simp] theorem sourceNotice_heat (s : State) : (sourceNotice s).heat = s.heat := rfl
@[simp] theorem sourceNotice_ports (s : State) : (sourceNotice s).ports = s.ports := rfl
@[simp] theorem sourceNotice_sel (s : State) : (sourceNotice s).sel = s.sel := rfl
@[simp] theorem sourceNotice_geo (s : State) : (sourceNotice s).geo = s.geo := rfl
@[simp] theorem sourceNotice_sched (s : State) : (sourceNotice s).sched = s.sched := rfl
@[simp] theorem sourceNotice_lock (s : State) : (sourceNotice s).lock = s.lock := rfl
@[simp] theorem sourceNotice_comms (s : State) : (sourceNotice s).comms = s.comms := rfl
@[simp] theorem sourceNotice_faults (s : State) : (sourceNotice s).faults = s.faults := rfl

/-! `clearUnlocked` -/

@[simp] theorem clearUnlocked_pending (s : State) : (clearUnlocked s).pending = s.pending := rfl
@[simp] theorem clearUnlocked_uptime (s : State) : (clearUnlocked s).uptime = s.uptime := rfl
@[simp] theorem clearUnlocked_events (s : State) : (clearUnlocked s).events = s.events := rfl
@[simp] theorem clearUnlocked_choices (s : State) : (clearUnlocked s).choices = s.choices := rfl
@[simp] theorem clearUnlocked_secondsDone (s : State) : (clearUnlocked s).secondsDone = s.secondsDone := rfl
@[simp] theorem clearUnlocked_cadenceDone (s : State) : (clearUnlocked s).cadenceDone = s.cadenceDone := rfl
@[simp] theorem clearUnlocked_pins (s : State) : (clearUnlocked s).pins = s.pins := rfl
@[simp] theorem clearUnlocked_work (s : State) : (clearUnlocked s).work = s.work := rfl
@[simp] theorem clearUnlocked_store (s : State) : (clearUnlocked s).store = s.store := rfl
@[simp] theorem clearUnlocked_lamp (s : State) : (clearUnlocked s).lamp = s.lamp := rfl
@[simp] theorem clearUnlocked_wear (s : State) : (clearUnlocked s).wear = s.wear := rfl
@[simp] theorem clearUnlocked_mode (s : State) : (clearUnlocked s).mode = s.mode := rfl
@[simp] theorem clearUnlocked_heat (s : State) : (clearUnlocked s).heat = s.heat := rfl
@[simp] theorem clearUnlocked_ports (s : State) : (clearUnlocked s).ports = s.ports := rfl
@[simp] theorem clearUnlocked_sel (s : State) : (clearUnlocked s).sel = s.sel := rfl
@[simp] theorem clearUnlocked_geo (s : State) : (clearUnlocked s).geo = s.geo := rfl
@[simp] theorem clearUnlocked_sched (s : State) : (clearUnlocked s).sched = s.sched := rfl
@[simp] theorem clearUnlocked_lock (s : State) :
    (clearUnlocked s).lock = { s.lock with unlocked := false, unlockedBy := none } := rfl
@[simp] theorem clearUnlocked_comms (s : State) : (clearUnlocked s).comms = s.comms := rfl
@[simp] theorem clearUnlocked_faults (s : State) : (clearUnlocked s).faults = s.faults := rfl
@[simp] theorem clearUnlocked_notices (s : State) : (clearUnlocked s).notices = s.notices := rfl

/-! `setLit` -/

@[simp] theorem setLit_pending (b : Bay) (v : Bool) (s : State) : (setLit b v s).pending = s.pending := rfl
@[simp] theorem setLit_uptime (b : Bay) (v : Bool) (s : State) : (setLit b v s).uptime = s.uptime := rfl
@[simp] theorem setLit_events (b : Bay) (v : Bool) (s : State) : (setLit b v s).events = s.events := rfl
@[simp] theorem setLit_choices (b : Bay) (v : Bool) (s : State) : (setLit b v s).choices = s.choices := rfl
@[simp] theorem setLit_secondsDone (b : Bay) (v : Bool) (s : State) : (setLit b v s).secondsDone = s.secondsDone := rfl
@[simp] theorem setLit_cadenceDone (b : Bay) (v : Bool) (s : State) : (setLit b v s).cadenceDone = s.cadenceDone := rfl
@[simp] theorem setLit_pins (b : Bay) (v : Bool) (s : State) :
    (setLit b v s).pins = { s.pins with lit := s.pins.lit.set b v } := rfl
@[simp] theorem setLit_work (b : Bay) (v : Bool) (s : State) : (setLit b v s).work = s.work := rfl
@[simp] theorem setLit_store (b : Bay) (v : Bool) (s : State) : (setLit b v s).store = s.store := rfl
@[simp] theorem setLit_lamp (b : Bay) (v : Bool) (s : State) : (setLit b v s).lamp = s.lamp := rfl
@[simp] theorem setLit_wear (b : Bay) (v : Bool) (s : State) : (setLit b v s).wear = s.wear := rfl
@[simp] theorem setLit_mode (b : Bay) (v : Bool) (s : State) : (setLit b v s).mode = s.mode := rfl
@[simp] theorem setLit_heat (b : Bay) (v : Bool) (s : State) : (setLit b v s).heat = s.heat := rfl
@[simp] theorem setLit_ports (b : Bay) (v : Bool) (s : State) : (setLit b v s).ports = s.ports := rfl
@[simp] theorem setLit_sel (b : Bay) (v : Bool) (s : State) : (setLit b v s).sel = s.sel := rfl
@[simp] theorem setLit_geo (b : Bay) (v : Bool) (s : State) : (setLit b v s).geo = s.geo := rfl
@[simp] theorem setLit_sched (b : Bay) (v : Bool) (s : State) : (setLit b v s).sched = s.sched := rfl
@[simp] theorem setLit_lock (b : Bay) (v : Bool) (s : State) : (setLit b v s).lock = s.lock := rfl
@[simp] theorem setLit_comms (b : Bay) (v : Bool) (s : State) : (setLit b v s).comms = s.comms := rfl
@[simp] theorem setLit_faults (b : Bay) (v : Bool) (s : State) : (setLit b v s).faults = s.faults := rfl
@[simp] theorem setLit_notices (b : Bay) (v : Bool) (s : State) : (setLit b v s).notices = s.notices := rfl

/-! `setDoor` -/

@[simp] theorem setDoor_pending (b : Bay) (v : Bool) (s : State) : (setDoor b v s).pending = s.pending := rfl
@[simp] theorem setDoor_uptime (b : Bay) (v : Bool) (s : State) : (setDoor b v s).uptime = s.uptime := rfl
@[simp] theorem setDoor_events (b : Bay) (v : Bool) (s : State) : (setDoor b v s).events = s.events := rfl
@[simp] theorem setDoor_choices (b : Bay) (v : Bool) (s : State) : (setDoor b v s).choices = s.choices := rfl
@[simp] theorem setDoor_secondsDone (b : Bay) (v : Bool) (s : State) : (setDoor b v s).secondsDone = s.secondsDone := rfl
@[simp] theorem setDoor_cadenceDone (b : Bay) (v : Bool) (s : State) : (setDoor b v s).cadenceDone = s.cadenceDone := rfl
@[simp] theorem setDoor_pins (b : Bay) (v : Bool) (s : State) :
    (setDoor b v s).pins = { s.pins with door := s.pins.door.set b v } := rfl
@[simp] theorem setDoor_work (b : Bay) (v : Bool) (s : State) : (setDoor b v s).work = s.work := rfl
@[simp] theorem setDoor_store (b : Bay) (v : Bool) (s : State) : (setDoor b v s).store = s.store := rfl
@[simp] theorem setDoor_lamp (b : Bay) (v : Bool) (s : State) : (setDoor b v s).lamp = s.lamp := rfl
@[simp] theorem setDoor_wear (b : Bay) (v : Bool) (s : State) : (setDoor b v s).wear = s.wear := rfl
@[simp] theorem setDoor_mode (b : Bay) (v : Bool) (s : State) : (setDoor b v s).mode = s.mode := rfl
@[simp] theorem setDoor_heat (b : Bay) (v : Bool) (s : State) : (setDoor b v s).heat = s.heat := rfl
@[simp] theorem setDoor_ports (b : Bay) (v : Bool) (s : State) : (setDoor b v s).ports = s.ports := rfl
@[simp] theorem setDoor_sel (b : Bay) (v : Bool) (s : State) : (setDoor b v s).sel = s.sel := rfl
@[simp] theorem setDoor_geo (b : Bay) (v : Bool) (s : State) : (setDoor b v s).geo = s.geo := rfl
@[simp] theorem setDoor_sched (b : Bay) (v : Bool) (s : State) : (setDoor b v s).sched = s.sched := rfl
@[simp] theorem setDoor_lock (b : Bay) (v : Bool) (s : State) : (setDoor b v s).lock = s.lock := rfl
@[simp] theorem setDoor_comms (b : Bay) (v : Bool) (s : State) : (setDoor b v s).comms = s.comms := rfl
@[simp] theorem setDoor_faults (b : Bay) (v : Bool) (s : State) : (setDoor b v s).faults = s.faults := rfl
@[simp] theorem setDoor_notices (b : Bay) (v : Bool) (s : State) : (setDoor b v s).notices = s.notices := rfl

/-! `setBallast` -/

@[simp] theorem setBallast_pending (b : Bay) (v : Bool) (s : State) : (setBallast b v s).pending = s.pending := rfl
@[simp] theorem setBallast_uptime (b : Bay) (v : Bool) (s : State) : (setBallast b v s).uptime = s.uptime := rfl
@[simp] theorem setBallast_events (b : Bay) (v : Bool) (s : State) : (setBallast b v s).events = s.events := rfl
@[simp] theorem setBallast_choices (b : Bay) (v : Bool) (s : State) : (setBallast b v s).choices = s.choices := rfl
@[simp] theorem setBallast_secondsDone (b : Bay) (v : Bool) (s : State) : (setBallast b v s).secondsDone = s.secondsDone := rfl
@[simp] theorem setBallast_cadenceDone (b : Bay) (v : Bool) (s : State) : (setBallast b v s).cadenceDone = s.cadenceDone := rfl
@[simp] theorem setBallast_pins (b : Bay) (v : Bool) (s : State) :
    (setBallast b v s).pins = { s.pins with ballast := s.pins.ballast.set b v } := rfl
@[simp] theorem setBallast_work (b : Bay) (v : Bool) (s : State) : (setBallast b v s).work = s.work := rfl
@[simp] theorem setBallast_store (b : Bay) (v : Bool) (s : State) : (setBallast b v s).store = s.store := rfl
@[simp] theorem setBallast_lamp (b : Bay) (v : Bool) (s : State) : (setBallast b v s).lamp = s.lamp := rfl
@[simp] theorem setBallast_wear (b : Bay) (v : Bool) (s : State) : (setBallast b v s).wear = s.wear := rfl
@[simp] theorem setBallast_mode (b : Bay) (v : Bool) (s : State) : (setBallast b v s).mode = s.mode := rfl
@[simp] theorem setBallast_heat (b : Bay) (v : Bool) (s : State) : (setBallast b v s).heat = s.heat := rfl
@[simp] theorem setBallast_ports (b : Bay) (v : Bool) (s : State) : (setBallast b v s).ports = s.ports := rfl
@[simp] theorem setBallast_sel (b : Bay) (v : Bool) (s : State) : (setBallast b v s).sel = s.sel := rfl
@[simp] theorem setBallast_geo (b : Bay) (v : Bool) (s : State) : (setBallast b v s).geo = s.geo := rfl
@[simp] theorem setBallast_sched (b : Bay) (v : Bool) (s : State) : (setBallast b v s).sched = s.sched := rfl
@[simp] theorem setBallast_lock (b : Bay) (v : Bool) (s : State) : (setBallast b v s).lock = s.lock := rfl
@[simp] theorem setBallast_comms (b : Bay) (v : Bool) (s : State) : (setBallast b v s).comms = s.comms := rfl
@[simp] theorem setBallast_faults (b : Bay) (v : Bool) (s : State) : (setBallast b v s).faults = s.faults := rfl
@[simp] theorem setBallast_notices (b : Bay) (v : Bool) (s : State) : (setBallast b v s).notices = s.notices := rfl

/-! `modChan` -/

@[simp] theorem modChan_pending (p : CmdPort) (f : Channel → Channel) (s : State) : (modChan p f s).pending = s.pending := by cases p <;> rfl
@[simp] theorem modChan_uptime (p : CmdPort) (f : Channel → Channel) (s : State) : (modChan p f s).uptime = s.uptime := by cases p <;> rfl
@[simp] theorem modChan_events (p : CmdPort) (f : Channel → Channel) (s : State) : (modChan p f s).events = s.events := by cases p <;> rfl
@[simp] theorem modChan_choices (p : CmdPort) (f : Channel → Channel) (s : State) : (modChan p f s).choices = s.choices := by cases p <;> rfl
@[simp] theorem modChan_secondsDone (p : CmdPort) (f : Channel → Channel) (s : State) : (modChan p f s).secondsDone = s.secondsDone := by cases p <;> rfl
@[simp] theorem modChan_cadenceDone (p : CmdPort) (f : Channel → Channel) (s : State) : (modChan p f s).cadenceDone = s.cadenceDone := by cases p <;> rfl
@[simp] theorem modChan_pins (p : CmdPort) (f : Channel → Channel) (s : State) : (modChan p f s).pins = s.pins := by cases p <;> rfl
@[simp] theorem modChan_work (p : CmdPort) (f : Channel → Channel) (s : State) : (modChan p f s).work = s.work := by cases p <;> rfl
@[simp] theorem modChan_store (p : CmdPort) (f : Channel → Channel) (s : State) : (modChan p f s).store = s.store := by cases p <;> rfl
@[simp] theorem modChan_lamp (p : CmdPort) (f : Channel → Channel) (s : State) : (modChan p f s).lamp = s.lamp := by cases p <;> rfl
@[simp] theorem modChan_wear (p : CmdPort) (f : Channel → Channel) (s : State) : (modChan p f s).wear = s.wear := by cases p <;> rfl
@[simp] theorem modChan_mode (p : CmdPort) (f : Channel → Channel) (s : State) : (modChan p f s).mode = s.mode := by cases p <;> rfl
@[simp] theorem modChan_heat (p : CmdPort) (f : Channel → Channel) (s : State) : (modChan p f s).heat = s.heat := by cases p <;> rfl
@[simp] theorem modChan_ports (p : CmdPort) (f : Channel → Channel) (s : State) : (modChan p f s).ports = s.ports := by cases p <;> rfl
@[simp] theorem modChan_sel (p : CmdPort) (f : Channel → Channel) (s : State) : (modChan p f s).sel = s.sel := by cases p <;> rfl
@[simp] theorem modChan_geo (p : CmdPort) (f : Channel → Channel) (s : State) : (modChan p f s).geo = s.geo := by cases p <;> rfl
@[simp] theorem modChan_sched (p : CmdPort) (f : Channel → Channel) (s : State) : (modChan p f s).sched = s.sched := by cases p <;> rfl
@[simp] theorem modChan_lock (p : CmdPort) (f : Channel → Channel) (s : State) : (modChan p f s).lock = s.lock := by cases p <;> rfl
@[simp] theorem modChan_faults (p : CmdPort) (f : Channel → Channel) (s : State) : (modChan p f s).faults = s.faults := by cases p <;> rfl
@[simp] theorem modChan_notices (p : CmdPort) (f : Channel → Channel) (s : State) : (modChan p f s).notices = s.notices := by cases p <;> rfl

/-! `setImmediate` -/

@[simp] theorem setImmediate_pending (s : State) : (setImmediate s).pending = s.pending := rfl
@[simp] theorem setImmediate_uptime (s : State) : (setImmediate s).uptime = s.uptime := rfl
@[simp] theorem setImmediate_events (s : State) : (setImmediate s).events = s.events := rfl
@[simp] theorem setImmediate_choices (s : State) : (setImmediate s).choices = s.choices := rfl
@[simp] theorem setImmediate_secondsDone (s : State) : (setImmediate s).secondsDone = s.secondsDone := rfl
@[simp] theorem setImmediate_cadenceDone (s : State) : (setImmediate s).cadenceDone = s.cadenceDone := rfl
@[simp] theorem setImmediate_pins (s : State) : (setImmediate s).pins = s.pins := rfl
@[simp] theorem setImmediate_work (s : State) : (setImmediate s).work = s.work := rfl
@[simp] theorem setImmediate_store (s : State) : (setImmediate s).store = s.store := rfl
@[simp] theorem setImmediate_lamp (s : State) : (setImmediate s).lamp = s.lamp := rfl
@[simp] theorem setImmediate_wear (s : State) : (setImmediate s).wear = s.wear := rfl
@[simp] theorem setImmediate_mode (s : State) : (setImmediate s).mode = s.mode := rfl
@[simp] theorem setImmediate_heat (s : State) : (setImmediate s).heat = s.heat := rfl
@[simp] theorem setImmediate_ports (s : State) : (setImmediate s).ports = s.ports := rfl
@[simp] theorem setImmediate_sel (s : State) : (setImmediate s).sel = s.sel := rfl
@[simp] theorem setImmediate_geo (s : State) : (setImmediate s).geo = { s.geo with imm := true, cand := none, agree := 0 } := rfl
@[simp] theorem setImmediate_sched (s : State) : (setImmediate s).sched = s.sched := rfl
@[simp] theorem setImmediate_lock (s : State) : (setImmediate s).lock = s.lock := rfl
@[simp] theorem setImmediate_comms (s : State) : (setImmediate s).comms = s.comms := rfl
@[simp] theorem setImmediate_faults (s : State) : (setImmediate s).faults = s.faults := rfl
@[simp] theorem setImmediate_notices (s : State) : (setImmediate s).notices = s.notices := rfl

/-! `clearNudges` -/

@[simp] theorem clearNudges_pending (s : State) : (clearNudges s).pending = s.pending := rfl
@[simp] theorem clearNudges_uptime (s : State) : (clearNudges s).uptime = s.uptime := rfl
@[simp] theorem clearNudges_events (s : State) : (clearNudges s).events = s.events := rfl
@[simp] theorem clearNudges_choices (s : State) : (clearNudges s).choices = s.choices := rfl
@[simp] theorem clearNudges_secondsDone (s : State) : (clearNudges s).secondsDone = s.secondsDone := rfl
@[simp] theorem clearNudges_cadenceDone (s : State) : (clearNudges s).cadenceDone = s.cadenceDone := rfl
@[simp] theorem clearNudges_pins (s : State) : (clearNudges s).pins = s.pins := rfl
@[simp] theorem clearNudges_work (s : State) : (clearNudges s).work = s.work := rfl
@[simp] theorem clearNudges_store (s : State) : (clearNudges s).store = s.store := rfl
@[simp] theorem clearNudges_lamp (s : State) : (clearNudges s).lamp = s.lamp := rfl
@[simp] theorem clearNudges_wear (s : State) : (clearNudges s).wear = s.wear := rfl
@[simp] theorem clearNudges_mode (s : State) : (clearNudges s).mode = s.mode := rfl
@[simp] theorem clearNudges_heat (s : State) : (clearNudges s).heat = s.heat := rfl
@[simp] theorem clearNudges_ports (s : State) : (clearNudges s).ports = s.ports := rfl
@[simp] theorem clearNudges_sel (s : State) : (clearNudges s).sel = s.sel := rfl
@[simp] theorem clearNudges_geo (s : State) : (clearNudges s).geo = { s.geo with vAdj := 0, hAdj := 0 } := rfl
@[simp] theorem clearNudges_sched (s : State) : (clearNudges s).sched = s.sched := rfl
@[simp] theorem clearNudges_lock (s : State) : (clearNudges s).lock = s.lock := rfl
@[simp] theorem clearNudges_comms (s : State) : (clearNudges s).comms = s.comms := rfl
@[simp] theorem clearNudges_faults (s : State) : (clearNudges s).faults = s.faults := rfl
@[simp] theorem clearNudges_notices (s : State) : (clearNudges s).notices = s.notices := rfl

/-! `putExceptions` -/

@[simp] theorem putExceptions_pending (l : List Exc) (s : State) : (putExceptions l s).pending = s.pending := rfl
@[simp] theorem putExceptions_uptime (l : List Exc) (s : State) : (putExceptions l s).uptime = s.uptime := rfl
@[simp] theorem putExceptions_events (l : List Exc) (s : State) : (putExceptions l s).events = s.events := rfl
@[simp] theorem putExceptions_choices (l : List Exc) (s : State) : (putExceptions l s).choices = s.choices := rfl
@[simp] theorem putExceptions_secondsDone (l : List Exc) (s : State) : (putExceptions l s).secondsDone = s.secondsDone := rfl
@[simp] theorem putExceptions_cadenceDone (l : List Exc) (s : State) : (putExceptions l s).cadenceDone = s.cadenceDone := rfl
@[simp] theorem putExceptions_pins (l : List Exc) (s : State) : (putExceptions l s).pins = s.pins := rfl
@[simp] theorem putExceptions_work (l : List Exc) (s : State) : (putExceptions l s).work = { s.work with exceptions := l } := rfl
@[simp] theorem putExceptions_store (l : List Exc) (s : State) : (putExceptions l s).store = s.store := rfl
@[simp] theorem putExceptions_lamp (l : List Exc) (s : State) : (putExceptions l s).lamp = s.lamp := rfl
@[simp] theorem putExceptions_wear (l : List Exc) (s : State) : (putExceptions l s).wear = s.wear := rfl
@[simp] theorem putExceptions_mode (l : List Exc) (s : State) : (putExceptions l s).mode = s.mode := rfl
@[simp] theorem putExceptions_heat (l : List Exc) (s : State) : (putExceptions l s).heat = s.heat := rfl
@[simp] theorem putExceptions_ports (l : List Exc) (s : State) : (putExceptions l s).ports = s.ports := rfl
@[simp] theorem putExceptions_sel (l : List Exc) (s : State) : (putExceptions l s).sel = s.sel := rfl
@[simp] theorem putExceptions_geo (l : List Exc) (s : State) : (putExceptions l s).geo = s.geo := rfl
@[simp] theorem putExceptions_sched (l : List Exc) (s : State) : (putExceptions l s).sched = s.sched := rfl
@[simp] theorem putExceptions_lock (l : List Exc) (s : State) : (putExceptions l s).lock = s.lock := rfl
@[simp] theorem putExceptions_comms (l : List Exc) (s : State) : (putExceptions l s).comms = s.comms := rfl
@[simp] theorem putExceptions_faults (l : List Exc) (s : State) : (putExceptions l s).faults = s.faults := rfl
@[simp] theorem putExceptions_notices (l : List Exc) (s : State) : (putExceptions l s).notices = s.notices := rfl

/-! `putBooking` -/

@[simp] theorem putBooking_pending (n : Nat) (k : Option Booking) (s : State) : (putBooking n k s).pending = s.pending := rfl
@[simp] theorem putBooking_uptime (n : Nat) (k : Option Booking) (s : State) : (putBooking n k s).uptime = s.uptime := rfl
@[simp] theorem putBooking_events (n : Nat) (k : Option Booking) (s : State) : (putBooking n k s).events = s.events := rfl
@[simp] theorem putBooking_choices (n : Nat) (k : Option Booking) (s : State) : (putBooking n k s).choices = s.choices := rfl
@[simp] theorem putBooking_secondsDone (n : Nat) (k : Option Booking) (s : State) : (putBooking n k s).secondsDone = s.secondsDone := rfl
@[simp] theorem putBooking_cadenceDone (n : Nat) (k : Option Booking) (s : State) : (putBooking n k s).cadenceDone = s.cadenceDone := rfl
@[simp] theorem putBooking_pins (n : Nat) (k : Option Booking) (s : State) : (putBooking n k s).pins = s.pins := rfl
@[simp] theorem putBooking_work (n : Nat) (k : Option Booking) (s : State) :
    (putBooking n k s).work = { s.work with bookings := setPlace s.work.bookings n k } := rfl
@[simp] theorem putBooking_store (n : Nat) (k : Option Booking) (s : State) : (putBooking n k s).store = s.store := rfl
@[simp] theorem putBooking_lamp (n : Nat) (k : Option Booking) (s : State) : (putBooking n k s).lamp = s.lamp := rfl
@[simp] theorem putBooking_wear (n : Nat) (k : Option Booking) (s : State) : (putBooking n k s).wear = s.wear := rfl
@[simp] theorem putBooking_mode (n : Nat) (k : Option Booking) (s : State) : (putBooking n k s).mode = s.mode := rfl
@[simp] theorem putBooking_heat (n : Nat) (k : Option Booking) (s : State) : (putBooking n k s).heat = s.heat := rfl
@[simp] theorem putBooking_ports (n : Nat) (k : Option Booking) (s : State) : (putBooking n k s).ports = s.ports := rfl
@[simp] theorem putBooking_sel (n : Nat) (k : Option Booking) (s : State) : (putBooking n k s).sel = s.sel := rfl
@[simp] theorem putBooking_geo (n : Nat) (k : Option Booking) (s : State) : (putBooking n k s).geo = s.geo := rfl
@[simp] theorem putBooking_sched (n : Nat) (k : Option Booking) (s : State) : (putBooking n k s).sched = s.sched := rfl
@[simp] theorem putBooking_lock (n : Nat) (k : Option Booking) (s : State) : (putBooking n k s).lock = s.lock := rfl
@[simp] theorem putBooking_comms (n : Nat) (k : Option Booking) (s : State) : (putBooking n k s).comms = s.comms := rfl
@[simp] theorem putBooking_faults (n : Nat) (k : Option Booking) (s : State) : (putBooking n k s).faults = s.faults := rfl
@[simp] theorem putBooking_notices (n : Nat) (k : Option Booking) (s : State) : (putBooking n k s).notices = s.notices := rfl

/-! `syncMode` -/

@[simp] theorem syncMode_pending (s : State) : (syncMode s).pending = s.pending := rfl
@[simp] theorem syncMode_uptime (s : State) : (syncMode s).uptime = s.uptime := rfl
@[simp] theorem syncMode_events (s : State) : (syncMode s).events = s.events := rfl
@[simp] theorem syncMode_choices (s : State) : (syncMode s).choices = s.choices := rfl
@[simp] theorem syncMode_secondsDone (s : State) : (syncMode s).secondsDone = s.secondsDone := rfl
@[simp] theorem syncMode_cadenceDone (s : State) : (syncMode s).cadenceDone = s.cadenceDone := rfl
@[simp] theorem syncMode_pins (s : State) : (syncMode s).pins = s.pins := rfl
@[simp] theorem syncMode_work (s : State) : (syncMode s).work = s.work := rfl
@[simp] theorem syncMode_store (s : State) : (syncMode s).store = s.store := rfl
@[simp] theorem syncMode_lamp (s : State) : (syncMode s).lamp = s.lamp := rfl
@[simp] theorem syncMode_wear (s : State) : (syncMode s).wear = s.wear := rfl
@[simp] theorem syncMode_mode (s : State) : (syncMode s).mode = { s.mode with bays := .make (evalMode s) } := rfl
@[simp] theorem syncMode_heat (s : State) : (syncMode s).heat = s.heat := rfl
@[simp] theorem syncMode_ports (s : State) : (syncMode s).ports = s.ports := rfl
@[simp] theorem syncMode_sel (s : State) : (syncMode s).sel = s.sel := rfl
@[simp] theorem syncMode_geo (s : State) : (syncMode s).geo = s.geo := rfl
@[simp] theorem syncMode_sched (s : State) : (syncMode s).sched = s.sched := rfl
@[simp] theorem syncMode_lock (s : State) : (syncMode s).lock = s.lock := rfl
@[simp] theorem syncMode_comms (s : State) : (syncMode s).comms = s.comms := rfl
@[simp] theorem syncMode_faults (s : State) : (syncMode s).faults = s.faults := rfl
@[simp] theorem syncMode_notices (s : State) : (syncMode s).notices = s.notices := rfl

/-! `syncFan` -/

@[simp] theorem syncFan_pending (s : State) : (syncFan s).pending = s.pending := by unfold syncFan; split <;> rfl
@[simp] theorem syncFan_uptime (s : State) : (syncFan s).uptime = s.uptime := by unfold syncFan; split <;> rfl
@[simp] theorem syncFan_events (s : State) : (syncFan s).events = s.events := by unfold syncFan; split <;> rfl
@[simp] theorem syncFan_choices (s : State) : (syncFan s).choices = s.choices := by unfold syncFan; split <;> rfl
@[simp] theorem syncFan_secondsDone (s : State) : (syncFan s).secondsDone = s.secondsDone := by unfold syncFan; split <;> rfl
@[simp] theorem syncFan_cadenceDone (s : State) : (syncFan s).cadenceDone = s.cadenceDone := by unfold syncFan; split <;> rfl
@[simp] theorem syncFan_pins (s : State) : (syncFan s).pins = s.pins := by unfold syncFan; split <;> rfl
@[simp] theorem syncFan_work (s : State) : (syncFan s).work = s.work := by unfold syncFan; split <;> rfl
@[simp] theorem syncFan_store (s : State) : (syncFan s).store = s.store := by unfold syncFan; split <;> rfl
@[simp] theorem syncFan_lamp (s : State) : (syncFan s).lamp = s.lamp := by unfold syncFan; split <;> rfl
@[simp] theorem syncFan_wear (s : State) : (syncFan s).wear = s.wear := by unfold syncFan; split <;> rfl
@[simp] theorem syncFan_mode (s : State) : (syncFan s).mode = s.mode := by unfold syncFan; split <;> rfl
@[simp] theorem syncFan_ports (s : State) : (syncFan s).ports = s.ports := by unfold syncFan; split <;> rfl
@[simp] theorem syncFan_sel (s : State) : (syncFan s).sel = s.sel := by unfold syncFan; split <;> rfl
@[simp] theorem syncFan_geo (s : State) : (syncFan s).geo = s.geo := by unfold syncFan; split <;> rfl
@[simp] theorem syncFan_sched (s : State) : (syncFan s).sched = s.sched := by unfold syncFan; split <;> rfl
@[simp] theorem syncFan_lock (s : State) : (syncFan s).lock = s.lock := by unfold syncFan; split <;> rfl
@[simp] theorem syncFan_comms (s : State) : (syncFan s).comms = s.comms := by unfold syncFan; split <;> rfl
@[simp] theorem syncFan_faults (s : State) : (syncFan s).faults = s.faults := by unfold syncFan; split <;> rfl
@[simp] theorem syncFan_notices (s : State) : (syncFan s).notices = s.notices := by unfold syncFan; split <;> rfl

/-! `syncScan` -/

@[simp] theorem syncScan_pending (s : State) : (syncScan s).pending = s.pending := by unfold syncScan; split <;> rfl
@[simp] theorem syncScan_uptime (s : State) : (syncScan s).uptime = s.uptime := by unfold syncScan; split <;> rfl
@[simp] theorem syncScan_events (s : State) : (syncScan s).events = s.events := by unfold syncScan; split <;> rfl
@[simp] theorem syncScan_choices (s : State) : (syncScan s).choices = s.choices := by unfold syncScan; split <;> rfl
@[simp] theorem syncScan_secondsDone (s : State) : (syncScan s).secondsDone = s.secondsDone := by unfold syncScan; split <;> rfl
@[simp] theorem syncScan_cadenceDone (s : State) : (syncScan s).cadenceDone = s.cadenceDone := by unfold syncScan; split <;> rfl
@[simp] theorem syncScan_pins (s : State) : (syncScan s).pins = s.pins := by unfold syncScan; split <;> rfl
@[simp] theorem syncScan_work (s : State) : (syncScan s).work = s.work := by unfold syncScan; split <;> rfl
@[simp] theorem syncScan_store (s : State) : (syncScan s).store = s.store := by unfold syncScan; split <;> rfl
@[simp] theorem syncScan_lamp (s : State) : (syncScan s).lamp = s.lamp := by unfold syncScan; split <;> rfl
@[simp] theorem syncScan_wear (s : State) : (syncScan s).wear = s.wear := by unfold syncScan; split <;> rfl
@[simp] theorem syncScan_mode (s : State) : (syncScan s).mode = s.mode := by unfold syncScan; split <;> rfl
@[simp] theorem syncScan_heat (s : State) : (syncScan s).heat = s.heat := by unfold syncScan; split <;> rfl
@[simp] theorem syncScan_ports (s : State) : (syncScan s).ports = s.ports := by unfold syncScan; split <;> rfl
@[simp] theorem syncScan_geo (s : State) : (syncScan s).geo = s.geo := by unfold syncScan; split <;> rfl
@[simp] theorem syncScan_sched (s : State) : (syncScan s).sched = s.sched := by unfold syncScan; split <;> rfl
@[simp] theorem syncScan_lock (s : State) : (syncScan s).lock = s.lock := by unfold syncScan; split <;> rfl
@[simp] theorem syncScan_comms (s : State) : (syncScan s).comms = s.comms := by unfold syncScan; split <;> rfl
@[simp] theorem syncScan_faults (s : State) : (syncScan s).faults = s.faults := by unfold syncScan; split <;> rfl
@[simp] theorem syncScan_notices (s : State) : (syncScan s).notices = s.notices := by unfold syncScan; split <;> rfl

/-! `syncIdle` -/

@[simp] theorem syncIdle_pending (s : State) : (syncIdle s).pending = s.pending := by unfold syncIdle; split <;> rfl
@[simp] theorem syncIdle_uptime (s : State) : (syncIdle s).uptime = s.uptime := by unfold syncIdle; split <;> rfl
@[simp] theorem syncIdle_events (s : State) : (syncIdle s).events = s.events := by unfold syncIdle; split <;> rfl
@[simp] theorem syncIdle_choices (s : State) : (syncIdle s).choices = s.choices := by unfold syncIdle; split <;> rfl
@[simp] theorem syncIdle_secondsDone (s : State) : (syncIdle s).secondsDone = s.secondsDone := by unfold syncIdle; split <;> rfl
@[simp] theorem syncIdle_cadenceDone (s : State) : (syncIdle s).cadenceDone = s.cadenceDone := by unfold syncIdle; split <;> rfl
@[simp] theorem syncIdle_pins (s : State) : (syncIdle s).pins = s.pins := by unfold syncIdle; split <;> rfl
@[simp] theorem syncIdle_work (s : State) : (syncIdle s).work = s.work := by unfold syncIdle; split <;> rfl
@[simp] theorem syncIdle_store (s : State) : (syncIdle s).store = s.store := by unfold syncIdle; split <;> rfl
@[simp] theorem syncIdle_lamp (s : State) : (syncIdle s).lamp = s.lamp := by unfold syncIdle; split <;> rfl
@[simp] theorem syncIdle_wear (s : State) : (syncIdle s).wear = s.wear := by unfold syncIdle; split <;> rfl
@[simp] theorem syncIdle_mode (s : State) : (syncIdle s).mode = s.mode := by unfold syncIdle; split <;> rfl
@[simp] theorem syncIdle_heat (s : State) : (syncIdle s).heat = s.heat := by unfold syncIdle; split <;> rfl
@[simp] theorem syncIdle_ports (s : State) : (syncIdle s).ports = s.ports := by unfold syncIdle; split <;> rfl
@[simp] theorem syncIdle_sel (s : State) : (syncIdle s).sel = s.sel := by unfold syncIdle; split <;> rfl
@[simp] theorem syncIdle_geo (s : State) : (syncIdle s).geo = s.geo := by unfold syncIdle; split <;> rfl
@[simp] theorem syncIdle_lock (s : State) : (syncIdle s).lock = s.lock := by unfold syncIdle; split <;> rfl
@[simp] theorem syncIdle_comms (s : State) : (syncIdle s).comms = s.comms := by unfold syncIdle; split <;> rfl
@[simp] theorem syncIdle_faults (s : State) : (syncIdle s).faults = s.faults := by unfold syncIdle; split <;> rfl
@[simp] theorem syncIdle_notices (s : State) : (syncIdle s).notices = s.notices := by unfold syncIdle; split <;> rfl

/-! `syncWaiters` -/

@[simp] theorem syncWaiters_pending (s : State) : (syncWaiters s).pending = s.pending := rfl
@[simp] theorem syncWaiters_uptime (s : State) : (syncWaiters s).uptime = s.uptime := rfl
@[simp] theorem syncWaiters_events (s : State) : (syncWaiters s).events = s.events := rfl
@[simp] theorem syncWaiters_choices (s : State) : (syncWaiters s).choices = s.choices := rfl
@[simp] theorem syncWaiters_secondsDone (s : State) : (syncWaiters s).secondsDone = s.secondsDone := rfl
@[simp] theorem syncWaiters_cadenceDone (s : State) : (syncWaiters s).cadenceDone = s.cadenceDone := rfl
@[simp] theorem syncWaiters_pins (s : State) : (syncWaiters s).pins = s.pins := rfl
@[simp] theorem syncWaiters_work (s : State) : (syncWaiters s).work = s.work := rfl
@[simp] theorem syncWaiters_store (s : State) : (syncWaiters s).store = s.store := rfl
@[simp] theorem syncWaiters_lamp (s : State) :
    (syncWaiters s).lamp = { s.lamp with bays := .make (fun b => { s.lamp.bays.get b with stamp := newStamp s b }) } := rfl
@[simp] theorem syncWaiters_wear (s : State) : (syncWaiters s).wear = s.wear := rfl
@[simp] theorem syncWaiters_mode (s : State) : (syncWaiters s).mode = s.mode := rfl
@[simp] theorem syncWaiters_heat (s : State) : (syncWaiters s).heat = s.heat := rfl
@[simp] theorem syncWaiters_ports (s : State) : (syncWaiters s).ports = s.ports := rfl
@[simp] theorem syncWaiters_sel (s : State) : (syncWaiters s).sel = s.sel := rfl
@[simp] theorem syncWaiters_geo (s : State) : (syncWaiters s).geo = s.geo := rfl
@[simp] theorem syncWaiters_sched (s : State) : (syncWaiters s).sched = s.sched := rfl
@[simp] theorem syncWaiters_lock (s : State) : (syncWaiters s).lock = s.lock := rfl
@[simp] theorem syncWaiters_comms (s : State) : (syncWaiters s).comms = s.comms := rfl
@[simp] theorem syncWaiters_faults (s : State) : (syncWaiters s).faults = s.faults := rfl
@[simp] theorem syncWaiters_notices (s : State) : (syncWaiters s).notices = s.notices := rfl

/-! `syncFaults` -/

@[simp] theorem syncFaults_pending (s : State) : (syncFaults s).pending = s.pending := rfl
@[simp] theorem syncFaults_uptime (s : State) : (syncFaults s).uptime = s.uptime := rfl
@[simp] theorem syncFaults_events (s : State) : (syncFaults s).events = s.events := rfl
@[simp] theorem syncFaults_choices (s : State) : (syncFaults s).choices = s.choices := rfl
@[simp] theorem syncFaults_secondsDone (s : State) : (syncFaults s).secondsDone = s.secondsDone := rfl
@[simp] theorem syncFaults_cadenceDone (s : State) : (syncFaults s).cadenceDone = s.cadenceDone := rfl
@[simp] theorem syncFaults_pins (s : State) : (syncFaults s).pins = s.pins := rfl
@[simp] theorem syncFaults_work (s : State) : (syncFaults s).work = s.work := rfl
@[simp] theorem syncFaults_store (s : State) : (syncFaults s).store = s.store := rfl
@[simp] theorem syncFaults_lamp (s : State) : (syncFaults s).lamp = s.lamp := rfl
@[simp] theorem syncFaults_wear (s : State) : (syncFaults s).wear = s.wear := rfl
@[simp] theorem syncFaults_mode (s : State) : (syncFaults s).mode = s.mode := rfl
@[simp] theorem syncFaults_heat (s : State) : (syncFaults s).heat = s.heat := rfl
@[simp] theorem syncFaults_ports (s : State) : (syncFaults s).ports = s.ports := rfl
@[simp] theorem syncFaults_sel (s : State) : (syncFaults s).sel = s.sel := rfl
@[simp] theorem syncFaults_geo (s : State) : (syncFaults s).geo = s.geo := rfl
@[simp] theorem syncFaults_sched (s : State) : (syncFaults s).sched = s.sched := rfl
@[simp] theorem syncFaults_lock (s : State) : (syncFaults s).lock = s.lock := rfl
@[simp] theorem syncFaults_comms (s : State) : (syncFaults s).comms = s.comms := rfl

/-! `totals` -/

@[simp] theorem totals_pending (s : State) : (totals s).pending = s.pending := rfl
@[simp] theorem totals_uptime (s : State) : (totals s).uptime = s.uptime := rfl
@[simp] theorem totals_events (s : State) : (totals s).events = s.events := rfl
@[simp] theorem totals_choices (s : State) : (totals s).choices = s.choices := rfl
@[simp] theorem totals_secondsDone (s : State) : (totals s).secondsDone = s.secondsDone := rfl
@[simp] theorem totals_cadenceDone (s : State) : (totals s).cadenceDone = s.cadenceDone := rfl
@[simp] theorem totals_pins (s : State) : (totals s).pins = s.pins := rfl
@[simp] theorem totals_work (s : State) : (totals s).work = s.work := rfl
@[simp] theorem totals_store (s : State) : (totals s).store = s.store := rfl
@[simp] theorem totals_lamp (s : State) : (totals s).lamp = s.lamp := rfl
@[simp] theorem totals_wear (s : State) : (totals s).wear = s.wear := rfl
@[simp] theorem totals_mode (s : State) : (totals s).mode = s.mode := rfl
@[simp] theorem totals_heat (s : State) : (totals s).heat = s.heat := rfl
@[simp] theorem totals_ports (s : State) : (totals s).ports = s.ports := rfl
@[simp] theorem totals_sel (s : State) : (totals s).sel = s.sel := rfl
@[simp] theorem totals_sched (s : State) : (totals s).sched = s.sched := rfl
@[simp] theorem totals_lock (s : State) : (totals s).lock = s.lock := rfl
@[simp] theorem totals_comms (s : State) : (totals s).comms = s.comms := rfl
@[simp] theorem totals_faults (s : State) : (totals s).faults = s.faults := rfl
@[simp] theorem totals_notices (s : State) : (totals s).notices = s.notices := rfl

/-! `sendSet` -/

@[simp] theorem sendSet_pending (c : Corners) (s : State) : (sendSet c s).pending = s.pending := rfl
@[simp] theorem sendSet_uptime (c : Corners) (s : State) : (sendSet c s).uptime = s.uptime := rfl
@[simp] theorem sendSet_events (c : Corners) (s : State) : (sendSet c s).events = s.events := rfl
@[simp] theorem sendSet_choices (c : Corners) (s : State) : (sendSet c s).choices = s.choices := rfl
@[simp] theorem sendSet_secondsDone (c : Corners) (s : State) : (sendSet c s).secondsDone = s.secondsDone := rfl
@[simp] theorem sendSet_cadenceDone (c : Corners) (s : State) : (sendSet c s).cadenceDone = s.cadenceDone := rfl
@[simp] theorem sendSet_pins (c : Corners) (s : State) : (sendSet c s).pins = s.pins := rfl
@[simp] theorem sendSet_work (c : Corners) (s : State) : (sendSet c s).work = s.work := rfl
@[simp] theorem sendSet_store (c : Corners) (s : State) : (sendSet c s).store = s.store := rfl
@[simp] theorem sendSet_lamp (c : Corners) (s : State) : (sendSet c s).lamp = s.lamp := rfl
@[simp] theorem sendSet_wear (c : Corners) (s : State) : (sendSet c s).wear = s.wear := rfl
@[simp] theorem sendSet_mode (c : Corners) (s : State) : (sendSet c s).mode = s.mode := rfl
@[simp] theorem sendSet_heat (c : Corners) (s : State) : (sendSet c s).heat = s.heat := rfl
@[simp] theorem sendSet_ports (c : Corners) (s : State) : (sendSet c s).ports = s.ports := rfl
@[simp] theorem sendSet_sel (c : Corners) (s : State) : (sendSet c s).sel = s.sel := rfl
@[simp] theorem sendSet_geo (c : Corners) (s : State) : (sendSet c s).geo = { s.geo with inFlight := some (c, s.uptime) } := rfl
@[simp] theorem sendSet_sched (c : Corners) (s : State) : (sendSet c s).sched = s.sched := rfl
@[simp] theorem sendSet_lock (c : Corners) (s : State) : (sendSet c s).lock = s.lock := rfl
@[simp] theorem sendSet_comms (c : Corners) (s : State) : (sendSet c s).comms = s.comms := rfl
@[simp] theorem sendSet_faults (c : Corners) (s : State) : (sendSet c s).faults = s.faults := rfl
@[simp] theorem sendSet_notices (c : Corners) (s : State) : (sendSet c s).notices = s.notices := rfl

/-! `handOver` -/

@[simp] theorem handOver_pending (s : State) : (handOver s).pending = s.pending := by
  unfold handOver
  split
  · dsimp only
    split <;> rfl
  · rfl
@[simp] theorem handOver_uptime (s : State) : (handOver s).uptime = s.uptime := by
  unfold handOver
  split
  · dsimp only
    split <;> rfl
  · rfl
@[simp] theorem handOver_events (s : State) : (handOver s).events = s.events := by
  unfold handOver
  split
  · dsimp only
    split <;> rfl
  · rfl
@[simp] theorem handOver_choices (s : State) : (handOver s).choices = s.choices := by
  unfold handOver
  split
  · dsimp only
    split <;> rfl
  · rfl
@[simp] theorem handOver_secondsDone (s : State) : (handOver s).secondsDone = s.secondsDone := by
  unfold handOver
  split
  · dsimp only
    split <;> rfl
  · rfl
@[simp] theorem handOver_cadenceDone (s : State) : (handOver s).cadenceDone = s.cadenceDone := by
  unfold handOver
  split
  · dsimp only
    split <;> rfl
  · rfl
@[simp] theorem handOver_pins (s : State) : (handOver s).pins = s.pins := by
  unfold handOver
  split
  · dsimp only
    split <;> rfl
  · rfl
@[simp] theorem handOver_work (s : State) : (handOver s).work = s.work := by
  unfold handOver
  split
  · dsimp only
    split <;> rfl
  · rfl
@[simp] theorem handOver_store (s : State) : (handOver s).store = s.store := by
  unfold handOver
  split
  · dsimp only
    split <;> rfl
  · rfl
@[simp] theorem handOver_lamp (s : State) : (handOver s).lamp = s.lamp := by
  unfold handOver
  split
  · dsimp only
    split <;> rfl
  · rfl
@[simp] theorem handOver_wear (s : State) : (handOver s).wear = s.wear := by
  unfold handOver
  split
  · dsimp only
    split <;> rfl
  · rfl
@[simp] theorem handOver_mode (s : State) : (handOver s).mode = s.mode := by
  unfold handOver
  split
  · dsimp only
    split <;> rfl
  · rfl
@[simp] theorem handOver_heat (s : State) : (handOver s).heat = s.heat := by
  unfold handOver
  split
  · dsimp only
    split <;> rfl
  · rfl
@[simp] theorem handOver_ports (s : State) : (handOver s).ports = s.ports := by
  unfold handOver
  split
  · dsimp only
    split <;> rfl
  · rfl
@[simp] theorem handOver_sel (s : State) : (handOver s).sel = s.sel := by
  unfold handOver
  split
  · dsimp only
    split <;> rfl
  · rfl
@[simp] theorem handOver_sched (s : State) : (handOver s).sched = s.sched := by
  unfold handOver
  split
  · dsimp only
    split <;> rfl
  · rfl
@[simp] theorem handOver_lock (s : State) : (handOver s).lock = s.lock := by
  unfold handOver
  split
  · dsimp only
    split <;> rfl
  · rfl
@[simp] theorem handOver_comms (s : State) : (handOver s).comms = s.comms := by
  unfold handOver
  split
  · dsimp only
    split <;> rfl
  · rfl
@[simp] theorem handOver_faults (s : State) : (handOver s).faults = s.faults := by
  unfold handOver
  split
  · dsimp only
    split <;> rfl
  · rfl
@[simp] theorem handOver_notices (s : State) : (handOver s).notices = s.notices := by
  unfold handOver
  split
  · dsimp only
    split <;> rfl
  · rfl

/-! `computation` -/

@[simp] theorem computation_pending (s : State) : (computation s).pending = s.pending := by simp [computation]
@[simp] theorem computation_uptime (s : State) : (computation s).uptime = s.uptime := by simp [computation]
@[simp] theorem computation_events (s : State) : (computation s).events = s.events := by simp [computation]
@[simp] theorem computation_choices (s : State) : (computation s).choices = s.choices := by simp [computation]
@[simp] theorem computation_secondsDone (s : State) : (computation s).secondsDone = s.secondsDone := by simp [computation]
@[simp] theorem computation_cadenceDone (s : State) : (computation s).cadenceDone = s.cadenceDone := by simp [computation]
@[simp] theorem computation_pins (s : State) : (computation s).pins = s.pins := by simp [computation]
@[simp] theorem computation_work (s : State) : (computation s).work = s.work := by simp [computation]
@[simp] theorem computation_store (s : State) : (computation s).store = s.store := by simp [computation]
@[simp] theorem computation_lamp (s : State) : (computation s).lamp = s.lamp := by simp [computation]
@[simp] theorem computation_wear (s : State) : (computation s).wear = s.wear := by simp [computation]
@[simp] theorem computation_mode (s : State) : (computation s).mode = s.mode := by simp [computation]
@[simp] theorem computation_heat (s : State) : (computation s).heat = s.heat := by simp [computation]
@[simp] theorem computation_ports (s : State) : (computation s).ports = s.ports := by simp [computation]
@[simp] theorem computation_sel (s : State) : (computation s).sel = s.sel := by simp [computation]
@[simp] theorem computation_sched (s : State) : (computation s).sched = s.sched := by simp [computation]
@[simp] theorem computation_lock (s : State) : (computation s).lock = s.lock := by simp [computation]
@[simp] theorem computation_comms (s : State) : (computation s).comms = s.comms := by simp [computation]
@[simp] theorem computation_faults (s : State) : (computation s).faults = s.faults := by simp [computation]
@[simp] theorem computation_notices (s : State) : (computation s).notices = s.notices := by simp [computation]

/-! `profileChange` -/

@[simp] theorem profileChange_pending (s : State) : (profileChange s).pending = s.pending := by simp [profileChange]
@[simp] theorem profileChange_uptime (s : State) : (profileChange s).uptime = s.uptime := by simp [profileChange]
@[simp] theorem profileChange_events (s : State) : (profileChange s).events = s.events := by simp [profileChange]
@[simp] theorem profileChange_choices (s : State) : (profileChange s).choices = s.choices := by simp [profileChange]
@[simp] theorem profileChange_secondsDone (s : State) : (profileChange s).secondsDone = s.secondsDone := by simp [profileChange]
@[simp] theorem profileChange_cadenceDone (s : State) : (profileChange s).cadenceDone = s.cadenceDone := by simp [profileChange]
@[simp] theorem profileChange_pins (s : State) : (profileChange s).pins = s.pins := by simp [profileChange]
@[simp] theorem profileChange_work (s : State) : (profileChange s).work = s.work := by simp [profileChange]
@[simp] theorem profileChange_store (s : State) : (profileChange s).store = s.store := by simp [profileChange]
@[simp] theorem profileChange_lamp (s : State) : (profileChange s).lamp = s.lamp := by simp [profileChange]
@[simp] theorem profileChange_wear (s : State) : (profileChange s).wear = s.wear := by simp [profileChange]
@[simp] theorem profileChange_mode (s : State) : (profileChange s).mode = s.mode := by simp [profileChange]
@[simp] theorem profileChange_heat (s : State) : (profileChange s).heat = s.heat := by simp [profileChange]
@[simp] theorem profileChange_ports (s : State) : (profileChange s).ports = s.ports := by simp [profileChange]
@[simp] theorem profileChange_sel (s : State) : (profileChange s).sel = s.sel := by simp [profileChange]
@[simp] theorem profileChange_sched (s : State) : (profileChange s).sched = s.sched := by simp [profileChange]
@[simp] theorem profileChange_lock (s : State) : (profileChange s).lock = s.lock := by simp [profileChange]
@[simp] theorem profileChange_comms (s : State) : (profileChange s).comms = s.comms := by simp [profileChange]
@[simp] theorem profileChange_faults (s : State) : (profileChange s).faults = s.faults := by simp [profileChange]
@[simp] theorem profileChange_notices (s : State) : (profileChange s).notices = s.notices := by simp [profileChange]

end Sys2Proof.Machine
end

