-- ==== Sys2Proof/Laws/Settle.lean ====
section
/-! SUPPORT. Laws/Settle.lean: what settling leaves and changes, what a quiescent state waits for (nothing), and how a command that is
taken at once is answered. -/

namespace Sys2Proof.Machine

/-! ## Settling -/

theorem settle_eq (s : State) : settle s = syncFaults (syncWaiters (syncIdle (syncScan (syncFan (syncMode s))))) := rfl

@[simp] theorem settle_pending (s : State) : (settle s).pending = s.pending := by simp [settle_eq]
@[simp] theorem settle_uptime (s : State) : (settle s).uptime = s.uptime := by simp [settle_eq]
@[simp] theorem settle_events (s : State) : (settle s).events = s.events := by simp [settle_eq]
@[simp] theorem settle_choices (s : State) : (settle s).choices = s.choices := by simp [settle_eq]
@[simp] theorem settle_secondsDone (s : State) : (settle s).secondsDone = s.secondsDone := by simp [settle_eq]
@[simp] theorem settle_cadenceDone (s : State) : (settle s).cadenceDone = s.cadenceDone := by simp [settle_eq]
@[simp] theorem settle_pins (s : State) : (settle s).pins = s.pins := by simp [settle_eq]
@[simp] theorem settle_work (s : State) : (settle s).work = s.work := by simp [settle_eq]
@[simp] theorem settle_store (s : State) : (settle s).store = s.store := by simp [settle_eq]
@[simp] theorem settle_wear (s : State) : (settle s).wear = s.wear := by simp [settle_eq]
@[simp] theorem settle_ports (s : State) : (settle s).ports = s.ports := by simp [settle_eq]
@[simp] theorem settle_geo (s : State) : (settle s).geo = s.geo := by simp [settle_eq]
@[simp] theorem settle_lock (s : State) : (settle s).lock = s.lock := by simp [settle_eq]
@[simp] theorem settle_comms (s : State) : (settle s).comms = s.comms := by simp [settle_eq]

@[simp] theorem settle_count (s : State) : (settle s).lamp.count = s.lamp.count := by simp [settle_eq]
@[simp] theorem settle_origin (s : State) : (settle s).lamp.origin = s.lamp.origin := by simp [settle_eq]
@[simp] theorem settle_wanted (s : State) : (settle s).lamp.wanted = s.lamp.wanted := by simp [settle_eq]
@[simp] theorem settle_igniter (s : State) : (settle s).lamp.igniter = s.lamp.igniter := by simp [settle_eq]
@[simp] theorem settle_spacing (s : State) : (settle s).lamp.spacing = s.lamp.spacing := by simp [settle_eq]

/-- Settling leaves a bay as it is, but for its waiter stamp. -/
theorem bay_settle (s : State) (b : Bay) : ∃ t, bay (settle s) b = { bay s b with stamp := t } := by
  refine ⟨newStamp (syncIdle (syncScan (syncFan (syncMode s)))) b, ?_⟩
  simp [settle_eq, bay]

@[simp] theorem bay_settle_st (s : State) (b : Bay) : (bay (settle s) b).st = (bay s b).st := by
  obtain ⟨t, h⟩ := bay_settle s b; rw [h]
@[simp] theorem bay_settle_timer (s : State) (b : Bay) : (bay (settle s) b).timer = (bay s b).timer := by
  obtain ⟨t, h⟩ := bay_settle s b; rw [h]
@[simp] theorem bay_settle_strikes (s : State) (b : Bay) : (bay (settle s) b).strikes = (bay s b).strikes := by
  obtain ⟨t, h⟩ := bay_settle s b; rw [h]
@[simp] theorem bay_settle_doorFlag (s : State) (b : Bay) : (bay (settle s) b).doorFlag = (bay s b).doorFlag := by
  obtain ⟨t, h⟩ := bay_settle s b; rw [h]
@[simp] theorem bay_settle_lampLost (s : State) (b : Bay) : (bay (settle s) b).lampLost = (bay s b).lampLost := by
  obtain ⟨t, h⟩ := bay_settle s b; rw [h]
@[simp] theorem bay_settle_doorFault (s : State) (b : Bay) : (bay (settle s) b).doorFault = (bay s b).doorFault := by
  obtain ⟨t, h⟩ := bay_settle s b; rw [h]

@[simp] theorem settle_clock (s : State) : (settle s).sched.clock = s.sched.clock := by
  simp only [settle_eq, syncFaults_sched, syncWaiters_sched]
  unfold syncIdle
  split <;> simp
@[simp] theorem settle_active (s : State) : (settle s).sched.active = s.sched.active := by
  simp only [settle_eq, syncFaults_sched, syncWaiters_sched]
  unfold syncIdle
  split <;> simp
@[simp] theorem settle_upcoming (s : State) : (settle s).sched.upcoming = s.sched.upcoming := by
  simp only [settle_eq, syncFaults_sched, syncWaiters_sched]
  unfold syncIdle
  split <;> simp
@[simp] theorem settle_lastEnded (s : State) : (settle s).sched.lastEnded = s.sched.lastEnded := by
  simp only [settle_eq, syncFaults_sched, syncWaiters_sched]
  unfold syncIdle
  split <;> simp

/-- Settling leaves the Heat Monitor as it is, but for the fan and its stall timer. -/
theorem heat_settle (s : State) : ∃ f t, (settle s).heat = { s.heat with fan := f, stallFrom := t } := by
  simp only [settle_eq, syncFaults_heat, syncWaiters_heat, syncIdle_heat, syncScan_heat]
  unfold syncFan
  split
  · exact ⟨s.heat.fan, s.heat.stallFrom, by simp⟩
  · exact ⟨_, _, by simp [syncMode]; exact ⟨rfl, rfl⟩⟩

@[simp] theorem settle_level (s : State) : (settle s).heat.level = s.heat.level := by
  obtain ⟨f, t, h⟩ := heat_settle s; rw [h]
@[simp] theorem settle_sensorFault (s : State) : (settle s).heat.sensorFault = s.heat.sensorFault := by
  obtain ⟨f, t, h⟩ := heat_settle s; rw [h]
@[simp] theorem settle_stall (s : State) : (settle s).heat.stall = s.heat.stall := by
  obtain ⟨f, t, h⟩ := heat_settle s; rw [h]
@[simp] theorem settle_hot (s : State) : (settle s).heat.hot = s.heat.hot := by
  obtain ⟨f, t, h⟩ := heat_settle s; rw [h]

@[simp] theorem settle_requested (s : State) : (settle s).mode.requested = s.mode.requested := by simp [settle_eq]
@[simp] theorem settle_temp (s : State) : (settle s).mode.temp = s.mode.temp := by simp [settle_eq]
@[simp] theorem settle_persistUsed (s : State) : (settle s).mode.persistUsed = s.mode.persistUsed := by simp [settle_eq]

/-- Settling leaves a bay's part of the Mode Unit as it is, but for the effective mode, the override and the Full-run counter. -/
theorem bayMode_settle (s : State) (b : Bay) : bayMode (settle s) b = evalMode s b := by
  simp only [bayMode, settle_eq, syncFaults_mode, syncWaiters_mode, syncIdle_mode, syncScan_mode, syncFan_mode, syncMode_mode]
  cases b <;> rfl

@[simp] theorem settle_debt (s : State) (b : Bay) : (bayMode (settle s) b).debt = (bayMode s b).debt := by
  rw [bayMode_settle]; rfl
@[simp] theorem settle_credit (s : State) (b : Bay) : (bayMode (settle s) b).credit = (bayMode s b).credit := by
  rw [bayMode_settle]; rfl

/-! ## The essence of a state -/

theorem runningBooking_of {s t : State} (ha : t.sched.active = s.sched.active) (hw : t.work = s.work) :
    runningBooking t = runningBooking s := by
  unfold runningBooking
  rw [ha, hw]

theorem examRunning_of {s t : State} (ha : t.sched.active = s.sched.active) (hw : t.work = s.work) :
    examRunning t = examRunning s := by
  unfold examRunning
  rw [runningBooking_of ha hw]

/-- The essence of two states that differ only in what it leaves out. -/
theorem essence_congr {s t : State} (hsel : t.sel = s.sel) (hup : t.uptime = s.uptime) (hw : t.work = s.work)
    (hact : t.sched.active = s.sched.active)
    (h : ({ t with
            events := 0
            mode := { t.mode with bays := .make (fun b => (t.mode.bays.get b).bare) }
            heat := { t.heat with fan := .low, stallFrom := none }
            sched := { t.sched with idle := 0 }
            lamp := { t.lamp with bays := .make (fun b => (t.lamp.bays.get b).bare) }
            faults := .clear
            notices := { queue := [], overflow := false } } : State) =
         { s with
            events := 0
            mode := { s.mode with bays := .make (fun b => (s.mode.bays.get b).bare) }
            heat := { s.heat with fan := .low, stallFrom := none }
            sched := { s.sched with idle := 0 }
            lamp := { s.lamp with bays := .make (fun b => (s.lamp.bays.get b).bare) }
            faults := .clear
            notices := { queue := [], overflow := false } }) : essence t = essence s := by
  have hx : (syncScan t).sel = (syncScan s).sel := by
    have he := examRunning_of hact hw
    unfold syncScan
    rw [he, hsel, hw]
    split
    · simp only [scanReturns, modSel, hsel, hup]
    · exact hsel
  cases s
  cases t
  simp only [State.mk.injEq] at h
  simp only [essence, syncScan_pending, syncScan_uptime, syncScan_choices, syncScan_secondsDone, syncScan_cadenceDone, syncScan_pins,
    syncScan_work, syncScan_store, syncScan_wear, syncScan_mode, syncScan_heat, syncScan_ports, syncScan_geo, syncScan_sched,
    syncScan_lock, syncScan_comms, syncScan_lamp, hx, State.mk.injEq]
  simp_all

@[simp] theorem essence_nextEvent (s : State) : essence (nextEvent s) = essence s := essence_congr rfl rfl rfl rfl rfl
@[simp] theorem essence_notify (k : NoticeKind) (x : Subject) (l : List String) (s : State) :
    essence (notify k x l s) = essence s := essence_congr rfl rfl rfl rfl rfl
@[simp] theorem essence_lampNotice (b : Bay) (st : BaySt) (s : State) : essence (lampNotice b st s) = essence s :=
  essence_notify ..
@[simp] theorem essence_lockNotice (s : State) : essence (lockNotice s) = essence s := essence_notify ..
@[simp] theorem essence_sourceNotice (s : State) : essence (sourceNotice s) = essence s := essence_notify ..
@[simp] theorem essence_withLock (f : State → State) (s : State) : essence (withLock f s) = essence (f s) := by
  unfold withLock
  dsimp only
  split
  · rfl
  · exact essence_lockNotice _

@[simp] theorem essence_syncMode (s : State) : essence (syncMode s) = essence s :=
  essence_congr rfl rfl rfl rfl rfl

@[simp] theorem essence_syncFan (s : State) : essence (syncFan s) = essence s := by
  unfold syncFan
  split
  · rfl
  · exact essence_congr rfl rfl rfl rfl rfl

theorem scanReturns_still (s : State) : syncScan (scanReturns s) = scanReturns s := by
  unfold syncScan
  rw [if_neg]
  simp [scanReturns, modSel]

@[simp] theorem syncScan_syncScan (s : State) : syncScan (syncScan s) = syncScan s := by
  by_cases h : s.sel.st = .scanning ∧ (s.work.settings.autoscan = false ∨ examRunning s = true)
  · have : syncScan s = scanReturns s := by unfold syncScan; rw [if_pos h]
    rw [this, scanReturns_still]
  · have : syncScan s = s := by unfold syncScan; rw [if_neg h]
    rw [this, this]

@[simp] theorem essence_syncScan (s : State) : essence (syncScan s) = essence s := by
  unfold essence
  rw [syncScan_syncScan]

@[simp] theorem essence_syncIdle (s : State) : essence (syncIdle s) = essence s := by
  unfold syncIdle
  split
  · exact essence_congr rfl rfl rfl rfl rfl
  · rfl

@[simp] theorem essence_syncWaiters (s : State) : essence (syncWaiters s) = essence s :=
  essence_congr rfl rfl rfl rfl rfl

@[simp] theorem essence_syncFaults (s : State) : essence (syncFaults s) = essence s := essence_congr rfl rfl rfl rfl rfl

/-- Settling changes nothing of the essence. -/
@[simp] theorem essence_settle (s : State) : essence (settle s) = essence s := by simp [settle_eq]

/-- Taking an event that is due changes the essence as its effect does. -/
theorem happen_essence (f : State → State) (s : State) : essence (happen f s) = essence (f (nextEvent s)) := essence_settle _

/-! ## A quiescent state -/

theorem ifDue_of_due {due : State → Bool} {f : State → State} {s : State} (h : due s = true) : ifDue due f s = happen f s := by
  unfold ifDue; rw [if_pos h]

theorem ifDue_of_not {due : State → Bool} {f : State → State} {s : State} (h : due s = false) : ifDue due f s = s := by
  unfold ifDue; rw [if_neg (by simp [h])]

/-- A quiescent state has no event that waits to follow what has happened. -/
theorem completeCore_of_quiescent {s : State} (h : quiescent s = true) : completeCore s = s := by
  simp only [quiescent, Bool.not_eq_true', Bool.or_eq_false_iff] at h
  obtain ⟨⟨⟨⟨⟨⟨⟨⟨⟨⟨⟨⟨⟨⟨⟨⟨⟨⟨⟨⟨⟨⟨h1, h2⟩, h3⟩, h4⟩, h5⟩, h6⟩, h7⟩, h8⟩, h9⟩, h10⟩, h11⟩, h12⟩, h13⟩, h14⟩, h15⟩, h16⟩, h17⟩, h18⟩, h19⟩,
    h20⟩, h21⟩, h22⟩, h23⟩ := h
  have e1 : fuSensor s = s := ifDue_of_not h1
  have e2 : fuLevel s = s := ifDue_of_not h2
  have e3 : fuHall s = s := ifDue_of_not h3
  have e4 : fuCarry .bayA s = s := ifDue_of_not h4
  have e5 : fuCarry .bayB s = s := ifDue_of_not h5
  have e8 : fuEco .bayA s = s := ifDue_of_not h8
  have e9 : fuEco .bayB s = s := ifDue_of_not h9
  have e10 : fuConditioning .bayA s = s := ifDue_of_not h10
  have e11 : fuConditioning .bayB s = s := ifDue_of_not h11
  have e12 : fuFullRun .bayA s = s := ifDue_of_not h12
  have e13 : fuFullRun .bayB s = s := ifDue_of_not h13
  have e19 : fuTilt s = s := ifDue_of_not h19
  have e20 : fuConfirm s = s := ifDue_of_not h20
  have e22 : fuStrike .bayA s = s := ifDue_of_not h22
  have e23 : fuStrike .bayB s = s := ifDue_of_not h23
  simp only [completeCore, completeCounts, completeStrikes, e1, e2, e3, e4, e5, e8, e9, e10, e11, e12, e13, e19, e20, e22, e23]

/-- Nor has it a lock, a loss or a grant that waits. -/
theorem complete_of_quiescent {s : State} (h : quiescent s = true) : complete s = s := by
  have e0 : completeCore s = s := completeCore_of_quiescent h
  simp only [quiescent, Bool.not_eq_true', Bool.or_eq_false_iff] at h
  obtain ⟨⟨⟨⟨⟨⟨⟨⟨⟨⟨⟨⟨⟨⟨⟨⟨⟨⟨⟨⟨⟨⟨h1, h2⟩, h3⟩, h4⟩, h5⟩, h6⟩, h7⟩, h8⟩, h9⟩, h10⟩, h11⟩, h12⟩, h13⟩, h14⟩, h15⟩, h16⟩, h17⟩, h18⟩, h19⟩,
    h20⟩, h21⟩, h22⟩, h23⟩ := h
  have e14 : fuSwitchLock s = s := ifDue_of_not h14
  have e15 : fuLoss s = s := ifDue_of_not h15
  have e16 : fuClass s = s := ifDue_of_not h16
  have e17 : fuNoSignalLock s = s := ifDue_of_not h17
  have e18 : fuDwellLock s = s := ifDue_of_not h18
  have e21 : fuGrant s = s := ifDue_of_not h21
  have e22 : fuStrike .bayA s = s := ifDue_of_not h22
  have e23 : fuStrike .bayB s = s := ifDue_of_not h23
  simp only [complete, completePicture, completeStrikes, e0, e14, e15, e16, e17, e18, e21, e22, e23]

/-- Nor has it a write that an unsaved count calls for. -/
theorem completeUnsaved_of_quiescent {s : State} (h : quiescent s = true) : completeUnsaved s = s := by
  simp only [quiescent, Bool.not_eq_true', Bool.or_eq_false_iff] at h
  obtain ⟨⟨⟨⟨⟨⟨⟨⟨⟨⟨⟨⟨⟨⟨⟨⟨⟨⟨⟨⟨⟨⟨h1, h2⟩, h3⟩, h4⟩, h5⟩, h6⟩, h7⟩, h8⟩, h9⟩, h10⟩, h11⟩, h12⟩, h13⟩, h14⟩, h15⟩, h16⟩, h17⟩, h18⟩, h19⟩,
    h20⟩, h21⟩, h22⟩, h23⟩ := h
  have e4 : fuCarry .bayA s = s := ifDue_of_not h4
  have e5 : fuCarry .bayB s = s := ifDue_of_not h5
  have e6 : fuUnsaved .bayA s = s := by unfold fuUnsaved; rw [e4, ifDue_of_not h6]
  have e7 : fuUnsaved .bayB s = s := by unfold fuUnsaved; rw [e5, ifDue_of_not h7]
  simp only [completeUnsaved, e6, e7]

theorem ready_of_quiescent {s : State} (h : quiescent s = true) : ready s = nextEvent s := by
  unfold ready; rw [completeCore_of_quiescent h]

/-- An event from outside, from a quiescent state. -/
theorem act_of_quiescent {f : State → State} {s : State} (h : quiescent s = true) :
    act f s = .next (settle (f (nextEvent s))) := by
  unfold act event; rw [complete_of_quiescent h]

/-- A frame or a forced cause, from a quiescent state. -/
theorem actLoose_of_quiescent {f : State → State} {s : State} (h : quiescent s = true) :
    actLoose f s = .next (settle (f (nextEvent s))) := by
  unfold actLoose eventLoose; rw [ready_of_quiescent h]

/-- A timed event that has fallen due, from a quiescent state. -/
theorem onTime_of_due {due : State → Bool} {f : State → State} {s : State} (h : quiescent s = true) (hd : due s = true) :
    onTime due f s = .next (settle (f (nextEvent s))) := by
  unfold onTime timed; rw [complete_of_quiescent h, ifDue_of_due hd]; rfl

/-- The same for an event of the schedule. -/
theorem onTimeLoose_of_due {due : State → Bool} {f : State → State} {s : State} (h : quiescent s = true) (hd : due s = true) :
    onTimeLoose due f s = .next (settle (f (nextEvent s))) := by
  unfold onTimeLoose timedLoose; rw [completeCore_of_quiescent h, ifDue_of_due hd]; rfl

/-- A timed event that has not fallen due changes nothing of a quiescent state. -/
theorem onTime_of_not {due : State → Bool} {f : State → State} {s : State} (h : quiescent s = true) (hd : due s = false) :
    onTime due f s = .next s := by
  unfold onTime timed; rw [complete_of_quiescent h, ifDue_of_not hd]

/-! ## Commands -/

theorem wordWf_isEmpty {w : String} (h : wordWf w = true) : w.isEmpty = false := by
  rw [Bool.eq_false_iff]
  intro he
  have h0 : w = "" := by simpa [String.isEmpty_iff] using he
  subst h0
  simp [wordWf] at h

theorem bodyFault_of_wf {l : List String} (h : wordsWf l = true) : bodyFault l = false := by
  induction l with
  | nil => rfl
  | cons w l ih =>
    simp only [wordsWf, List.all_cons, Bool.and_eq_true] at h
    simp only [bodyFault, List.any_cons, wordWf_isEmpty h.1, Bool.false_or]
    exact ih h.2

theorem takesNow_quiescent {s : State} {snd : Sender} {args : List String} (h : takesNow s snd args = true) : quiescent s = true := by
  simp only [takesNow, Bool.and_eq_true] at h; exact h.1.1.1

/-- A command that is taken at once is answered by its own rule (R174). -/
theorem run_of_takesNow {s : State} {snd : Sender} {args words : List String} {cmd : State → Answer}
    (h : takesNow s snd args = true) (hw : bodyFault words = false) :
    run snd words cmd s = .next (answer snd (cmd (nextEvent s))) := by
  simp only [takesNow, Bool.and_eq_true, Bool.not_eq_true'] at h
  obtain ⟨⟨⟨hq, hd⟩, hp⟩, -⟩ := h
  have hd' : deafTo (nextEvent s) snd = false := hd
  have hp' : portBusy (nextEvent s) snd.port = false := hp
  simp [run, takeOn, ready_of_quiescent hq, hd', hp', judge, hw]

/-- The words of a command are words: its verb, and the arguments it is taken with. -/
theorem bodyFault_cons {v : String} {l : List String} (hv : v.isEmpty = false) (h : bodyFault l = false) :
    bodyFault (v :: l) = false := by
  simp only [bodyFault, List.any_cons, hv, Bool.false_or]; exact h

theorem bodyFault_append {l m : List String} (h : bodyFault l = false) (h' : bodyFault m = false) : bodyFault (l ++ m) = false := by
  simp only [bodyFault, List.any_append, Bool.or_eq_false_iff] at *; exact ⟨h, h'⟩

/-- The arguments of a command that is taken at once. -/
theorem takesNow_args {s : State} {snd : Sender} {args : List String} (h : takesNow s snd args = true) : bodyFault args = false := by
  simp only [takesNow, Bool.and_eq_true] at h; exact bodyFault_of_wf h.2

/-- A command of one verb, taken at once. -/
theorem run_verb {s : State} {snd : Sender} {args : List String} {v : String} {cmd : State → Answer}
    (h : takesNow s snd args = true) (hv : v.isEmpty = false := by rfl) :
    run snd (v :: args) cmd s = .next (answer snd (cmd (nextEvent s))) :=
  run_of_takesNow h (bodyFault_cons hv (takesNow_args h))

/-- A SETTING, taken at once. -/
theorem run_setting {s : State} {snd : Sender} {args : List String} {v k : String} {cmd : State → Answer}
    (h : takesNow s snd args = true) (hv : v.isEmpty = false := by rfl) (hk : k.isEmpty = false := by rfl) :
    run snd (v :: k :: args) cmd s = .next (answer snd (cmd (nextEvent s))) :=
  run_of_takesNow h (bodyFault_cons hv (bodyFault_cons hk (takesNow_args h)))

/-- The checks of a command whose sender has the class and is not locked out (R157, R158). -/
theorem gate_passes {snd : Sender} {c : Cls} {s : State} {k : State → Answer} (hc : below snd c = false)
    (hl : lockedOut s snd.cls = false) : gate snd c true s k = k s := by
  simp [gate, hc, hl]

@[simp] theorem lockedOut_nextEvent (s : State) (c : Cls) : lockedOut (nextEvent s) c = lockedOut s c := rfl
@[simp] theorem lockLevel_nextEvent (s : State) : lockLevel (nextEvent s) = lockLevel s := rfl
@[simp] theorem bay_nextEvent (s : State) (b : Bay) : bay (nextEvent s) b = bay s b := rfl

end Sys2Proof.Machine
end

