-- ==== Sys2Proof/Laws/Ops.lean ====
section
/-! SUPPORT. Laws/Ops.lean: for each shared operation, what it leaves as it is, and once what it can do. -/

namespace Sys2Proof.Machine

/-! `beginWrite` -/

@[simp] theorem beginWrite_pending (k : RecKey) (w : List CmdPort) (s : State) : (beginWrite k w s).pending = s.pending := by cases k <;> rfl
@[simp] theorem beginWrite_uptime (k : RecKey) (w : List CmdPort) (s : State) : (beginWrite k w s).uptime = s.uptime := by cases k <;> rfl
@[simp] theorem beginWrite_events (k : RecKey) (w : List CmdPort) (s : State) : (beginWrite k w s).events = s.events := by cases k <;> rfl
@[simp] theorem beginWrite_choices (k : RecKey) (w : List CmdPort) (s : State) : (beginWrite k w s).choices = s.choices := by cases k <;> rfl
@[simp] theorem beginWrite_secondsDone (k : RecKey) (w : List CmdPort) (s : State) : (beginWrite k w s).secondsDone = s.secondsDone := by cases k <;> rfl
@[simp] theorem beginWrite_cadenceDone (k : RecKey) (w : List CmdPort) (s : State) : (beginWrite k w s).cadenceDone = s.cadenceDone := by cases k <;> rfl
@[simp] theorem beginWrite_pins (k : RecKey) (w : List CmdPort) (s : State) : (beginWrite k w s).pins = s.pins := by cases k <;> rfl
@[simp] theorem beginWrite_work (k : RecKey) (w : List CmdPort) (s : State) : (beginWrite k w s).work = s.work := by cases k <;> rfl
@[simp] theorem beginWrite_lamp (k : RecKey) (w : List CmdPort) (s : State) : (beginWrite k w s).lamp = s.lamp := by cases k <;> rfl
@[simp] theorem beginWrite_mode (k : RecKey) (w : List CmdPort) (s : State) : (beginWrite k w s).mode = s.mode := by cases k <;> rfl
@[simp] theorem beginWrite_heat (k : RecKey) (w : List CmdPort) (s : State) : (beginWrite k w s).heat = s.heat := by cases k <;> rfl
@[simp] theorem beginWrite_ports (k : RecKey) (w : List CmdPort) (s : State) : (beginWrite k w s).ports = s.ports := by cases k <;> rfl
@[simp] theorem beginWrite_sel (k : RecKey) (w : List CmdPort) (s : State) : (beginWrite k w s).sel = s.sel := by cases k <;> rfl
@[simp] theorem beginWrite_geo (k : RecKey) (w : List CmdPort) (s : State) : (beginWrite k w s).geo = s.geo := by cases k <;> rfl
@[simp] theorem beginWrite_sched (k : RecKey) (w : List CmdPort) (s : State) : (beginWrite k w s).sched = s.sched := by cases k <;> rfl
@[simp] theorem beginWrite_lock (k : RecKey) (w : List CmdPort) (s : State) : (beginWrite k w s).lock = s.lock := by cases k <;> rfl
@[simp] theorem beginWrite_comms (k : RecKey) (w : List CmdPort) (s : State) : (beginWrite k w s).comms = s.comms := by cases k <;> rfl
@[simp] theorem beginWrite_faults (k : RecKey) (w : List CmdPort) (s : State) : (beginWrite k w s).faults = s.faults := by cases k <;> rfl
@[simp] theorem beginWrite_notices (k : RecKey) (w : List CmdPort) (s : State) : (beginWrite k w s).notices = s.notices := by cases k <;> rfl

/-! `startWrite` -/

@[simp] theorem startWrite_pending (s : State) : (startWrite s).pending = s.pending := by
  unfold startWrite
  split
  · rfl
  · split
    · simp
    · split <;> simp
@[simp] theorem startWrite_uptime (s : State) : (startWrite s).uptime = s.uptime := by
  unfold startWrite
  split
  · rfl
  · split
    · simp
    · split <;> simp
@[simp] theorem startWrite_events (s : State) : (startWrite s).events = s.events := by
  unfold startWrite
  split
  · rfl
  · split
    · simp
    · split <;> simp
@[simp] theorem startWrite_choices (s : State) : (startWrite s).choices = s.choices := by
  unfold startWrite
  split
  · rfl
  · split
    · simp
    · split <;> simp
@[simp] theorem startWrite_secondsDone (s : State) : (startWrite s).secondsDone = s.secondsDone := by
  unfold startWrite
  split
  · rfl
  · split
    · simp
    · split <;> simp
@[simp] theorem startWrite_cadenceDone (s : State) : (startWrite s).cadenceDone = s.cadenceDone := by
  unfold startWrite
  split
  · rfl
  · split
    · simp
    · split <;> simp
@[simp] theorem startWrite_pins (s : State) : (startWrite s).pins = s.pins := by
  unfold startWrite
  split
  · rfl
  · split
    · simp
    · split <;> simp
@[simp] theorem startWrite_work (s : State) : (startWrite s).work = s.work := by
  unfold startWrite
  split
  · rfl
  · split
    · simp
    · split <;> simp
@[simp] theorem startWrite_lamp (s : State) : (startWrite s).lamp = s.lamp := by
  unfold startWrite
  split
  · rfl
  · split
    · simp
    · split <;> simp
@[simp] theorem startWrite_mode (s : State) : (startWrite s).mode = s.mode := by
  unfold startWrite
  split
  · rfl
  · split
    · simp
    · split <;> simp
@[simp] theorem startWrite_heat (s : State) : (startWrite s).heat = s.heat := by
  unfold startWrite
  split
  · rfl
  · split
    · simp
    · split <;> simp
@[simp] theorem startWrite_ports (s : State) : (startWrite s).ports = s.ports := by
  unfold startWrite
  split
  · rfl
  · split
    · simp
    · split <;> simp
@[simp] theorem startWrite_sel (s : State) : (startWrite s).sel = s.sel := by
  unfold startWrite
  split
  · rfl
  · split
    · simp
    · split <;> simp
@[simp] theorem startWrite_geo (s : State) : (startWrite s).geo = s.geo := by
  unfold startWrite
  split
  · rfl
  · split
    · simp
    · split <;> simp
@[simp] theorem startWrite_sched (s : State) : (startWrite s).sched = s.sched := by
  unfold startWrite
  split
  · rfl
  · split
    · simp
    · split <;> simp
@[simp] theorem startWrite_lock (s : State) : (startWrite s).lock = s.lock := by
  unfold startWrite
  split
  · rfl
  · split
    · simp
    · split <;> simp
@[simp] theorem startWrite_comms (s : State) : (startWrite s).comms = s.comms := by
  unfold startWrite
  split
  · rfl
  · split
    · simp
    · split <;> simp
@[simp] theorem startWrite_faults (s : State) : (startWrite s).faults = s.faults := by
  unfold startWrite
  split
  · rfl
  · split
    · simp
    · split <;> simp
@[simp] theorem startWrite_notices (s : State) : (startWrite s).notices = s.notices := by
  unfold startWrite
  split
  · rfl
  · split
    · simp
    · split <;> simp

/-! `askOwn` -/

@[simp] theorem askOwn_pending (k : RecKey) (s : State) : (askOwn k s).pending = s.pending := by unfold askOwn; split <;> simp
@[simp] theorem askOwn_uptime (k : RecKey) (s : State) : (askOwn k s).uptime = s.uptime := by unfold askOwn; split <;> simp
@[simp] theorem askOwn_events (k : RecKey) (s : State) : (askOwn k s).events = s.events := by unfold askOwn; split <;> simp
@[simp] theorem askOwn_choices (k : RecKey) (s : State) : (askOwn k s).choices = s.choices := by unfold askOwn; split <;> simp
@[simp] theorem askOwn_secondsDone (k : RecKey) (s : State) : (askOwn k s).secondsDone = s.secondsDone := by unfold askOwn; split <;> simp
@[simp] theorem askOwn_cadenceDone (k : RecKey) (s : State) : (askOwn k s).cadenceDone = s.cadenceDone := by unfold askOwn; split <;> simp
@[simp] theorem askOwn_pins (k : RecKey) (s : State) : (askOwn k s).pins = s.pins := by unfold askOwn; split <;> simp
@[simp] theorem askOwn_work (k : RecKey) (s : State) : (askOwn k s).work = s.work := by unfold askOwn; split <;> simp
@[simp] theorem askOwn_lamp (k : RecKey) (s : State) : (askOwn k s).lamp = s.lamp := by unfold askOwn; split <;> simp
@[simp] theorem askOwn_mode (k : RecKey) (s : State) : (askOwn k s).mode = s.mode := by unfold askOwn; split <;> simp
@[simp] theorem askOwn_heat (k : RecKey) (s : State) : (askOwn k s).heat = s.heat := by unfold askOwn; split <;> simp
@[simp] theorem askOwn_ports (k : RecKey) (s : State) : (askOwn k s).ports = s.ports := by unfold askOwn; split <;> simp
@[simp] theorem askOwn_sel (k : RecKey) (s : State) : (askOwn k s).sel = s.sel := by unfold askOwn; split <;> simp
@[simp] theorem askOwn_geo (k : RecKey) (s : State) : (askOwn k s).geo = s.geo := by unfold askOwn; split <;> simp
@[simp] theorem askOwn_sched (k : RecKey) (s : State) : (askOwn k s).sched = s.sched := by unfold askOwn; split <;> simp
@[simp] theorem askOwn_lock (k : RecKey) (s : State) : (askOwn k s).lock = s.lock := by unfold askOwn; split <;> simp
@[simp] theorem askOwn_comms (k : RecKey) (s : State) : (askOwn k s).comms = s.comms := by unfold askOwn; split <;> simp
@[simp] theorem askOwn_faults (k : RecKey) (s : State) : (askOwn k s).faults = s.faults := by unfold askOwn; split <;> simp
@[simp] theorem askOwn_notices (k : RecKey) (s : State) : (askOwn k s).notices = s.notices := by unfold askOwn; split <;> simp

/-! `askFor` -/

@[simp] theorem askFor_pending (w : List CmdPort) (k : RecKey) (s : State) : (askFor w k s).pending = s.pending := by unfold askFor; split <;> simp
@[simp] theorem askFor_uptime (w : List CmdPort) (k : RecKey) (s : State) : (askFor w k s).uptime = s.uptime := by unfold askFor; split <;> simp
@[simp] theorem askFor_events (w : List CmdPort) (k : RecKey) (s : State) : (askFor w k s).events = s.events := by unfold askFor; split <;> simp
@[simp] theorem askFor_choices (w : List CmdPort) (k : RecKey) (s : State) : (askFor w k s).choices = s.choices := by unfold askFor; split <;> simp
@[simp] theorem askFor_secondsDone (w : List CmdPort) (k : RecKey) (s : State) : (askFor w k s).secondsDone = s.secondsDone := by unfold askFor; split <;> simp
@[simp] theorem askFor_cadenceDone (w : List CmdPort) (k : RecKey) (s : State) : (askFor w k s).cadenceDone = s.cadenceDone := by unfold askFor; split <;> simp
@[simp] theorem askFor_pins (w : List CmdPort) (k : RecKey) (s : State) : (askFor w k s).pins = s.pins := by unfold askFor; split <;> simp
@[simp] theorem askFor_work (w : List CmdPort) (k : RecKey) (s : State) : (askFor w k s).work = s.work := by unfold askFor; split <;> simp
@[simp] theorem askFor_lamp (w : List CmdPort) (k : RecKey) (s : State) : (askFor w k s).lamp = s.lamp := by unfold askFor; split <;> simp
@[simp] theorem askFor_mode (w : List CmdPort) (k : RecKey) (s : State) : (askFor w k s).mode = s.mode := by unfold askFor; split <;> simp
@[simp] theorem askFor_heat (w : List CmdPort) (k : RecKey) (s : State) : (askFor w k s).heat = s.heat := by unfold askFor; split <;> simp
@[simp] theorem askFor_ports (w : List CmdPort) (k : RecKey) (s : State) : (askFor w k s).ports = s.ports := by unfold askFor; split <;> simp
@[simp] theorem askFor_sel (w : List CmdPort) (k : RecKey) (s : State) : (askFor w k s).sel = s.sel := by unfold askFor; split <;> simp
@[simp] theorem askFor_geo (w : List CmdPort) (k : RecKey) (s : State) : (askFor w k s).geo = s.geo := by unfold askFor; split <;> simp
@[simp] theorem askFor_sched (w : List CmdPort) (k : RecKey) (s : State) : (askFor w k s).sched = s.sched := by unfold askFor; split <;> simp
@[simp] theorem askFor_lock (w : List CmdPort) (k : RecKey) (s : State) : (askFor w k s).lock = s.lock := by unfold askFor; split <;> simp
@[simp] theorem askFor_comms (w : List CmdPort) (k : RecKey) (s : State) : (askFor w k s).comms = s.comms := by unfold askFor; split <;> simp
@[simp] theorem askFor_faults (w : List CmdPort) (k : RecKey) (s : State) : (askFor w k s).faults = s.faults := by unfold askFor; split <;> simp
@[simp] theorem askFor_notices (w : List CmdPort) (k : RecKey) (s : State) : (askFor w k s).notices = s.notices := by unfold askFor; split <;> simp

/-! `ask` -/

@[simp] theorem ask_pending (snd : Sender) (k : RecKey) (s : State) : (ask snd k s).pending = s.pending := by simp [ask]
@[simp] theorem ask_uptime (snd : Sender) (k : RecKey) (s : State) : (ask snd k s).uptime = s.uptime := by simp [ask]
@[simp] theorem ask_events (snd : Sender) (k : RecKey) (s : State) : (ask snd k s).events = s.events := by simp [ask]
@[simp] theorem ask_choices (snd : Sender) (k : RecKey) (s : State) : (ask snd k s).choices = s.choices := by simp [ask]
@[simp] theorem ask_secondsDone (snd : Sender) (k : RecKey) (s : State) : (ask snd k s).secondsDone = s.secondsDone := by simp [ask]
@[simp] theorem ask_cadenceDone (snd : Sender) (k : RecKey) (s : State) : (ask snd k s).cadenceDone = s.cadenceDone := by simp [ask]
@[simp] theorem ask_pins (snd : Sender) (k : RecKey) (s : State) : (ask snd k s).pins = s.pins := by simp [ask]
@[simp] theorem ask_work (snd : Sender) (k : RecKey) (s : State) : (ask snd k s).work = s.work := by simp [ask]
@[simp] theorem ask_lamp (snd : Sender) (k : RecKey) (s : State) : (ask snd k s).lamp = s.lamp := by simp [ask]
@[simp] theorem ask_mode (snd : Sender) (k : RecKey) (s : State) : (ask snd k s).mode = s.mode := by simp [ask]
@[simp] theorem ask_heat (snd : Sender) (k : RecKey) (s : State) : (ask snd k s).heat = s.heat := by simp [ask]
@[simp] theorem ask_ports (snd : Sender) (k : RecKey) (s : State) : (ask snd k s).ports = s.ports := by simp [ask]
@[simp] theorem ask_sel (snd : Sender) (k : RecKey) (s : State) : (ask snd k s).sel = s.sel := by simp [ask]
@[simp] theorem ask_geo (snd : Sender) (k : RecKey) (s : State) : (ask snd k s).geo = s.geo := by simp [ask]
@[simp] theorem ask_sched (snd : Sender) (k : RecKey) (s : State) : (ask snd k s).sched = s.sched := by simp [ask]
@[simp] theorem ask_lock (snd : Sender) (k : RecKey) (s : State) : (ask snd k s).lock = s.lock := by simp [ask]
@[simp] theorem ask_comms (snd : Sender) (k : RecKey) (s : State) : (ask snd k s).comms = s.comms := by simp [ask]
@[simp] theorem ask_faults (snd : Sender) (k : RecKey) (s : State) : (ask snd k s).faults = s.faults := by simp [ask]
@[simp] theorem ask_notices (snd : Sender) (k : RecKey) (s : State) : (ask snd k s).notices = s.notices := by simp [ask]

/-! `enterCooling` -/

@[simp] theorem enterCooling_pending (b : Bay) (s : State) : (enterCooling b s).pending = s.pending := rfl
@[simp] theorem enterCooling_uptime (b : Bay) (s : State) : (enterCooling b s).uptime = s.uptime := rfl
@[simp] theorem enterCooling_events (b : Bay) (s : State) : (enterCooling b s).events = s.events := rfl
@[simp] theorem enterCooling_choices (b : Bay) (s : State) : (enterCooling b s).choices = s.choices := rfl
@[simp] theorem enterCooling_secondsDone (b : Bay) (s : State) : (enterCooling b s).secondsDone = s.secondsDone := rfl
@[simp] theorem enterCooling_cadenceDone (b : Bay) (s : State) : (enterCooling b s).cadenceDone = s.cadenceDone := rfl
@[simp] theorem enterCooling_pins (b : Bay) (s : State) : (enterCooling b s).pins = s.pins := rfl
@[simp] theorem enterCooling_work (b : Bay) (s : State) : (enterCooling b s).work = s.work := rfl
@[simp] theorem enterCooling_store (b : Bay) (s : State) : (enterCooling b s).store = s.store := rfl
@[simp] theorem enterCooling_wear (b : Bay) (s : State) : (enterCooling b s).wear = s.wear := rfl
@[simp] theorem enterCooling_mode (b : Bay) (s : State) : (enterCooling b s).mode = s.mode := rfl
@[simp] theorem enterCooling_heat (b : Bay) (s : State) : (enterCooling b s).heat = s.heat := rfl
@[simp] theorem enterCooling_ports (b : Bay) (s : State) : (enterCooling b s).ports = s.ports := rfl
@[simp] theorem enterCooling_sel (b : Bay) (s : State) : (enterCooling b s).sel = s.sel := rfl
@[simp] theorem enterCooling_geo (b : Bay) (s : State) : (enterCooling b s).geo = s.geo := rfl
@[simp] theorem enterCooling_sched (b : Bay) (s : State) : (enterCooling b s).sched = s.sched := rfl
@[simp] theorem enterCooling_lock (b : Bay) (s : State) : (enterCooling b s).lock = s.lock := rfl
@[simp] theorem enterCooling_comms (b : Bay) (s : State) : (enterCooling b s).comms = s.comms := rfl
@[simp] theorem enterCooling_faults (b : Bay) (s : State) : (enterCooling b s).faults = s.faults := rfl
@[simp] theorem enterCooling_notices (b : Bay) (s : State) : (enterCooling b s).notices = s.notices := rfl

/-! `leaveBurning` -/

@[simp] theorem leaveBurning_pending (b : Bay) (s : State) : (leaveBurning b s).pending = s.pending := by
  unfold leaveBurning; dsimp only; split <;> simp
@[simp] theorem leaveBurning_uptime (b : Bay) (s : State) : (leaveBurning b s).uptime = s.uptime := by
  unfold leaveBurning; dsimp only; split <;> simp
@[simp] theorem leaveBurning_events (b : Bay) (s : State) : (leaveBurning b s).events = s.events := by
  unfold leaveBurning; dsimp only; split <;> simp
@[simp] theorem leaveBurning_choices (b : Bay) (s : State) : (leaveBurning b s).choices = s.choices := by
  unfold leaveBurning; dsimp only; split <;> simp
@[simp] theorem leaveBurning_secondsDone (b : Bay) (s : State) : (leaveBurning b s).secondsDone = s.secondsDone := by
  unfold leaveBurning; dsimp only; split <;> simp
@[simp] theorem leaveBurning_cadenceDone (b : Bay) (s : State) : (leaveBurning b s).cadenceDone = s.cadenceDone := by
  unfold leaveBurning; dsimp only; split <;> simp
@[simp] theorem leaveBurning_pins (b : Bay) (s : State) : (leaveBurning b s).pins = s.pins := by
  unfold leaveBurning; dsimp only; split <;> simp
@[simp] theorem leaveBurning_work (b : Bay) (s : State) : (leaveBurning b s).work = s.work := by
  unfold leaveBurning; dsimp only; split <;> simp
@[simp] theorem leaveBurning_mode (b : Bay) (s : State) : (leaveBurning b s).mode = s.mode := by
  unfold leaveBurning; dsimp only; split <;> simp
@[simp] theorem leaveBurning_heat (b : Bay) (s : State) : (leaveBurning b s).heat = s.heat := by
  unfold leaveBurning; dsimp only; split <;> simp
@[simp] theorem leaveBurning_ports (b : Bay) (s : State) : (leaveBurning b s).ports = s.ports := by
  unfold leaveBurning; dsimp only; split <;> simp
@[simp] theorem leaveBurning_sel (b : Bay) (s : State) : (leaveBurning b s).sel = s.sel := by
  unfold leaveBurning; dsimp only; split <;> simp
@[simp] theorem leaveBurning_geo (b : Bay) (s : State) : (leaveBurning b s).geo = s.geo := by
  unfold leaveBurning; dsimp only; split <;> simp
@[simp] theorem leaveBurning_sched (b : Bay) (s : State) : (leaveBurning b s).sched = s.sched := by
  unfold leaveBurning; dsimp only; split <;> simp
@[simp] theorem leaveBurning_lock (b : Bay) (s : State) : (leaveBurning b s).lock = s.lock := by
  unfold leaveBurning; dsimp only; split <;> simp
@[simp] theorem leaveBurning_comms (b : Bay) (s : State) : (leaveBurning b s).comms = s.comms := by
  unfold leaveBurning; dsimp only; split <;> simp
@[simp] theorem leaveBurning_faults (b : Bay) (s : State) : (leaveBurning b s).faults = s.faults := by
  unfold leaveBurning; dsimp only; split <;> simp
@[simp] theorem leaveBurning_notices (b : Bay) (s : State) : (leaveBurning b s).notices = s.notices := by
  unfold leaveBurning; dsimp only; split <;> simp

/-! `extinguish` -/

@[simp] theorem extinguish_pending (b : Bay) (s : State) : (extinguish b s).pending = s.pending := by simp [extinguish]
@[simp] theorem extinguish_uptime (b : Bay) (s : State) : (extinguish b s).uptime = s.uptime := by simp [extinguish]
@[simp] theorem extinguish_events (b : Bay) (s : State) : (extinguish b s).events = s.events := by simp [extinguish]
@[simp] theorem extinguish_choices (b : Bay) (s : State) : (extinguish b s).choices = s.choices := by simp [extinguish]
@[simp] theorem extinguish_secondsDone (b : Bay) (s : State) : (extinguish b s).secondsDone = s.secondsDone := by simp [extinguish]
@[simp] theorem extinguish_cadenceDone (b : Bay) (s : State) : (extinguish b s).cadenceDone = s.cadenceDone := by simp [extinguish]
@[simp] theorem extinguish_pins (b : Bay) (s : State) : (extinguish b s).pins = s.pins := by simp [extinguish]
@[simp] theorem extinguish_work (b : Bay) (s : State) : (extinguish b s).work = s.work := by simp [extinguish]
@[simp] theorem extinguish_mode (b : Bay) (s : State) : (extinguish b s).mode = s.mode := by simp [extinguish]
@[simp] theorem extinguish_heat (b : Bay) (s : State) : (extinguish b s).heat = s.heat := by simp [extinguish]
@[simp] theorem extinguish_ports (b : Bay) (s : State) : (extinguish b s).ports = s.ports := by simp [extinguish]
@[simp] theorem extinguish_sel (b : Bay) (s : State) : (extinguish b s).sel = s.sel := by simp [extinguish]
@[simp] theorem extinguish_geo (b : Bay) (s : State) : (extinguish b s).geo = s.geo := by simp [extinguish]
@[simp] theorem extinguish_sched (b : Bay) (s : State) : (extinguish b s).sched = s.sched := by simp [extinguish]
@[simp] theorem extinguish_lock (b : Bay) (s : State) : (extinguish b s).lock = s.lock := by simp [extinguish]
@[simp] theorem extinguish_comms (b : Bay) (s : State) : (extinguish b s).comms = s.comms := by simp [extinguish]
@[simp] theorem extinguish_faults (b : Bay) (s : State) : (extinguish b s).faults = s.faults := by simp [extinguish]
@[simp] theorem extinguish_notices (b : Bay) (s : State) : (extinguish b s).notices = s.notices := by simp [extinguish]

/-! `leaveStriking` -/

@[simp] theorem leaveStriking_pending (b : Bay) (s : State) : (leaveStriking b s).pending = s.pending := rfl
@[simp] theorem leaveStriking_uptime (b : Bay) (s : State) : (leaveStriking b s).uptime = s.uptime := rfl
@[simp] theorem leaveStriking_events (b : Bay) (s : State) : (leaveStriking b s).events = s.events := rfl
@[simp] theorem leaveStriking_choices (b : Bay) (s : State) : (leaveStriking b s).choices = s.choices := rfl
@[simp] theorem leaveStriking_secondsDone (b : Bay) (s : State) : (leaveStriking b s).secondsDone = s.secondsDone := rfl
@[simp] theorem leaveStriking_cadenceDone (b : Bay) (s : State) : (leaveStriking b s).cadenceDone = s.cadenceDone := rfl
@[simp] theorem leaveStriking_pins (b : Bay) (s : State) : (leaveStriking b s).pins = s.pins := rfl
@[simp] theorem leaveStriking_work (b : Bay) (s : State) : (leaveStriking b s).work = s.work := rfl
@[simp] theorem leaveStriking_store (b : Bay) (s : State) : (leaveStriking b s).store = s.store := rfl
@[simp] theorem leaveStriking_wear (b : Bay) (s : State) : (leaveStriking b s).wear = s.wear := rfl
@[simp] theorem leaveStriking_mode (b : Bay) (s : State) : (leaveStriking b s).mode = s.mode := rfl
@[simp] theorem leaveStriking_heat (b : Bay) (s : State) : (leaveStriking b s).heat = s.heat := rfl
@[simp] theorem leaveStriking_ports (b : Bay) (s : State) : (leaveStriking b s).ports = s.ports := rfl
@[simp] theorem leaveStriking_sel (b : Bay) (s : State) : (leaveStriking b s).sel = s.sel := rfl
@[simp] theorem leaveStriking_geo (b : Bay) (s : State) : (leaveStriking b s).geo = s.geo := rfl
@[simp] theorem leaveStriking_sched (b : Bay) (s : State) : (leaveStriking b s).sched = s.sched := rfl
@[simp] theorem leaveStriking_lock (b : Bay) (s : State) : (leaveStriking b s).lock = s.lock := rfl
@[simp] theorem leaveStriking_comms (b : Bay) (s : State) : (leaveStriking b s).comms = s.comms := rfl
@[simp] theorem leaveStriking_faults (b : Bay) (s : State) : (leaveStriking b s).faults = s.faults := rfl
@[simp] theorem leaveStriking_notices (b : Bay) (s : State) : (leaveStriking b s).notices = s.notices := rfl

/-! `putWanted` -/

@[simp] theorem putWanted_pending (w : PerBay Bool) (s : State) : (putWanted w s).pending = s.pending := by unfold putWanted; dsimp only; split <;> split <;> simp
@[simp] theorem putWanted_uptime (w : PerBay Bool) (s : State) : (putWanted w s).uptime = s.uptime := by unfold putWanted; dsimp only; split <;> split <;> simp
@[simp] theorem putWanted_events (w : PerBay Bool) (s : State) : (putWanted w s).events = s.events := by unfold putWanted; dsimp only; split <;> split <;> simp
@[simp] theorem putWanted_choices (w : PerBay Bool) (s : State) : (putWanted w s).choices = s.choices := by unfold putWanted; dsimp only; split <;> split <;> simp
@[simp] theorem putWanted_secondsDone (w : PerBay Bool) (s : State) : (putWanted w s).secondsDone = s.secondsDone := by unfold putWanted; dsimp only; split <;> split <;> simp
@[simp] theorem putWanted_cadenceDone (w : PerBay Bool) (s : State) : (putWanted w s).cadenceDone = s.cadenceDone := by unfold putWanted; dsimp only; split <;> split <;> simp
@[simp] theorem putWanted_pins (w : PerBay Bool) (s : State) : (putWanted w s).pins = s.pins := by unfold putWanted; dsimp only; split <;> split <;> simp
@[simp] theorem putWanted_work (w : PerBay Bool) (s : State) : (putWanted w s).work = s.work := by unfold putWanted; dsimp only; split <;> split <;> simp
@[simp] theorem putWanted_mode (w : PerBay Bool) (s : State) : (putWanted w s).mode = s.mode := by unfold putWanted; dsimp only; split <;> split <;> simp
@[simp] theorem putWanted_heat (w : PerBay Bool) (s : State) : (putWanted w s).heat = s.heat := by unfold putWanted; dsimp only; split <;> split <;> simp
@[simp] theorem putWanted_ports (w : PerBay Bool) (s : State) : (putWanted w s).ports = s.ports := by unfold putWanted; dsimp only; split <;> split <;> simp
@[simp] theorem putWanted_sel (w : PerBay Bool) (s : State) : (putWanted w s).sel = s.sel := by unfold putWanted; dsimp only; split <;> split <;> simp
@[simp] theorem putWanted_geo (w : PerBay Bool) (s : State) : (putWanted w s).geo = s.geo := by unfold putWanted; dsimp only; split <;> split <;> simp
@[simp] theorem putWanted_sched (w : PerBay Bool) (s : State) : (putWanted w s).sched = s.sched := by unfold putWanted; dsimp only; split <;> split <;> simp
@[simp] theorem putWanted_lock (w : PerBay Bool) (s : State) : (putWanted w s).lock = s.lock := by unfold putWanted; dsimp only; split <;> split <;> simp
@[simp] theorem putWanted_comms (w : PerBay Bool) (s : State) : (putWanted w s).comms = s.comms := by unfold putWanted; dsimp only; split <;> split <;> simp
@[simp] theorem putWanted_faults (w : PerBay Bool) (s : State) : (putWanted w s).faults = s.faults := by unfold putWanted; dsimp only; split <;> split <;> simp
@[simp] theorem putWanted_notices (w : PerBay Bool) (s : State) : (putWanted w s).notices = s.notices := by unfold putWanted; dsimp only; split <;> split <;> simp

/-! `formWanted` -/

@[simp] theorem formWanted_pending (s : State) : (formWanted s).pending = s.pending := by simp [formWanted]
@[simp] theorem formWanted_uptime (s : State) : (formWanted s).uptime = s.uptime := by simp [formWanted]
@[simp] theorem formWanted_events (s : State) : (formWanted s).events = s.events := by simp [formWanted]
@[simp] theorem formWanted_choices (s : State) : (formWanted s).choices = s.choices := by simp [formWanted]
@[simp] theorem formWanted_secondsDone (s : State) : (formWanted s).secondsDone = s.secondsDone := by simp [formWanted]
@[simp] theorem formWanted_cadenceDone (s : State) : (formWanted s).cadenceDone = s.cadenceDone := by simp [formWanted]
@[simp] theorem formWanted_pins (s : State) : (formWanted s).pins = s.pins := by simp [formWanted]
@[simp] theorem formWanted_work (s : State) : (formWanted s).work = s.work := by simp [formWanted]
@[simp] theorem formWanted_mode (s : State) : (formWanted s).mode = s.mode := by simp [formWanted]
@[simp] theorem formWanted_heat (s : State) : (formWanted s).heat = s.heat := by simp [formWanted]
@[simp] theorem formWanted_ports (s : State) : (formWanted s).ports = s.ports := by simp [formWanted]
@[simp] theorem formWanted_sel (s : State) : (formWanted s).sel = s.sel := by simp [formWanted]
@[simp] theorem formWanted_geo (s : State) : (formWanted s).geo = s.geo := by simp [formWanted]
@[simp] theorem formWanted_sched (s : State) : (formWanted s).sched = s.sched := by simp [formWanted]
@[simp] theorem formWanted_lock (s : State) : (formWanted s).lock = s.lock := by simp [formWanted]
@[simp] theorem formWanted_comms (s : State) : (formWanted s).comms = s.comms := by simp [formWanted]
@[simp] theorem formWanted_faults (s : State) : (formWanted s).faults = s.faults := by simp [formWanted]
@[simp] theorem formWanted_notices (s : State) : (formWanted s).notices = s.notices := by simp [formWanted]

/-! `leaveWanted` -/

@[simp] theorem leaveWanted_pending (b : Bay) (s : State) : (leaveWanted b s).pending = s.pending := by
  unfold leaveWanted
  dsimp only
  split
  · split <;> simp
  · rfl
@[simp] theorem leaveWanted_uptime (b : Bay) (s : State) : (leaveWanted b s).uptime = s.uptime := by
  unfold leaveWanted
  dsimp only
  split
  · split <;> simp
  · rfl
@[simp] theorem leaveWanted_events (b : Bay) (s : State) : (leaveWanted b s).events = s.events := by
  unfold leaveWanted
  dsimp only
  split
  · split <;> simp
  · rfl
@[simp] theorem leaveWanted_choices (b : Bay) (s : State) : (leaveWanted b s).choices = s.choices := by
  unfold leaveWanted
  dsimp only
  split
  · split <;> simp
  · rfl
@[simp] theorem leaveWanted_secondsDone (b : Bay) (s : State) : (leaveWanted b s).secondsDone = s.secondsDone := by
  unfold leaveWanted
  dsimp only
  split
  · split <;> simp
  · rfl
@[simp] theorem leaveWanted_cadenceDone (b : Bay) (s : State) : (leaveWanted b s).cadenceDone = s.cadenceDone := by
  unfold leaveWanted
  dsimp only
  split
  · split <;> simp
  · rfl
@[simp] theorem leaveWanted_pins (b : Bay) (s : State) : (leaveWanted b s).pins = s.pins := by
  unfold leaveWanted
  dsimp only
  split
  · split <;> simp
  · rfl
@[simp] theorem leaveWanted_work (b : Bay) (s : State) : (leaveWanted b s).work = s.work := by
  unfold leaveWanted
  dsimp only
  split
  · split <;> simp
  · rfl
@[simp] theorem leaveWanted_mode (b : Bay) (s : State) : (leaveWanted b s).mode = s.mode := by
  unfold leaveWanted
  dsimp only
  split
  · split <;> simp
  · rfl
@[simp] theorem leaveWanted_heat (b : Bay) (s : State) : (leaveWanted b s).heat = s.heat := by
  unfold leaveWanted
  dsimp only
  split
  · split <;> simp
  · rfl
@[simp] theorem leaveWanted_ports (b : Bay) (s : State) : (leaveWanted b s).ports = s.ports := by
  unfold leaveWanted
  dsimp only
  split
  · split <;> simp
  · rfl
@[simp] theorem leaveWanted_sel (b : Bay) (s : State) : (leaveWanted b s).sel = s.sel := by
  unfold leaveWanted
  dsimp only
  split
  · split <;> simp
  · rfl
@[simp] theorem leaveWanted_geo (b : Bay) (s : State) : (leaveWanted b s).geo = s.geo := by
  unfold leaveWanted
  dsimp only
  split
  · split <;> simp
  · rfl
@[simp] theorem leaveWanted_sched (b : Bay) (s : State) : (leaveWanted b s).sched = s.sched := by
  unfold leaveWanted
  dsimp only
  split
  · split <;> simp
  · rfl
@[simp] theorem leaveWanted_lock (b : Bay) (s : State) : (leaveWanted b s).lock = s.lock := by
  unfold leaveWanted
  dsimp only
  split
  · split <;> simp
  · rfl
@[simp] theorem leaveWanted_comms (b : Bay) (s : State) : (leaveWanted b s).comms = s.comms := by
  unfold leaveWanted
  dsimp only
  split
  · split <;> simp
  · rfl
@[simp] theorem leaveWanted_faults (b : Bay) (s : State) : (leaveWanted b s).faults = s.faults := by
  unfold leaveWanted
  dsimp only
  split
  · split <;> simp
  · rfl
@[simp] theorem leaveWanted_notices (b : Bay) (s : State) : (leaveWanted b s).notices = s.notices := by
  unfold leaveWanted
  dsimp only
  split
  · split <;> simp
  · rfl

/-! `fillShortfall` -/

@[simp] theorem fillShortfall_pending (s : State) : (fillShortfall s).pending = s.pending := by unfold fillShortfall; split <;> simp
@[simp] theorem fillShortfall_uptime (s : State) : (fillShortfall s).uptime = s.uptime := by unfold fillShortfall; split <;> simp
@[simp] theorem fillShortfall_events (s : State) : (fillShortfall s).events = s.events := by unfold fillShortfall; split <;> simp
@[simp] theorem fillShortfall_choices (s : State) : (fillShortfall s).choices = s.choices := by unfold fillShortfall; split <;> simp
@[simp] theorem fillShortfall_secondsDone (s : State) : (fillShortfall s).secondsDone = s.secondsDone := by unfold fillShortfall; split <;> simp
@[simp] theorem fillShortfall_cadenceDone (s : State) : (fillShortfall s).cadenceDone = s.cadenceDone := by unfold fillShortfall; split <;> simp
@[simp] theorem fillShortfall_pins (s : State) : (fillShortfall s).pins = s.pins := by unfold fillShortfall; split <;> simp
@[simp] theorem fillShortfall_work (s : State) : (fillShortfall s).work = s.work := by unfold fillShortfall; split <;> simp
@[simp] theorem fillShortfall_mode (s : State) : (fillShortfall s).mode = s.mode := by unfold fillShortfall; split <;> simp
@[simp] theorem fillShortfall_heat (s : State) : (fillShortfall s).heat = s.heat := by unfold fillShortfall; split <;> simp
@[simp] theorem fillShortfall_ports (s : State) : (fillShortfall s).ports = s.ports := by unfold fillShortfall; split <;> simp
@[simp] theorem fillShortfall_sel (s : State) : (fillShortfall s).sel = s.sel := by unfold fillShortfall; split <;> simp
@[simp] theorem fillShortfall_geo (s : State) : (fillShortfall s).geo = s.geo := by unfold fillShortfall; split <;> simp
@[simp] theorem fillShortfall_sched (s : State) : (fillShortfall s).sched = s.sched := by unfold fillShortfall; split <;> simp
@[simp] theorem fillShortfall_lock (s : State) : (fillShortfall s).lock = s.lock := by unfold fillShortfall; split <;> simp
@[simp] theorem fillShortfall_comms (s : State) : (fillShortfall s).comms = s.comms := by unfold fillShortfall; split <;> simp
@[simp] theorem fillShortfall_faults (s : State) : (fillShortfall s).faults = s.faults := by unfold fillShortfall; split <;> simp
@[simp] theorem fillShortfall_notices (s : State) : (fillShortfall s).notices = s.notices := by unfold fillShortfall; split <;> simp

/-! `dropExhausted` -/

@[simp] theorem dropExhausted_pending (b : Bay) (s : State) : (dropExhausted b s).pending = s.pending := by unfold dropExhausted; split <;> simp
@[simp] theorem dropExhausted_uptime (b : Bay) (s : State) : (dropExhausted b s).uptime = s.uptime := by unfold dropExhausted; split <;> simp
@[simp] theorem dropExhausted_events (b : Bay) (s : State) : (dropExhausted b s).events = s.events := by unfold dropExhausted; split <;> simp
@[simp] theorem dropExhausted_choices (b : Bay) (s : State) : (dropExhausted b s).choices = s.choices := by unfold dropExhausted; split <;> simp
@[simp] theorem dropExhausted_secondsDone (b : Bay) (s : State) : (dropExhausted b s).secondsDone = s.secondsDone := by unfold dropExhausted; split <;> simp
@[simp] theorem dropExhausted_cadenceDone (b : Bay) (s : State) : (dropExhausted b s).cadenceDone = s.cadenceDone := by unfold dropExhausted; split <;> simp
@[simp] theorem dropExhausted_pins (b : Bay) (s : State) : (dropExhausted b s).pins = s.pins := by unfold dropExhausted; split <;> simp
@[simp] theorem dropExhausted_work (b : Bay) (s : State) : (dropExhausted b s).work = s.work := by unfold dropExhausted; split <;> simp
@[simp] theorem dropExhausted_mode (b : Bay) (s : State) : (dropExhausted b s).mode = s.mode := by unfold dropExhausted; split <;> simp
@[simp] theorem dropExhausted_heat (b : Bay) (s : State) : (dropExhausted b s).heat = s.heat := by unfold dropExhausted; split <;> simp
@[simp] theorem dropExhausted_ports (b : Bay) (s : State) : (dropExhausted b s).ports = s.ports := by unfold dropExhausted; split <;> simp
@[simp] theorem dropExhausted_sel (b : Bay) (s : State) : (dropExhausted b s).sel = s.sel := by unfold dropExhausted; split <;> simp
@[simp] theorem dropExhausted_geo (b : Bay) (s : State) : (dropExhausted b s).geo = s.geo := by unfold dropExhausted; split <;> simp
@[simp] theorem dropExhausted_sched (b : Bay) (s : State) : (dropExhausted b s).sched = s.sched := by unfold dropExhausted; split <;> simp
@[simp] theorem dropExhausted_lock (b : Bay) (s : State) : (dropExhausted b s).lock = s.lock := by unfold dropExhausted; split <;> simp
@[simp] theorem dropExhausted_comms (b : Bay) (s : State) : (dropExhausted b s).comms = s.comms := by unfold dropExhausted; split <;> simp
@[simp] theorem dropExhausted_faults (b : Bay) (s : State) : (dropExhausted b s).faults = s.faults := by unfold dropExhausted; split <;> simp
@[simp] theorem dropExhausted_notices (b : Bay) (s : State) : (dropExhausted b s).notices = s.notices := by unfold dropExhausted; split <;> simp

/-! `forceOut` -/

@[simp] theorem forceOut_pending (b : Bay) (s : State) : (forceOut b s).pending = s.pending := by unfold forceOut; split <;> simp
@[simp] theorem forceOut_uptime (b : Bay) (s : State) : (forceOut b s).uptime = s.uptime := by unfold forceOut; split <;> simp
@[simp] theorem forceOut_events (b : Bay) (s : State) : (forceOut b s).events = s.events := by unfold forceOut; split <;> simp
@[simp] theorem forceOut_choices (b : Bay) (s : State) : (forceOut b s).choices = s.choices := by unfold forceOut; split <;> simp
@[simp] theorem forceOut_secondsDone (b : Bay) (s : State) : (forceOut b s).secondsDone = s.secondsDone := by unfold forceOut; split <;> simp
@[simp] theorem forceOut_cadenceDone (b : Bay) (s : State) : (forceOut b s).cadenceDone = s.cadenceDone := by unfold forceOut; split <;> simp
@[simp] theorem forceOut_pins (b : Bay) (s : State) : (forceOut b s).pins = s.pins := by unfold forceOut; split <;> simp
@[simp] theorem forceOut_work (b : Bay) (s : State) : (forceOut b s).work = s.work := by unfold forceOut; split <;> simp
@[simp] theorem forceOut_mode (b : Bay) (s : State) : (forceOut b s).mode = s.mode := by unfold forceOut; split <;> simp
@[simp] theorem forceOut_heat (b : Bay) (s : State) : (forceOut b s).heat = s.heat := by unfold forceOut; split <;> simp
@[simp] theorem forceOut_ports (b : Bay) (s : State) : (forceOut b s).ports = s.ports := by unfold forceOut; split <;> simp
@[simp] theorem forceOut_sel (b : Bay) (s : State) : (forceOut b s).sel = s.sel := by unfold forceOut; split <;> simp
@[simp] theorem forceOut_geo (b : Bay) (s : State) : (forceOut b s).geo = s.geo := by unfold forceOut; split <;> simp
@[simp] theorem forceOut_sched (b : Bay) (s : State) : (forceOut b s).sched = s.sched := by unfold forceOut; split <;> simp
@[simp] theorem forceOut_lock (b : Bay) (s : State) : (forceOut b s).lock = s.lock := by unfold forceOut; split <;> simp
@[simp] theorem forceOut_comms (b : Bay) (s : State) : (forceOut b s).comms = s.comms := by unfold forceOut; split <;> simp
@[simp] theorem forceOut_faults (b : Bay) (s : State) : (forceOut b s).faults = s.faults := by unfold forceOut; split <;> simp
@[simp] theorem forceOut_notices (b : Bay) (s : State) : (forceOut b s).notices = s.notices := by unfold forceOut; split <;> simp

/-! `outByCause` -/

@[simp] theorem outByCause_pending (b : Bay) (s : State) : (outByCause b s).pending = s.pending := by
  unfold outByCause
  split
  · split <;> simp
  · rfl
@[simp] theorem outByCause_uptime (b : Bay) (s : State) : (outByCause b s).uptime = s.uptime := by
  unfold outByCause
  split
  · split <;> simp
  · rfl
@[simp] theorem outByCause_events (b : Bay) (s : State) : (outByCause b s).events = s.events := by
  unfold outByCause
  split
  · split <;> simp
  · rfl
@[simp] theorem outByCause_choices (b : Bay) (s : State) : (outByCause b s).choices = s.choices := by
  unfold outByCause
  split
  · split <;> simp
  · rfl
@[simp] theorem outByCause_secondsDone (b : Bay) (s : State) : (outByCause b s).secondsDone = s.secondsDone := by
  unfold outByCause
  split
  · split <;> simp
  · rfl
@[simp] theorem outByCause_cadenceDone (b : Bay) (s : State) : (outByCause b s).cadenceDone = s.cadenceDone := by
  unfold outByCause
  split
  · split <;> simp
  · rfl
@[simp] theorem outByCause_pins (b : Bay) (s : State) : (outByCause b s).pins = s.pins := by
  unfold outByCause
  split
  · split <;> simp
  · rfl
@[simp] theorem outByCause_work (b : Bay) (s : State) : (outByCause b s).work = s.work := by
  unfold outByCause
  split
  · split <;> simp
  · rfl
@[simp] theorem outByCause_mode (b : Bay) (s : State) : (outByCause b s).mode = s.mode := by
  unfold outByCause
  split
  · split <;> simp
  · rfl
@[simp] theorem outByCause_heat (b : Bay) (s : State) : (outByCause b s).heat = s.heat := by
  unfold outByCause
  split
  · split <;> simp
  · rfl
@[simp] theorem outByCause_ports (b : Bay) (s : State) : (outByCause b s).ports = s.ports := by
  unfold outByCause
  split
  · split <;> simp
  · rfl
@[simp] theorem outByCause_sel (b : Bay) (s : State) : (outByCause b s).sel = s.sel := by
  unfold outByCause
  split
  · split <;> simp
  · rfl
@[simp] theorem outByCause_geo (b : Bay) (s : State) : (outByCause b s).geo = s.geo := by
  unfold outByCause
  split
  · split <;> simp
  · rfl
@[simp] theorem outByCause_sched (b : Bay) (s : State) : (outByCause b s).sched = s.sched := by
  unfold outByCause
  split
  · split <;> simp
  · rfl
@[simp] theorem outByCause_lock (b : Bay) (s : State) : (outByCause b s).lock = s.lock := by
  unfold outByCause
  split
  · split <;> simp
  · rfl
@[simp] theorem outByCause_comms (b : Bay) (s : State) : (outByCause b s).comms = s.comms := by
  unfold outByCause
  split
  · split <;> simp
  · rfl
@[simp] theorem outByCause_faults (b : Bay) (s : State) : (outByCause b s).faults = s.faults := by
  unfold outByCause
  split
  · split <;> simp
  · rfl
@[simp] theorem outByCause_notices (b : Bay) (s : State) : (outByCause b s).notices = s.notices := by
  unfold outByCause
  split
  · split <;> simp
  · rfl

/-! `setDemand` -/

@[simp] theorem setDemand_pending (o : DemandOrigin) (n : Nat) (s : State) : (setDemand o n s).pending = s.pending := by unfold setDemand; split <;> simp
@[simp] theorem setDemand_uptime (o : DemandOrigin) (n : Nat) (s : State) : (setDemand o n s).uptime = s.uptime := by unfold setDemand; split <;> simp
@[simp] theorem setDemand_events (o : DemandOrigin) (n : Nat) (s : State) : (setDemand o n s).events = s.events := by unfold setDemand; split <;> simp
@[simp] theorem setDemand_choices (o : DemandOrigin) (n : Nat) (s : State) : (setDemand o n s).choices = s.choices := by unfold setDemand; split <;> simp
@[simp] theorem setDemand_secondsDone (o : DemandOrigin) (n : Nat) (s : State) : (setDemand o n s).secondsDone = s.secondsDone := by unfold setDemand; split <;> simp
@[simp] theorem setDemand_cadenceDone (o : DemandOrigin) (n : Nat) (s : State) : (setDemand o n s).cadenceDone = s.cadenceDone := by unfold setDemand; split <;> simp
@[simp] theorem setDemand_pins (o : DemandOrigin) (n : Nat) (s : State) : (setDemand o n s).pins = s.pins := by unfold setDemand; split <;> simp
@[simp] theorem setDemand_work (o : DemandOrigin) (n : Nat) (s : State) : (setDemand o n s).work = s.work := by unfold setDemand; split <;> simp
@[simp] theorem setDemand_mode (o : DemandOrigin) (n : Nat) (s : State) : (setDemand o n s).mode = s.mode := by unfold setDemand; split <;> simp
@[simp] theorem setDemand_heat (o : DemandOrigin) (n : Nat) (s : State) : (setDemand o n s).heat = s.heat := by unfold setDemand; split <;> simp
@[simp] theorem setDemand_ports (o : DemandOrigin) (n : Nat) (s : State) : (setDemand o n s).ports = s.ports := by unfold setDemand; split <;> simp
@[simp] theorem setDemand_sel (o : DemandOrigin) (n : Nat) (s : State) : (setDemand o n s).sel = s.sel := by unfold setDemand; split <;> simp
@[simp] theorem setDemand_geo (o : DemandOrigin) (n : Nat) (s : State) : (setDemand o n s).geo = s.geo := by unfold setDemand; split <;> simp
@[simp] theorem setDemand_sched (o : DemandOrigin) (n : Nat) (s : State) : (setDemand o n s).sched = s.sched := by unfold setDemand; split <;> simp
@[simp] theorem setDemand_lock (o : DemandOrigin) (n : Nat) (s : State) : (setDemand o n s).lock = s.lock := by unfold setDemand; split <;> simp
@[simp] theorem setDemand_comms (o : DemandOrigin) (n : Nat) (s : State) : (setDemand o n s).comms = s.comms := by unfold setDemand; split <;> simp
@[simp] theorem setDemand_faults (o : DemandOrigin) (n : Nat) (s : State) : (setDemand o n s).faults = s.faults := by unfold setDemand; split <;> simp
@[simp] theorem setDemand_notices (o : DemandOrigin) (n : Nat) (s : State) : (setDemand o n s).notices = s.notices := by unfold setDemand; split <;> simp

/-! `raise` -/

@[simp] theorem raise_pending (o : DemandOrigin) (n : Nat) (s : State) : (raise o n s).pending = s.pending := by simp [raise]
@[simp] theorem raise_uptime (o : DemandOrigin) (n : Nat) (s : State) : (raise o n s).uptime = s.uptime := by simp [raise]
@[simp] theorem raise_events (o : DemandOrigin) (n : Nat) (s : State) : (raise o n s).events = s.events := by simp [raise]
@[simp] theorem raise_choices (o : DemandOrigin) (n : Nat) (s : State) : (raise o n s).choices = s.choices := by simp [raise]
@[simp] theorem raise_secondsDone (o : DemandOrigin) (n : Nat) (s : State) : (raise o n s).secondsDone = s.secondsDone := by simp [raise]
@[simp] theorem raise_cadenceDone (o : DemandOrigin) (n : Nat) (s : State) : (raise o n s).cadenceDone = s.cadenceDone := by simp [raise]
@[simp] theorem raise_pins (o : DemandOrigin) (n : Nat) (s : State) : (raise o n s).pins = s.pins := by simp [raise]
@[simp] theorem raise_work (o : DemandOrigin) (n : Nat) (s : State) : (raise o n s).work = s.work := by simp [raise]
@[simp] theorem raise_mode (o : DemandOrigin) (n : Nat) (s : State) : (raise o n s).mode = s.mode := by simp [raise]
@[simp] theorem raise_heat (o : DemandOrigin) (n : Nat) (s : State) : (raise o n s).heat = s.heat := by simp [raise]
@[simp] theorem raise_ports (o : DemandOrigin) (n : Nat) (s : State) : (raise o n s).ports = s.ports := by simp [raise]
@[simp] theorem raise_sel (o : DemandOrigin) (n : Nat) (s : State) : (raise o n s).sel = s.sel := by simp [raise]
@[simp] theorem raise_geo (o : DemandOrigin) (n : Nat) (s : State) : (raise o n s).geo = s.geo := by simp [raise]
@[simp] theorem raise_sched (o : DemandOrigin) (n : Nat) (s : State) : (raise o n s).sched = s.sched := by simp [raise]
@[simp] theorem raise_lock (o : DemandOrigin) (n : Nat) (s : State) : (raise o n s).lock = s.lock := by simp [raise]
@[simp] theorem raise_comms (o : DemandOrigin) (n : Nat) (s : State) : (raise o n s).comms = s.comms := by simp [raise]
@[simp] theorem raise_faults (o : DemandOrigin) (n : Nat) (s : State) : (raise o n s).faults = s.faults := by simp [raise]
@[simp] theorem raise_notices (o : DemandOrigin) (n : Nat) (s : State) : (raise o n s).notices = s.notices := by simp [raise]

/-! `drop` -/

@[simp] theorem drop_pending (o : DemandOrigin) (s : State) : (drop o s).pending = s.pending := by simp [drop]
@[simp] theorem drop_uptime (o : DemandOrigin) (s : State) : (drop o s).uptime = s.uptime := by simp [drop]
@[simp] theorem drop_events (o : DemandOrigin) (s : State) : (drop o s).events = s.events := by simp [drop]
@[simp] theorem drop_choices (o : DemandOrigin) (s : State) : (drop o s).choices = s.choices := by simp [drop]
@[simp] theorem drop_secondsDone (o : DemandOrigin) (s : State) : (drop o s).secondsDone = s.secondsDone := by simp [drop]
@[simp] theorem drop_cadenceDone (o : DemandOrigin) (s : State) : (drop o s).cadenceDone = s.cadenceDone := by simp [drop]
@[simp] theorem drop_pins (o : DemandOrigin) (s : State) : (drop o s).pins = s.pins := by simp [drop]
@[simp] theorem drop_work (o : DemandOrigin) (s : State) : (drop o s).work = s.work := by simp [drop]
@[simp] theorem drop_mode (o : DemandOrigin) (s : State) : (drop o s).mode = s.mode := by simp [drop]
@[simp] theorem drop_heat (o : DemandOrigin) (s : State) : (drop o s).heat = s.heat := by simp [drop]
@[simp] theorem drop_ports (o : DemandOrigin) (s : State) : (drop o s).ports = s.ports := by simp [drop]
@[simp] theorem drop_sel (o : DemandOrigin) (s : State) : (drop o s).sel = s.sel := by simp [drop]
@[simp] theorem drop_geo (o : DemandOrigin) (s : State) : (drop o s).geo = s.geo := by simp [drop]
@[simp] theorem drop_sched (o : DemandOrigin) (s : State) : (drop o s).sched = s.sched := by simp [drop]
@[simp] theorem drop_lock (o : DemandOrigin) (s : State) : (drop o s).lock = s.lock := by simp [drop]
@[simp] theorem drop_comms (o : DemandOrigin) (s : State) : (drop o s).comms = s.comms := by simp [drop]
@[simp] theorem drop_faults (o : DemandOrigin) (s : State) : (drop o s).faults = s.faults := by simp [drop]
@[simp] theorem drop_notices (o : DemandOrigin) (s : State) : (drop o s).notices = s.notices := by simp [drop]

/-! `grantIgniter` -/

@[simp] theorem grantIgniter_pending (s : State) : (grantIgniter s).pending = s.pending := by unfold grantIgniter; split <;> rfl
@[simp] theorem grantIgniter_uptime (s : State) : (grantIgniter s).uptime = s.uptime := by unfold grantIgniter; split <;> rfl
@[simp] theorem grantIgniter_events (s : State) : (grantIgniter s).events = s.events := by unfold grantIgniter; split <;> rfl
@[simp] theorem grantIgniter_choices (s : State) : (grantIgniter s).choices = s.choices := by unfold grantIgniter; split <;> rfl
@[simp] theorem grantIgniter_secondsDone (s : State) : (grantIgniter s).secondsDone = s.secondsDone := by unfold grantIgniter; split <;> rfl
@[simp] theorem grantIgniter_cadenceDone (s : State) : (grantIgniter s).cadenceDone = s.cadenceDone := by unfold grantIgniter; split <;> rfl
@[simp] theorem grantIgniter_pins (s : State) : (grantIgniter s).pins = s.pins := by unfold grantIgniter; split <;> rfl
@[simp] theorem grantIgniter_work (s : State) : (grantIgniter s).work = s.work := by unfold grantIgniter; split <;> rfl
@[simp] theorem grantIgniter_store (s : State) : (grantIgniter s).store = s.store := by unfold grantIgniter; split <;> rfl
@[simp] theorem grantIgniter_wear (s : State) : (grantIgniter s).wear = s.wear := by unfold grantIgniter; split <;> rfl
@[simp] theorem grantIgniter_mode (s : State) : (grantIgniter s).mode = s.mode := by unfold grantIgniter; split <;> rfl
@[simp] theorem grantIgniter_heat (s : State) : (grantIgniter s).heat = s.heat := by unfold grantIgniter; split <;> rfl
@[simp] theorem grantIgniter_ports (s : State) : (grantIgniter s).ports = s.ports := by unfold grantIgniter; split <;> rfl
@[simp] theorem grantIgniter_sel (s : State) : (grantIgniter s).sel = s.sel := by unfold grantIgniter; split <;> rfl
@[simp] theorem grantIgniter_geo (s : State) : (grantIgniter s).geo = s.geo := by unfold grantIgniter; split <;> rfl
@[simp] theorem grantIgniter_sched (s : State) : (grantIgniter s).sched = s.sched := by unfold grantIgniter; split <;> rfl
@[simp] theorem grantIgniter_lock (s : State) : (grantIgniter s).lock = s.lock := by unfold grantIgniter; split <;> rfl
@[simp] theorem grantIgniter_comms (s : State) : (grantIgniter s).comms = s.comms := by unfold grantIgniter; split <;> rfl
@[simp] theorem grantIgniter_faults (s : State) : (grantIgniter s).faults = s.faults := by unfold grantIgniter; split <;> rfl
@[simp] theorem grantIgniter_notices (s : State) : (grantIgniter s).notices = s.notices := by unfold grantIgniter; split <;> rfl

/-! `changeRecord` -/

@[simp] theorem changeRecord_pending (b : Bay) (f : LampRecord → LampRecord) (s : State) : (changeRecord b f s).pending = s.pending := by
  unfold changeRecord
  split
  · rfl
  · dsimp only; split <;> simp
@[simp] theorem changeRecord_uptime (b : Bay) (f : LampRecord → LampRecord) (s : State) : (changeRecord b f s).uptime = s.uptime := by
  unfold changeRecord
  split
  · rfl
  · dsimp only; split <;> simp
@[simp] theorem changeRecord_events (b : Bay) (f : LampRecord → LampRecord) (s : State) : (changeRecord b f s).events = s.events := by
  unfold changeRecord
  split
  · rfl
  · dsimp only; split <;> simp
@[simp] theorem changeRecord_choices (b : Bay) (f : LampRecord → LampRecord) (s : State) : (changeRecord b f s).choices = s.choices := by
  unfold changeRecord
  split
  · rfl
  · dsimp only; split <;> simp
@[simp] theorem changeRecord_secondsDone (b : Bay) (f : LampRecord → LampRecord) (s : State) : (changeRecord b f s).secondsDone = s.secondsDone := by
  unfold changeRecord
  split
  · rfl
  · dsimp only; split <;> simp
@[simp] theorem changeRecord_cadenceDone (b : Bay) (f : LampRecord → LampRecord) (s : State) : (changeRecord b f s).cadenceDone = s.cadenceDone := by
  unfold changeRecord
  split
  · rfl
  · dsimp only; split <;> simp
@[simp] theorem changeRecord_pins (b : Bay) (f : LampRecord → LampRecord) (s : State) : (changeRecord b f s).pins = s.pins := by
  unfold changeRecord
  split
  · rfl
  · dsimp only; split <;> simp
@[simp] theorem changeRecord_store (b : Bay) (f : LampRecord → LampRecord) (s : State) : (changeRecord b f s).store = s.store := by
  unfold changeRecord
  split
  · rfl
  · dsimp only; split <;> simp
@[simp] theorem changeRecord_lamp (b : Bay) (f : LampRecord → LampRecord) (s : State) : (changeRecord b f s).lamp = s.lamp := by
  unfold changeRecord
  split
  · rfl
  · dsimp only; split <;> simp
@[simp] theorem changeRecord_wear (b : Bay) (f : LampRecord → LampRecord) (s : State) : (changeRecord b f s).wear = s.wear := by
  unfold changeRecord
  split
  · rfl
  · dsimp only; split <;> simp
@[simp] theorem changeRecord_mode (b : Bay) (f : LampRecord → LampRecord) (s : State) : (changeRecord b f s).mode = s.mode := by
  unfold changeRecord
  split
  · rfl
  · dsimp only; split <;> simp
@[simp] theorem changeRecord_heat (b : Bay) (f : LampRecord → LampRecord) (s : State) : (changeRecord b f s).heat = s.heat := by
  unfold changeRecord
  split
  · rfl
  · dsimp only; split <;> simp
@[simp] theorem changeRecord_ports (b : Bay) (f : LampRecord → LampRecord) (s : State) : (changeRecord b f s).ports = s.ports := by
  unfold changeRecord
  split
  · rfl
  · dsimp only; split <;> simp
@[simp] theorem changeRecord_sel (b : Bay) (f : LampRecord → LampRecord) (s : State) : (changeRecord b f s).sel = s.sel := by
  unfold changeRecord
  split
  · rfl
  · dsimp only; split <;> simp
@[simp] theorem changeRecord_geo (b : Bay) (f : LampRecord → LampRecord) (s : State) : (changeRecord b f s).geo = s.geo := by
  unfold changeRecord
  split
  · rfl
  · dsimp only; split <;> simp
@[simp] theorem changeRecord_sched (b : Bay) (f : LampRecord → LampRecord) (s : State) : (changeRecord b f s).sched = s.sched := by
  unfold changeRecord
  split
  · rfl
  · dsimp only; split <;> simp
@[simp] theorem changeRecord_lock (b : Bay) (f : LampRecord → LampRecord) (s : State) : (changeRecord b f s).lock = s.lock := by
  unfold changeRecord
  split
  · rfl
  · dsimp only; split <;> simp
@[simp] theorem changeRecord_comms (b : Bay) (f : LampRecord → LampRecord) (s : State) : (changeRecord b f s).comms = s.comms := by
  unfold changeRecord
  split
  · rfl
  · dsimp only; split <;> simp
@[simp] theorem changeRecord_faults (b : Bay) (f : LampRecord → LampRecord) (s : State) : (changeRecord b f s).faults = s.faults := by
  unfold changeRecord
  split
  · rfl
  · dsimp only; split <;> simp

/-! `putActive` -/

@[simp] theorem putActive_pending (n : Option Nat) (s : State) : (putActive n s).pending = s.pending := by unfold putActive; split <;> simp
@[simp] theorem putActive_uptime (n : Option Nat) (s : State) : (putActive n s).uptime = s.uptime := by unfold putActive; split <;> simp
@[simp] theorem putActive_events (n : Option Nat) (s : State) : (putActive n s).events = s.events := by unfold putActive; split <;> simp
@[simp] theorem putActive_choices (n : Option Nat) (s : State) : (putActive n s).choices = s.choices := by unfold putActive; split <;> simp
@[simp] theorem putActive_secondsDone (n : Option Nat) (s : State) : (putActive n s).secondsDone = s.secondsDone := by unfold putActive; split <;> simp
@[simp] theorem putActive_cadenceDone (n : Option Nat) (s : State) : (putActive n s).cadenceDone = s.cadenceDone := by unfold putActive; split <;> simp
@[simp] theorem putActive_pins (n : Option Nat) (s : State) : (putActive n s).pins = s.pins := by unfold putActive; split <;> simp
@[simp] theorem putActive_work (n : Option Nat) (s : State) : (putActive n s).work = s.work := by unfold putActive; split <;> simp
@[simp] theorem putActive_store (n : Option Nat) (s : State) : (putActive n s).store = s.store := by unfold putActive; split <;> simp
@[simp] theorem putActive_lamp (n : Option Nat) (s : State) : (putActive n s).lamp = s.lamp := by unfold putActive; split <;> simp
@[simp] theorem putActive_wear (n : Option Nat) (s : State) : (putActive n s).wear = s.wear := by unfold putActive; split <;> simp
@[simp] theorem putActive_mode (n : Option Nat) (s : State) : (putActive n s).mode = s.mode := by unfold putActive; split <;> simp
@[simp] theorem putActive_heat (n : Option Nat) (s : State) : (putActive n s).heat = s.heat := by unfold putActive; split <;> simp
@[simp] theorem putActive_ports (n : Option Nat) (s : State) : (putActive n s).ports = s.ports := by unfold putActive; split <;> simp
@[simp] theorem putActive_sched (n : Option Nat) (s : State) : (putActive n s).sched = s.sched := by unfold putActive; split <;> simp
@[simp] theorem putActive_lock (n : Option Nat) (s : State) : (putActive n s).lock = s.lock := by unfold putActive; split <;> simp
@[simp] theorem putActive_comms (n : Option Nat) (s : State) : (putActive n s).comms = s.comms := by unfold putActive; split <;> simp
@[simp] theorem putActive_faults (n : Option Nat) (s : State) : (putActive n s).faults = s.faults := by unfold putActive; split <;> simp
@[simp] theorem putActive_notices (n : Option Nat) (s : State) : (putActive n s).notices = s.notices := by unfold putActive; split <;> simp

/-! `putActiveAnew` -/

@[simp] theorem putActiveAnew_pending (n : Option Nat) (s : State) : (putActiveAnew n s).pending = s.pending := by unfold putActiveAnew; split <;> simp
@[simp] theorem putActiveAnew_uptime (n : Option Nat) (s : State) : (putActiveAnew n s).uptime = s.uptime := by unfold putActiveAnew; split <;> simp
@[simp] theorem putActiveAnew_events (n : Option Nat) (s : State) : (putActiveAnew n s).events = s.events := by unfold putActiveAnew; split <;> simp
@[simp] theorem putActiveAnew_choices (n : Option Nat) (s : State) : (putActiveAnew n s).choices = s.choices := by unfold putActiveAnew; split <;> simp
@[simp] theorem putActiveAnew_secondsDone (n : Option Nat) (s : State) : (putActiveAnew n s).secondsDone = s.secondsDone := by unfold putActiveAnew; split <;> simp
@[simp] theorem putActiveAnew_cadenceDone (n : Option Nat) (s : State) : (putActiveAnew n s).cadenceDone = s.cadenceDone := by unfold putActiveAnew; split <;> simp
@[simp] theorem putActiveAnew_pins (n : Option Nat) (s : State) : (putActiveAnew n s).pins = s.pins := by unfold putActiveAnew; split <;> simp
@[simp] theorem putActiveAnew_work (n : Option Nat) (s : State) : (putActiveAnew n s).work = s.work := by unfold putActiveAnew; split <;> simp
@[simp] theorem putActiveAnew_store (n : Option Nat) (s : State) : (putActiveAnew n s).store = s.store := by unfold putActiveAnew; split <;> simp
@[simp] theorem putActiveAnew_lamp (n : Option Nat) (s : State) : (putActiveAnew n s).lamp = s.lamp := by unfold putActiveAnew; split <;> simp
@[simp] theorem putActiveAnew_wear (n : Option Nat) (s : State) : (putActiveAnew n s).wear = s.wear := by unfold putActiveAnew; split <;> simp
@[simp] theorem putActiveAnew_mode (n : Option Nat) (s : State) : (putActiveAnew n s).mode = s.mode := by unfold putActiveAnew; split <;> simp
@[simp] theorem putActiveAnew_heat (n : Option Nat) (s : State) : (putActiveAnew n s).heat = s.heat := by unfold putActiveAnew; split <;> simp
@[simp] theorem putActiveAnew_ports (n : Option Nat) (s : State) : (putActiveAnew n s).ports = s.ports := by unfold putActiveAnew; split <;> simp
@[simp] theorem putActiveAnew_sched (n : Option Nat) (s : State) : (putActiveAnew n s).sched = s.sched := by unfold putActiveAnew; split <;> simp
@[simp] theorem putActiveAnew_lock (n : Option Nat) (s : State) : (putActiveAnew n s).lock = s.lock := by unfold putActiveAnew; split <;> simp
@[simp] theorem putActiveAnew_comms (n : Option Nat) (s : State) : (putActiveAnew n s).comms = s.comms := by unfold putActiveAnew; split <;> simp
@[simp] theorem putActiveAnew_faults (n : Option Nat) (s : State) : (putActiveAnew n s).faults = s.faults := by unfold putActiveAnew; split <;> simp
@[simp] theorem putActiveAnew_notices (n : Option Nat) (s : State) : (putActiveAnew n s).notices = s.notices := by unfold putActiveAnew; split <;> simp

/-! `judgeLoss` -/

@[simp] theorem judgeLoss_pending (n : Option Nat) (s : State) : (judgeLoss n s).pending = s.pending := by simp [judgeLoss]
@[simp] theorem judgeLoss_uptime (n : Option Nat) (s : State) : (judgeLoss n s).uptime = s.uptime := by simp [judgeLoss]
@[simp] theorem judgeLoss_events (n : Option Nat) (s : State) : (judgeLoss n s).events = s.events := by simp [judgeLoss]
@[simp] theorem judgeLoss_choices (n : Option Nat) (s : State) : (judgeLoss n s).choices = s.choices := by simp [judgeLoss]
@[simp] theorem judgeLoss_secondsDone (n : Option Nat) (s : State) : (judgeLoss n s).secondsDone = s.secondsDone := by simp [judgeLoss]
@[simp] theorem judgeLoss_cadenceDone (n : Option Nat) (s : State) : (judgeLoss n s).cadenceDone = s.cadenceDone := by simp [judgeLoss]
@[simp] theorem judgeLoss_pins (n : Option Nat) (s : State) : (judgeLoss n s).pins = s.pins := by simp [judgeLoss]
@[simp] theorem judgeLoss_work (n : Option Nat) (s : State) : (judgeLoss n s).work = s.work := by simp [judgeLoss]
@[simp] theorem judgeLoss_store (n : Option Nat) (s : State) : (judgeLoss n s).store = s.store := by simp [judgeLoss]
@[simp] theorem judgeLoss_lamp (n : Option Nat) (s : State) : (judgeLoss n s).lamp = s.lamp := by simp [judgeLoss]
@[simp] theorem judgeLoss_wear (n : Option Nat) (s : State) : (judgeLoss n s).wear = s.wear := by simp [judgeLoss]
@[simp] theorem judgeLoss_mode (n : Option Nat) (s : State) : (judgeLoss n s).mode = s.mode := by simp [judgeLoss]
@[simp] theorem judgeLoss_heat (n : Option Nat) (s : State) : (judgeLoss n s).heat = s.heat := by simp [judgeLoss]
@[simp] theorem judgeLoss_ports (n : Option Nat) (s : State) : (judgeLoss n s).ports = s.ports := by simp [judgeLoss]
@[simp] theorem judgeLoss_geo (n : Option Nat) (s : State) : (judgeLoss n s).geo = s.geo := by simp [judgeLoss]
@[simp] theorem judgeLoss_sched (n : Option Nat) (s : State) : (judgeLoss n s).sched = s.sched := by simp [judgeLoss]
@[simp] theorem judgeLoss_lock (n : Option Nat) (s : State) : (judgeLoss n s).lock = s.lock := by simp [judgeLoss]
@[simp] theorem judgeLoss_comms (n : Option Nat) (s : State) : (judgeLoss n s).comms = s.comms := by simp [judgeLoss]
@[simp] theorem judgeLoss_faults (n : Option Nat) (s : State) : (judgeLoss n s).faults = s.faults := by simp [judgeLoss]
@[simp] theorem judgeLoss_notices (n : Option Nat) (s : State) : (judgeLoss n s).notices = s.notices := by simp [judgeLoss]

/-! `startSwitch` -/

@[simp] theorem startSwitch_pending (p : VPort) (n : Option Nat) (o : SwOrigin) (s : State) : (startSwitch p n o s).pending = s.pending := rfl
@[simp] theorem startSwitch_uptime (p : VPort) (n : Option Nat) (o : SwOrigin) (s : State) : (startSwitch p n o s).uptime = s.uptime := rfl
@[simp] theorem startSwitch_events (p : VPort) (n : Option Nat) (o : SwOrigin) (s : State) : (startSwitch p n o s).events = s.events := rfl
@[simp] theorem startSwitch_choices (p : VPort) (n : Option Nat) (o : SwOrigin) (s : State) : (startSwitch p n o s).choices = s.choices := rfl
@[simp] theorem startSwitch_secondsDone (p : VPort) (n : Option Nat) (o : SwOrigin) (s : State) : (startSwitch p n o s).secondsDone = s.secondsDone := rfl
@[simp] theorem startSwitch_cadenceDone (p : VPort) (n : Option Nat) (o : SwOrigin) (s : State) : (startSwitch p n o s).cadenceDone = s.cadenceDone := rfl
@[simp] theorem startSwitch_pins (p : VPort) (n : Option Nat) (o : SwOrigin) (s : State) : (startSwitch p n o s).pins = s.pins := rfl
@[simp] theorem startSwitch_work (p : VPort) (n : Option Nat) (o : SwOrigin) (s : State) : (startSwitch p n o s).work = s.work := rfl
@[simp] theorem startSwitch_store (p : VPort) (n : Option Nat) (o : SwOrigin) (s : State) : (startSwitch p n o s).store = s.store := rfl
@[simp] theorem startSwitch_lamp (p : VPort) (n : Option Nat) (o : SwOrigin) (s : State) : (startSwitch p n o s).lamp = s.lamp := rfl
@[simp] theorem startSwitch_wear (p : VPort) (n : Option Nat) (o : SwOrigin) (s : State) : (startSwitch p n o s).wear = s.wear := rfl
@[simp] theorem startSwitch_mode (p : VPort) (n : Option Nat) (o : SwOrigin) (s : State) : (startSwitch p n o s).mode = s.mode := rfl
@[simp] theorem startSwitch_heat (p : VPort) (n : Option Nat) (o : SwOrigin) (s : State) : (startSwitch p n o s).heat = s.heat := rfl
@[simp] theorem startSwitch_ports (p : VPort) (n : Option Nat) (o : SwOrigin) (s : State) : (startSwitch p n o s).ports = s.ports := rfl
@[simp] theorem startSwitch_geo (p : VPort) (n : Option Nat) (o : SwOrigin) (s : State) : (startSwitch p n o s).geo = s.geo := rfl
@[simp] theorem startSwitch_sched (p : VPort) (n : Option Nat) (o : SwOrigin) (s : State) : (startSwitch p n o s).sched = s.sched := rfl
@[simp] theorem startSwitch_lock (p : VPort) (n : Option Nat) (o : SwOrigin) (s : State) : (startSwitch p n o s).lock = s.lock := rfl
@[simp] theorem startSwitch_comms (p : VPort) (n : Option Nat) (o : SwOrigin) (s : State) : (startSwitch p n o s).comms = s.comms := rfl
@[simp] theorem startSwitch_faults (p : VPort) (n : Option Nat) (o : SwOrigin) (s : State) : (startSwitch p n o s).faults = s.faults := rfl
@[simp] theorem startSwitch_notices (p : VPort) (n : Option Nat) (o : SwOrigin) (s : State) : (startSwitch p n o s).notices = s.notices := rfl

/-! `takeRequest` -/

@[simp] theorem takeRequest_pending (p : VPort) (n : Option Nat) (o : SwOrigin) (s : State) : (takeRequest p n o s).pending = s.pending := by
  unfold takeRequest
  split
  · rfl
  · split <;> rfl
@[simp] theorem takeRequest_uptime (p : VPort) (n : Option Nat) (o : SwOrigin) (s : State) : (takeRequest p n o s).uptime = s.uptime := by
  unfold takeRequest
  split
  · rfl
  · split <;> rfl
@[simp] theorem takeRequest_events (p : VPort) (n : Option Nat) (o : SwOrigin) (s : State) : (takeRequest p n o s).events = s.events := by
  unfold takeRequest
  split
  · rfl
  · split <;> rfl
@[simp] theorem takeRequest_choices (p : VPort) (n : Option Nat) (o : SwOrigin) (s : State) : (takeRequest p n o s).choices = s.choices := by
  unfold takeRequest
  split
  · rfl
  · split <;> rfl
@[simp] theorem takeRequest_secondsDone (p : VPort) (n : Option Nat) (o : SwOrigin) (s : State) : (takeRequest p n o s).secondsDone = s.secondsDone := by
  unfold takeRequest
  split
  · rfl
  · split <;> rfl
@[simp] theorem takeRequest_cadenceDone (p : VPort) (n : Option Nat) (o : SwOrigin) (s : State) : (takeRequest p n o s).cadenceDone = s.cadenceDone := by
  unfold takeRequest
  split
  · rfl
  · split <;> rfl
@[simp] theorem takeRequest_pins (p : VPort) (n : Option Nat) (o : SwOrigin) (s : State) : (takeRequest p n o s).pins = s.pins := by
  unfold takeRequest
  split
  · rfl
  · split <;> rfl
@[simp] theorem takeRequest_work (p : VPort) (n : Option Nat) (o : SwOrigin) (s : State) : (takeRequest p n o s).work = s.work := by
  unfold takeRequest
  split
  · rfl
  · split <;> rfl
@[simp] theorem takeRequest_store (p : VPort) (n : Option Nat) (o : SwOrigin) (s : State) : (takeRequest p n o s).store = s.store := by
  unfold takeRequest
  split
  · rfl
  · split <;> rfl
@[simp] theorem takeRequest_lamp (p : VPort) (n : Option Nat) (o : SwOrigin) (s : State) : (takeRequest p n o s).lamp = s.lamp := by
  unfold takeRequest
  split
  · rfl
  · split <;> rfl
@[simp] theorem takeRequest_wear (p : VPort) (n : Option Nat) (o : SwOrigin) (s : State) : (takeRequest p n o s).wear = s.wear := by
  unfold takeRequest
  split
  · rfl
  · split <;> rfl
@[simp] theorem takeRequest_mode (p : VPort) (n : Option Nat) (o : SwOrigin) (s : State) : (takeRequest p n o s).mode = s.mode := by
  unfold takeRequest
  split
  · rfl
  · split <;> rfl
@[simp] theorem takeRequest_heat (p : VPort) (n : Option Nat) (o : SwOrigin) (s : State) : (takeRequest p n o s).heat = s.heat := by
  unfold takeRequest
  split
  · rfl
  · split <;> rfl
@[simp] theorem takeRequest_ports (p : VPort) (n : Option Nat) (o : SwOrigin) (s : State) : (takeRequest p n o s).ports = s.ports := by
  unfold takeRequest
  split
  · rfl
  · split <;> rfl
@[simp] theorem takeRequest_geo (p : VPort) (n : Option Nat) (o : SwOrigin) (s : State) : (takeRequest p n o s).geo = s.geo := by
  unfold takeRequest
  split
  · rfl
  · split <;> rfl
@[simp] theorem takeRequest_sched (p : VPort) (n : Option Nat) (o : SwOrigin) (s : State) : (takeRequest p n o s).sched = s.sched := by
  unfold takeRequest
  split
  · rfl
  · split <;> rfl
@[simp] theorem takeRequest_lock (p : VPort) (n : Option Nat) (o : SwOrigin) (s : State) : (takeRequest p n o s).lock = s.lock := by
  unfold takeRequest
  split
  · rfl
  · split <;> rfl
@[simp] theorem takeRequest_comms (p : VPort) (n : Option Nat) (o : SwOrigin) (s : State) : (takeRequest p n o s).comms = s.comms := by
  unfold takeRequest
  split
  · rfl
  · split <;> rfl
@[simp] theorem takeRequest_faults (p : VPort) (n : Option Nat) (o : SwOrigin) (s : State) : (takeRequest p n o s).faults = s.faults := by
  unfold takeRequest
  split
  · rfl
  · split <;> rfl
@[simp] theorem takeRequest_notices (p : VPort) (n : Option Nat) (o : SwOrigin) (s : State) : (takeRequest p n o s).notices = s.notices := by
  unfold takeRequest
  split
  · rfl
  · split <;> rfl

/-! `scheduleRequest` -/

@[simp] theorem scheduleRequest_pending (n : Option Nat) (s : State) : (scheduleRequest n s).pending = s.pending := by unfold scheduleRequest; split <;> simp
@[simp] theorem scheduleRequest_uptime (n : Option Nat) (s : State) : (scheduleRequest n s).uptime = s.uptime := by unfold scheduleRequest; split <;> simp
@[simp] theorem scheduleRequest_events (n : Option Nat) (s : State) : (scheduleRequest n s).events = s.events := by unfold scheduleRequest; split <;> simp
@[simp] theorem scheduleRequest_choices (n : Option Nat) (s : State) : (scheduleRequest n s).choices = s.choices := by unfold scheduleRequest; split <;> simp
@[simp] theorem scheduleRequest_secondsDone (n : Option Nat) (s : State) : (scheduleRequest n s).secondsDone = s.secondsDone := by unfold scheduleRequest; split <;> simp
@[simp] theorem scheduleRequest_cadenceDone (n : Option Nat) (s : State) : (scheduleRequest n s).cadenceDone = s.cadenceDone := by unfold scheduleRequest; split <;> simp
@[simp] theorem scheduleRequest_pins (n : Option Nat) (s : State) : (scheduleRequest n s).pins = s.pins := by unfold scheduleRequest; split <;> simp
@[simp] theorem scheduleRequest_work (n : Option Nat) (s : State) : (scheduleRequest n s).work = s.work := by unfold scheduleRequest; split <;> simp
@[simp] theorem scheduleRequest_store (n : Option Nat) (s : State) : (scheduleRequest n s).store = s.store := by unfold scheduleRequest; split <;> simp
@[simp] theorem scheduleRequest_lamp (n : Option Nat) (s : State) : (scheduleRequest n s).lamp = s.lamp := by unfold scheduleRequest; split <;> simp
@[simp] theorem scheduleRequest_wear (n : Option Nat) (s : State) : (scheduleRequest n s).wear = s.wear := by unfold scheduleRequest; split <;> simp
@[simp] theorem scheduleRequest_mode (n : Option Nat) (s : State) : (scheduleRequest n s).mode = s.mode := by unfold scheduleRequest; split <;> simp
@[simp] theorem scheduleRequest_heat (n : Option Nat) (s : State) : (scheduleRequest n s).heat = s.heat := by unfold scheduleRequest; split <;> simp
@[simp] theorem scheduleRequest_ports (n : Option Nat) (s : State) : (scheduleRequest n s).ports = s.ports := by unfold scheduleRequest; split <;> simp
@[simp] theorem scheduleRequest_geo (n : Option Nat) (s : State) : (scheduleRequest n s).geo = s.geo := by unfold scheduleRequest; split <;> simp
@[simp] theorem scheduleRequest_sched (n : Option Nat) (s : State) : (scheduleRequest n s).sched = s.sched := by unfold scheduleRequest; split <;> simp
@[simp] theorem scheduleRequest_lock (n : Option Nat) (s : State) : (scheduleRequest n s).lock = s.lock := by unfold scheduleRequest; split <;> simp
@[simp] theorem scheduleRequest_comms (n : Option Nat) (s : State) : (scheduleRequest n s).comms = s.comms := by unfold scheduleRequest; split <;> simp
@[simp] theorem scheduleRequest_faults (n : Option Nat) (s : State) : (scheduleRequest n s).faults = s.faults := by unfold scheduleRequest; split <;> simp
@[simp] theorem scheduleRequest_notices (n : Option Nat) (s : State) : (scheduleRequest n s).notices = s.notices := by unfold scheduleRequest; split <;> simp

/-! `enterSettled` -/

@[simp] theorem enterSettled_pending (p : VPort) (c : Nat) (n : Option Nat) (s : State) : (enterSettled p c n s).pending = s.pending := rfl
@[simp] theorem enterSettled_uptime (p : VPort) (c : Nat) (n : Option Nat) (s : State) : (enterSettled p c n s).uptime = s.uptime := rfl
@[simp] theorem enterSettled_events (p : VPort) (c : Nat) (n : Option Nat) (s : State) : (enterSettled p c n s).events = s.events := rfl
@[simp] theorem enterSettled_choices (p : VPort) (c : Nat) (n : Option Nat) (s : State) : (enterSettled p c n s).choices = s.choices := rfl
@[simp] theorem enterSettled_secondsDone (p : VPort) (c : Nat) (n : Option Nat) (s : State) : (enterSettled p c n s).secondsDone = s.secondsDone := rfl
@[simp] theorem enterSettled_cadenceDone (p : VPort) (c : Nat) (n : Option Nat) (s : State) : (enterSettled p c n s).cadenceDone = s.cadenceDone := rfl
@[simp] theorem enterSettled_pins (p : VPort) (c : Nat) (n : Option Nat) (s : State) : (enterSettled p c n s).pins = s.pins := rfl
@[simp] theorem enterSettled_work (p : VPort) (c : Nat) (n : Option Nat) (s : State) : (enterSettled p c n s).work = s.work := rfl
@[simp] theorem enterSettled_store (p : VPort) (c : Nat) (n : Option Nat) (s : State) : (enterSettled p c n s).store = s.store := rfl
@[simp] theorem enterSettled_lamp (p : VPort) (c : Nat) (n : Option Nat) (s : State) : (enterSettled p c n s).lamp = s.lamp := rfl
@[simp] theorem enterSettled_wear (p : VPort) (c : Nat) (n : Option Nat) (s : State) : (enterSettled p c n s).wear = s.wear := rfl
@[simp] theorem enterSettled_mode (p : VPort) (c : Nat) (n : Option Nat) (s : State) : (enterSettled p c n s).mode = s.mode := rfl
@[simp] theorem enterSettled_heat (p : VPort) (c : Nat) (n : Option Nat) (s : State) : (enterSettled p c n s).heat = s.heat := rfl
@[simp] theorem enterSettled_ports (p : VPort) (c : Nat) (n : Option Nat) (s : State) : (enterSettled p c n s).ports = s.ports := rfl
@[simp] theorem enterSettled_geo (p : VPort) (c : Nat) (n : Option Nat) (s : State) : (enterSettled p c n s).geo = s.geo := rfl
@[simp] theorem enterSettled_sched (p : VPort) (c : Nat) (n : Option Nat) (s : State) : (enterSettled p c n s).sched = s.sched := rfl
@[simp] theorem enterSettled_lock (p : VPort) (c : Nat) (n : Option Nat) (s : State) : (enterSettled p c n s).lock = s.lock := rfl
@[simp] theorem enterSettled_comms (p : VPort) (c : Nat) (n : Option Nat) (s : State) : (enterSettled p c n s).comms = s.comms := rfl
@[simp] theorem enterSettled_faults (p : VPort) (c : Nat) (n : Option Nat) (s : State) : (enterSettled p c n s).faults = s.faults := rfl
@[simp] theorem enterSettled_notices (p : VPort) (c : Nat) (n : Option Nat) (s : State) : (enterSettled p c n s).notices = s.notices := rfl

/-! `enterNoSignal` -/

@[simp] theorem enterNoSignal_pending (c : Option Nat) (s : State) : (enterNoSignal c s).pending = s.pending := rfl
@[simp] theorem enterNoSignal_uptime (c : Option Nat) (s : State) : (enterNoSignal c s).uptime = s.uptime := rfl
@[simp] theorem enterNoSignal_events (c : Option Nat) (s : State) : (enterNoSignal c s).events = s.events := rfl
@[simp] theorem enterNoSignal_choices (c : Option Nat) (s : State) : (enterNoSignal c s).choices = s.choices := rfl
@[simp] theorem enterNoSignal_secondsDone (c : Option Nat) (s : State) : (enterNoSignal c s).secondsDone = s.secondsDone := rfl
@[simp] theorem enterNoSignal_cadenceDone (c : Option Nat) (s : State) : (enterNoSignal c s).cadenceDone = s.cadenceDone := rfl
@[simp] theorem enterNoSignal_pins (c : Option Nat) (s : State) : (enterNoSignal c s).pins = s.pins := rfl
@[simp] theorem enterNoSignal_work (c : Option Nat) (s : State) : (enterNoSignal c s).work = s.work := rfl
@[simp] theorem enterNoSignal_store (c : Option Nat) (s : State) : (enterNoSignal c s).store = s.store := rfl
@[simp] theorem enterNoSignal_lamp (c : Option Nat) (s : State) : (enterNoSignal c s).lamp = s.lamp := rfl
@[simp] theorem enterNoSignal_wear (c : Option Nat) (s : State) : (enterNoSignal c s).wear = s.wear := rfl
@[simp] theorem enterNoSignal_mode (c : Option Nat) (s : State) : (enterNoSignal c s).mode = s.mode := rfl
@[simp] theorem enterNoSignal_heat (c : Option Nat) (s : State) : (enterNoSignal c s).heat = s.heat := rfl
@[simp] theorem enterNoSignal_ports (c : Option Nat) (s : State) : (enterNoSignal c s).ports = s.ports := rfl
@[simp] theorem enterNoSignal_geo (c : Option Nat) (s : State) : (enterNoSignal c s).geo = s.geo := rfl
@[simp] theorem enterNoSignal_sched (c : Option Nat) (s : State) : (enterNoSignal c s).sched = s.sched := rfl
@[simp] theorem enterNoSignal_lock (c : Option Nat) (s : State) : (enterNoSignal c s).lock = s.lock := rfl
@[simp] theorem enterNoSignal_comms (c : Option Nat) (s : State) : (enterNoSignal c s).comms = s.comms := rfl
@[simp] theorem enterNoSignal_faults (c : Option Nat) (s : State) : (enterNoSignal c s).faults = s.faults := rfl
@[simp] theorem enterNoSignal_notices (c : Option Nat) (s : State) : (enterNoSignal c s).notices = s.notices := rfl

/-! ## What the operations can do -/

/-- A bay after an update of the same bay, or of the other. -/
theorem bay_modBay (b c : Bay) (f : BayCtl → BayCtl) (s : State) :
    bay (modBay b f s) c = if c = b then f (bay s c) else bay s c := by
  cases b <;> cases c <;> rfl

@[simp] theorem bay_modBay_self (b : Bay) (f : BayCtl → BayCtl) (s : State) : bay (modBay b f s) b = f (bay s b) := by
  rw [bay_modBay, if_pos rfl]

/-- The parts of the Lamp Controller beside the bays, after an update of a bay. -/
theorem modBay_rest (b : Bay) (f : BayCtl → BayCtl) (s : State) :
    (modBay b f s).lamp.count = s.lamp.count ∧ (modBay b f s).lamp.origin = s.lamp.origin ∧
    (modBay b f s).lamp.wanted = s.lamp.wanted ∧ (modBay b f s).lamp.igniter = s.lamp.igniter ∧
    (modBay b f s).lamp.spacing = s.lamp.spacing := ⟨rfl, rfl, rfl, rfl, rfl⟩

/-- An ask for a write leaves the Lamp Controller, so every bay. -/
@[simp] theorem bay_askOwn (k : RecKey) (s : State) (b : Bay) : bay (askOwn k s) b = bay s b := by simp [bay]
@[simp] theorem bay_ask (snd : Sender) (k : RecKey) (s : State) (b : Bay) : bay (ask snd k s) b = bay s b := by simp [bay]

/-- An exit from Warming or Lit sets the bay's last extinguish, and nothing else of the Lamp Controller (R6, R36). -/
@[simp] theorem leaveBurning_lamp (b : Bay) (s : State) :
    (leaveBurning b s).lamp = (modBay b (fun y => { y with lastExt := some s.uptime }) s).lamp := by
  unfold leaveBurning; dsimp only; split <;> simp

/-- The extinguish of a bay (R6): Cooling for 90 s from now, with the uptime as its last extinguish; the other bay stays. -/
theorem bay_extinguish (b c : Bay) (s : State) :
    bay (extinguish b s) c =
      if c = b then
        { bay s c with st := .cooling, timer := some (s.uptime + coolingTime), lastExt := some s.uptime }
      else bay s c := by
  unfold extinguish
  rw [bay, leaveBurning_lamp]
  change bay (modBay b _ (enterCooling b s)) c = _
  unfold enterCooling
  rw [bay_modBay, bay_modBay]
  split <;> simp

/-- An extinguish keeps the demand, the wanted set, the igniter and the spacing. -/
theorem extinguish_rest (b : Bay) (s : State) :
    (extinguish b s).lamp.count = s.lamp.count ∧ (extinguish b s).lamp.origin = s.lamp.origin ∧
    (extinguish b s).lamp.wanted = s.lamp.wanted ∧ (extinguish b s).lamp.igniter = s.lamp.igniter ∧
    (extinguish b s).lamp.spacing = s.lamp.spacing := by
  unfold extinguish
  simp [enterCooling]

/-- A wanted set put in force keeps the demand, the igniter and the spacing. -/
theorem putWanted_rest (w : PerBay Bool) (s : State) :
    (putWanted w s).lamp.count = s.lamp.count ∧ (putWanted w s).lamp.origin = s.lamp.origin ∧
    (putWanted w s).lamp.wanted = w ∧ (putWanted w s).lamp.igniter = s.lamp.igniter ∧
    (putWanted w s).lamp.spacing = s.lamp.spacing := by
  unfold putWanted
  dsimp only
  split <;> split <;> simp [extinguish_rest]

/-- A wanted set put in force puts out the Lit bays that are not in it, and leaves every other bay (R6, R8). -/
theorem bay_putWanted (w : PerBay Bool) (s : State) (c : Bay) :
    bay (putWanted w s) c =
      if (bay s c).st = .lit ∧ w.get c = false then
        { bay s c with st := .cooling, timer := some (s.uptime + coolingTime), lastExt := some s.uptime }
      else bay s c := by
  unfold putWanted
  dsimp only
  generalize hs : ({ s with lamp := { s.lamp with wanted := w } } : State) = s1
  have hb : ∀ x, bay s1 x = bay s x := by subst hs; intro x; rfl
  have hu : s1.uptime = s.uptime := by subst hs; rfl
  cases c <;> by_cases ha : (bay s .bayA).st = .lit ∧ w.get .bayA = false <;>
    by_cases hc : (bay s .bayB).st = .lit ∧ w.get .bayB = false <;>
    simp [ha, hc, hb, hu, bay_extinguish]

/-- The wanted set formed anew is the one that the count calls for (R13, R14). -/
theorem formWanted_rest (s : State) :
    (formWanted s).lamp.count = s.lamp.count ∧ (formWanted s).lamp.origin = s.lamp.origin ∧
    (formWanted s).lamp.wanted = chosenSet s ∧ (formWanted s).lamp.igniter = s.lamp.igniter ∧
    (formWanted s).lamp.spacing = s.lamp.spacing := putWanted_rest _ s

/-- The demand after it has been set (R12): the count is the new one, and the origin is the writer's where the count has changed. -/
theorem setDemand_rest (o : DemandOrigin) (n : Nat) (s : State) :
    (setDemand o n s).lamp.count = n ∧
    (setDemand o n s).lamp.origin = (if n = s.lamp.count then s.lamp.origin else o) ∧
    (setDemand o n s).lamp.igniter = s.lamp.igniter ∧ (setDemand o n s).lamp.spacing = s.lamp.spacing := by
  unfold setDemand
  split
  next h => exact ⟨h.symm, by simp, rfl, rfl⟩
  next h => simp [formWanted_rest]

/-- A drop of a demand empties the wanted set and puts out every Lit bay (R6, R12). -/
theorem drop_empties {o : DemandOrigin} {s : State} (h : s.lamp.count ≠ 0) :
    (drop o s).lamp.count = 0 ∧ (drop o s).lamp.origin = o ∧ (drop o s).lamp.wanted = .both false ∧
    ∀ c, bay (drop o s) c =
      if (bay s c).st = .lit then
        { bay s c with st := .cooling, timer := some (s.uptime + coolingTime), lastExt := some s.uptime }
      else bay s c := by
  have h0 : ¬ 0 = s.lamp.count := fun e => h e.symm
  unfold drop setDemand
  rw [if_neg h0]
  refine ⟨(formWanted_rest _).1, (formWanted_rest _).2.1, (formWanted_rest _).2.2.1, fun c => ?_⟩
  unfold formWanted
  rw [bay_putWanted]
  by_cases hc : (bay s c).st = .lit
  · rw [if_pos hc, if_pos ⟨hc, by simp [chosenSet]⟩]
    rfl
  · rw [if_neg hc, if_neg (fun x => hc x.1)]
    rfl

/-- A drop of no demand changes nothing. -/
theorem drop_none {o : DemandOrigin} {s : State} (h : s.lamp.count = 0) : drop o s = s := by
  unfold drop setDemand
  rw [if_pos h.symm]

/-- A bay that leaves the wanted set leaves the demand, the igniter and the spacing. -/
theorem leaveWanted_rest (b : Bay) (s : State) :
    (leaveWanted b s).lamp.count = s.lamp.count ∧ (leaveWanted b s).lamp.origin = s.lamp.origin ∧
    (leaveWanted b s).lamp.igniter = s.lamp.igniter ∧ (leaveWanted b s).lamp.spacing = s.lamp.spacing := by
  unfold leaveWanted
  dsimp only
  split
  · split <;> simp [formWanted_rest]
  · exact ⟨rfl, rfl, rfl, rfl⟩

/-- A bay that leaves the wanted set stays as it is, and a Lit bay alone may be put out by the failover. -/
theorem bay_leaveWanted (b c : Bay) (s : State) (h : (bay s c).st ≠ .lit) : bay (leaveWanted b s) c = bay s c := by
  unfold leaveWanted
  dsimp only
  split
  · split
    · rfl
    · unfold formWanted
      rw [bay_putWanted, if_neg]
      · rfl
      · exact fun x => h x.1
  · rfl

/-- A change of a lamp record leaves the Lamp Controller. -/
@[simp] theorem bay_changeRecord (b : Bay) (f : LampRecord → LampRecord) (s : State) (c : Bay) :
    bay (changeRecord b f s) c = bay s c := by simp [bay]

/-- The lamp record after a change (R28, R29). -/
theorem changeRecord_lamps (b : Bay) (f : LampRecord → LampRecord) (s : State) :
    (changeRecord b f s).work = { s.work with lamps := s.work.lamps.set b ((lampRec s b).map f) } := by
  unfold changeRecord
  cases h : lampRec s b with
  | none =>
    have : s.work.lamps.set b none = s.work.lamps := by
      have h' : s.work.lamps.get b = none := h
      cases b <;> cases hl : s.work.lamps <;> simp_all [PerBay.get, PerBay.set]
    simp [this]
  | some r =>
    dsimp only
    split <;> simp

/-! ## Writes -/

/-- A write that has begun takes the records as they stand, and a lamp record's unsaved count becomes 0 (R36, R184). -/
theorem beginWrite_store (k : RecKey) (w : List CmdPort) (s : State) :
    (beginWrite k w s).store = { s.store with busy := some ⟨k, s.work, w⟩ } := by
  cases k <;> rfl

/-- With the store free, a write that a command asks for begins at once (R184). -/
theorem ask_free {snd : Sender} {k : RecKey} {s : State} (hb : s.store.busy = none) (hc : s.store.cmdQ = [])
    (ho : s.store.ownQ = []) :
    (ask snd k s).store = { s.store with busy := some ⟨k, s.work, if snd.broadcast then [] else [snd.port]⟩ } := by
  unfold ask askFor startWrite
  simp [hb, hc, ho, beginWrite_store]


end Sys2Proof.Machine
end

