-- ==== Sys2Proof/Laws/Outcomes.lean ====
section
/-! SUPPORT. Laws/Outcomes.lean: how a claim about an event or a command follows from what its effect does, and how the operations pass
over what the essence of a state leaves out. -/

namespace Sys2Proof.Machine

/-! ## Events -/

/-- An event from outside, from a quiescent state: its effect gives its essence. -/
theorem goesTo_act {f : State → State} {s u : State} {i : Instr} (h : quiescent s = true) (hi : exec i s = act f s)
    (he : essence (f (nextEvent s)) = essence u) : goesTo i s u :=
  ⟨_, hi.trans (act_of_quiescent h), (essence_settle _).trans he⟩

/-- A timed event that has fallen due, from a quiescent state. -/
theorem goesTo_time {due : State → Bool} {f : State → State} {s u : State} {i : Instr} (h : quiescent s = true) (hd : due s = true)
    (hi : exec i s = onTime due f s) (he : essence (f (nextEvent s)) = essence u) : goesTo i s u :=
  ⟨_, hi.trans (onTime_of_due h hd), (essence_settle _).trans he⟩

/-- A frame or a forced cause at a bay, from a quiescent state. -/
theorem goesTo_actLoose {f : State → State} {s u : State} {i : Instr} (h : quiescent s = true) (hi : exec i s = actLoose f s)
    (he : essence (f (nextEvent s)) = essence u) : goesTo i s u :=
  ⟨_, hi.trans (actLoose_of_quiescent h), (essence_settle _).trans he⟩

/-- An event of the schedule that has fallen due, from a quiescent state. -/
theorem goesTo_timeLoose {due : State → Bool} {f : State → State} {s u : State} {i : Instr} (h : quiescent s = true)
    (hd : due s = true) (hi : exec i s = onTimeLoose due f s) (he : essence (f (nextEvent s)) = essence u) : goesTo i s u :=
  ⟨_, hi.trans (onTimeLoose_of_due h hd), (essence_settle _).trans he⟩

/-- An event that follows another, where it is due. -/
theorem goesTo_follow {due : State → Bool} {f : State → State} {s u : State} {i : Instr} (hd : due s = true)
    (hi : exec i s = .next (ifDue due f s)) (he : essence (f (nextEvent s)) = essence u) : goesTo i s u :=
  ⟨happen f s, by rw [hi, ifDue_of_due hd], (happen_essence f s).trans he⟩

/-! ## The note of a full unsaved count -/

/-- All that `noteTop` does: where the next lit second fills the unsaved count, the bay's note takes the boundary (R36). -/
theorem noteTop_eq (b : Bay) (s : State) :
    noteTop b s = if s.wear.get b = 599 then modBay b (fun y => { y with topAt := some ((s.secondsDone + 1) * 1000) }) s else s := by
  have h : s.wear.get b + 1 = unsavedTop ↔ s.wear.get b = 599 := by unfold unsavedTop; omega
  simp only [noteTop, h, boundary, second]
@[simp] theorem noteTop_work (b : Bay) (s : State) : (noteTop b s).work = s.work := by unfold noteTop; split <;> rfl
@[simp] theorem noteTop_wear (b : Bay) (s : State) : (noteTop b s).wear = s.wear := by unfold noteTop; split <;> rfl
@[simp] theorem noteTop_store (b : Bay) (s : State) : (noteTop b s).store = s.store := by unfold noteTop; split <;> rfl
@[simp] theorem noteTop_mode (b : Bay) (s : State) : (noteTop b s).mode = s.mode := by unfold noteTop; split <;> rfl
@[simp] theorem noteTop_secondsDone (b : Bay) (s : State) : (noteTop b s).secondsDone = s.secondsDone := by
  unfold noteTop; split <;> rfl

/-! ## What the essence leaves out -/

/-- Two states have one essence when they agree in what it keeps. -/
theorem essence_ext {s t : State} (h1 : t.pending = s.pending) (h2 : t.uptime = s.uptime) (h3 : t.choices = s.choices)
    (h4 : t.secondsDone = s.secondsDone) (h5 : t.cadenceDone = s.cadenceDone) (h6 : t.pins = s.pins) (h7 : t.work = s.work)
    (h8 : t.store = s.store) (h9 : t.wear = s.wear) (h10 : t.ports = s.ports) (h11 : t.geo = s.geo) (h12 : t.lock = s.lock)
    (h13 : t.comms = s.comms)
    (h14 : ({ t.lamp with bays := .make (fun b => (t.lamp.bays.get b).bare) } : LampCtl) =
      { s.lamp with bays := .make (fun b => (s.lamp.bays.get b).bare) })
    (h15 : ({ t.mode with bays := .make (fun b => (t.mode.bays.get b).bare) } : ModeUnit) =
      { s.mode with bays := .make (fun b => (s.mode.bays.get b).bare) })
    (h16 : ({ t.heat with fan := .low, stallFrom := none } : Heat) = { s.heat with fan := .low, stallFrom := none })
    (h17 : ({ t.sched with idle := 0 } : Sched) = { s.sched with idle := 0 })
    (h18 : (syncScan t).sel = (syncScan s).sel) : essence t = essence s := by
  simp only [essence, syncScan_pending, syncScan_uptime, syncScan_choices, syncScan_secondsDone, syncScan_cadenceDone, syncScan_pins,
    syncScan_work, syncScan_store, syncScan_wear, syncScan_mode, syncScan_heat, syncScan_ports, syncScan_geo, syncScan_sched,
    syncScan_lock, syncScan_comms, syncScan_lamp, State.mk.injEq]
  exact ⟨h1, h2, trivial, h3, h4, h5, h6, h7, h8, h14, h9, h15, h16, h10, h18, h11, h17, h12, h13, trivial, trivial⟩

/-- Where a scan ends depends on the selector, the clock of uptime, the records and the active record alone. -/
theorem syncScan_sel_congr {s t : State} (hsel : t.sel = s.sel) (hup : t.uptime = s.uptime)
    (ha : t.work.settings.autoscan = s.work.settings.autoscan) (hb : t.work.bookings = s.work.bookings)
    (hact : t.sched.active = s.sched.active) : (syncScan t).sel = (syncScan s).sel := by
  have he : examRunning t = examRunning s := by
    unfold examRunning runningBooking
    rw [hact, hb]
  unfold syncScan
  rw [he, hsel, ha]
  split
  · simp only [scanReturns, modSel, hsel, hup]
  · exact hsel

/-- The selector after settling. -/
theorem settle_sel (s : State) : (settle s).sel = (syncScan s).sel := by
  rw [settle_eq, syncFaults_sel, syncWaiters_sel, syncIdle_sel]
  exact syncScan_sel_congr (by simp) (by simp) (by simp) (by simp) (by simp)

theorem settle_mode_bare (s : State) :
    ({ (settle s).mode with bays := .make (fun b => ((settle s).mode.bays.get b).bare) } : ModeUnit) =
      { s.mode with bays := .make (fun b => (s.mode.bays.get b).bare) } := by
  simp only [settle_eq, syncFaults_mode, syncWaiters_mode, syncIdle_mode, syncScan_mode, syncFan_mode, syncMode_mode,
    PerBay.get_make]
  rfl

theorem settle_heat_bare (s : State) :
    ({ (settle s).heat with fan := .low, stallFrom := none } : Heat) = { s.heat with fan := .low, stallFrom := none } := by
  obtain ⟨f, t, h⟩ := heat_settle s
  rw [h]

theorem settle_sched_bare (s : State) : ({ (settle s).sched with idle := 0 } : Sched) = { s.sched with idle := 0 } := by
  simp only [settle_eq, syncFaults_sched, syncWaiters_sched]
  unfold syncIdle
  split <;> simp [modSched]

theorem settle_lamp_bare (s : State) :
    ({ (settle s).lamp with bays := .make (fun b => ((settle s).lamp.bays.get b).bare) } : LampCtl) =
      { s.lamp with bays := .make (fun b => (s.lamp.bays.get b).bare) } := by
  simp only [settle_eq, syncFaults_lamp, syncWaiters_lamp, syncIdle_lamp, syncScan_lamp, syncFan_lamp, syncMode_lamp,
    PerBay.get_make]
  rfl

/-- A scan that has ended stays ended. -/
theorem syncScan_sel_again {s t : State} (hsel : t.sel = (syncScan s).sel) (hup : t.uptime = s.uptime)
    (ha : t.work.settings.autoscan = s.work.settings.autoscan) (hb : t.work.bookings = s.work.bookings)
    (hact : t.sched.active = s.sched.active) : (syncScan t).sel = (syncScan s).sel := by
  have h := syncScan_sel_congr (s := syncScan s) (t := t) hsel (by simpa using hup) (by simpa using ha) (by simpa using hb)
    (by simpa using hact)
  rwa [syncScan_syncScan] at h

/-- Settling changes nothing beside the lamps. -/
theorem sameBesideLamps_settle {s x : State} (h : sameBesideLamps s x) : sameBesideLamps s (settle x) := by
  unfold sameBesideLamps at h ⊢
  refine Eq.trans ?_ h
  refine essence_ext ?_ ?_ ?_ ?_ ?_ ?_ ?_ rfl rfl ?_ ?_ ?_ ?_ rfl (settle_mode_bare x) (settle_heat_bare x) (settle_sched_bare x) ?_ <;>
    try simp
  refine (syncScan_sel_again ?_ ?_ ?_ ?_ ?_).trans (syncScan_sel_congr (s := { x with
    lamp := s.lamp, wear := s.wear, store := s.store, work := { x.work with lamps := s.work.lamps } }) (t := x) rfl rfl rfl rfl rfl) <;>
    simp [settle_sel]

/-- The same with the input lines and the Lock Unit put at other values. -/
theorem sameBesideLamps_settle_with {s x : State} {p : Pins} {l : LockUnit} (h : sameBesideLamps s { x with pins := p, lock := l }) :
    sameBesideLamps s { settle x with pins := p, lock := l } := by
  unfold sameBesideLamps at h ⊢
  refine Eq.trans ?_ h
  refine essence_ext ?_ ?_ ?_ ?_ ?_ rfl ?_ rfl rfl ?_ ?_ rfl ?_ rfl (settle_mode_bare x) (settle_heat_bare x) (settle_sched_bare x)
    ?_ <;> try simp
  refine (syncScan_sel_again ?_ ?_ ?_ ?_ ?_).trans (syncScan_sel_congr (s := { x with
    pins := p, lock := l, lamp := s.lamp, wear := s.wear, store := s.store, work := { x.work with lamps := s.work.lamps } })
    (t := x) rfl rfl rfl rfl rfl) <;>
    simp [settle_sel]

/-- A state that agrees with another in every block but the lamps'. -/
theorem sameBesideLamps_of {s x : State} (h1 : x.pending = s.pending) (h2 : x.uptime = s.uptime) (h3 : x.choices = s.choices)
    (h4 : x.secondsDone = s.secondsDone) (h5 : x.cadenceDone = s.cadenceDone) (h6 : x.pins = s.pins)
    (h7 : ({ x.work with lamps := s.work.lamps } : Records) = s.work) (h10 : x.ports = s.ports) (h11 : x.geo = s.geo)
    (h12 : x.lock = s.lock) (h13 : x.comms = s.comms) (h15 : x.mode = s.mode) (h16 : x.heat = s.heat) (h17 : x.sched = s.sched)
    (h18 : x.sel = s.sel) : sameBesideLamps s x := by
  unfold sameBesideLamps
  rw [h7]
  exact essence_ext h1 h2 h3 h4 h5 h6 rfl rfl rfl h10 h11 h12 h13 rfl (by rw [h15]) (by rw [h16]) (by rw [h17])
    (syncScan_sel_congr h18 h2 rfl rfl (by rw [h17]))

@[simp] theorem essence_events (s : State) (n : Nat) : essence { s with events := n } = essence s :=
  essence_congr rfl rfl rfl rfl rfl
@[simp] theorem essence_notices (s : State) (n : NoticeQ) : essence { s with notices := n } = essence s :=
  essence_congr rfl rfl rfl rfl rfl

/-- A write that starts passes over what it neither reads nor writes. -/

theorem startWrite_of_events (s : State) (n : Nat) : startWrite { s with events := n } = { startWrite s with events := n } := by
  unfold startWrite
  dsimp only
  split
  · rfl
  · split
    · cases ‹WriteReq› with | mk k w => cases k <;> rfl
    · split
      · cases ‹RecKey› <;> rfl
      · rfl
theorem startWrite_of_notices (s : State) (n : NoticeQ) : startWrite { s with notices := n } = { startWrite s with notices := n } := by
  unfold startWrite
  dsimp only
  split
  · rfl
  · split
    · cases ‹WriteReq› with | mk k w => cases k <;> rfl
    · split
      · cases ‹RecKey› <;> rfl
      · rfl

/-- An ask for a write passes over what it neither reads nor writes. -/
theorem askOwn_of_events (k : RecKey) (s : State) (n : Nat) : askOwn k { s with events := n } = { askOwn k s with events := n } := by
  unfold askOwn writeWaits
  dsimp only
  split
  · rfl
  · exact startWrite_of_events { s with store := { s.store with ownQ := s.store.ownQ ++ [k] } } n
theorem askOwn_of_notices (k : RecKey) (s : State) (n : NoticeQ) :
    askOwn k { s with notices := n } = { askOwn k s with notices := n } := by
  unfold askOwn writeWaits
  dsimp only
  split
  · rfl
  · exact startWrite_of_notices { s with store := { s.store with ownQ := s.store.ownQ ++ [k] } } n
theorem ask_of_events (snd : Sender) (k : RecKey) (s : State) (n : Nat) :
    ask snd k { s with events := n } = { ask snd k s with events := n } := by
  unfold ask askFor
  dsimp only
  split
  · rfl
  · exact startWrite_of_events
      { s with store := { s.store with
          ownQ := s.store.ownQ.erase k, cmdQ := s.store.cmdQ ++ [⟨k, if snd.broadcast then [] else [snd.port]⟩] } } n
theorem ask_of_notices (snd : Sender) (k : RecKey) (s : State) (n : NoticeQ) :
    ask snd k { s with notices := n } = { ask snd k s with notices := n } := by
  unfold ask askFor
  dsimp only
  split
  · rfl
  · exact startWrite_of_notices
      { s with store := { s.store with
          ownQ := s.store.ownQ.erase k, cmdQ := s.store.cmdQ ++ [⟨k, if snd.broadcast then [] else [snd.port]⟩] } } n

/-- So the number of events and the notices do not matter to the essence of a state that asks for a write. -/
theorem essence_askOwn_congr {k : RecKey} {s t : State} (h : t = { s with events := t.events, notices := t.notices }) :
    essence (askOwn k t) = essence (askOwn k s) := by
  have h1 := askOwn_of_events k { s with notices := t.notices } t.events
  have h2 := askOwn_of_notices k s t.notices
  rw [h]
  exact (congrArg essence h1).trans ((essence_events _ _).trans ((congrArg essence h2).trans (essence_notices _ _)))
theorem essence_ask_congr {snd : Sender} {k : RecKey} {s t : State}
    (h : t = { s with events := t.events, notices := t.notices }) : essence (ask snd k t) = essence (ask snd k s) := by
  have h1 := ask_of_events snd k { s with notices := t.notices } t.events
  have h2 := ask_of_notices snd k s t.notices
  rw [h]
  exact (congrArg essence h1).trans ((essence_events _ _).trans ((congrArg essence h2).trans (essence_notices _ _)))

/-- A change of a lamp record is the new record, and at most a notice. -/
theorem changeRecord_eq (b : Bay) (f : LampRecord → LampRecord) (s : State) :
    ∃ n, changeRecord b f s =
      { s with work := { s.work with lamps := s.work.lamps.set b ((lampRec s b).map f) }, notices := n } := by
  have h := changeRecord_lamps b f s
  refine ⟨(changeRecord b f s).notices, ?_⟩
  rw [← h]
  unfold changeRecord
  cases lampRec s b with
  | none => rfl
  | some r =>
    dsimp only
    split <;> rfl

end Sys2Proof.Machine
end

