-- ==== Sys2Proof/Laws/PerInstr.lean ====
section
/-! SUPPORT. Laws/PerInstr.lean: what the well-formedness of each command says of its sender: a frame of the Lectern Port comes from a
Presenter and is no broadcast (R175). -/

namespace Sys2Proof.Laws

/-- A well-formed command from the Lectern Port has the class Presenter, and it is no broadcast. -/
def Forms.Statement (i : Instr) : Prop :=
  i.wf = true → ∀ snd, i.sender = some snd → snd.port = .lectern → snd.cls = .presenter ∧ snd.broadcast = false

theorem Forms.of_none {i : Instr} (h : i.sender = none) : Forms.Statement i := by
  intro _ snd hs
  rw [h] at hs
  cases hs

theorem Forms.of_wf {snd : Sender} {m : Bool} (h : snd.wf m = true) (hp : snd.port = .lectern) :
    snd.cls = .presenter ∧ snd.broadcast = false := by
  simp only [Sender.wf, hp, Bool.and_eq_true] at h
  exact ⟨by simpa using h.1.1, by simpa using h.1.2⟩

theorem Forms.of_bare {i : Instr} {snd : Sender} {m : Bool} (h : i.wf = snd.wf m) (hs : i.sender = some snd) :
    Forms.Statement i := by
  intro hw t ht hp
  rw [hs] at ht
  cases ht
  exact Forms.of_wf (h ▸ hw) hp

theorem Forms.of_two {i : Instr} {snd : Sender} {m x : Bool} (h : i.wf = (snd.wf m && x)) (hs : i.sender = some snd) :
    Forms.Statement i := by
  intro hw t ht hp
  rw [hs] at ht
  cases ht
  rw [h, Bool.and_eq_true] at hw
  exact Forms.of_wf hw.1 hp

theorem Forms.of_three {i : Instr} {snd : Sender} {m x y : Bool} (h : i.wf = (snd.wf m && x && y))
    (hs : i.sender = some snd) : Forms.Statement i := by
  intro hw t ht hp
  rw [hs] at ht
  cases ht
  rw [h, Bool.and_eq_true, Bool.and_eq_true] at hw
  exact Forms.of_wf hw.1.1 hp

theorem Forms.powerOn (inp : PowerOnInputs) : Forms.Statement (.powerOn inp) := Forms.of_none rfl
theorem Forms.restart (snd : Sender) (args : List String) : Forms.Statement (.restart snd args) :=
  Forms.of_two rfl rfl
theorem Forms.lineFrame (chars : List Char) : Forms.Statement (.lineFrame chars) := Forms.of_none rfl
theorem Forms.badFrame (cause : BadCause) : Forms.Statement (.badFrame cause) := Forms.of_none rfl
theorem Forms.interCharacterGap : Forms.Statement (.interCharacterGap) := Forms.of_none rfl
theorem Forms.lineDeafEnd : Forms.Statement (.lineDeafEnd) := Forms.of_none rfl
theorem Forms.lecternFrame (chars : List Char) : Forms.Statement (.lecternFrame chars) := Forms.of_none rfl
theorem Forms.noticeSend : Forms.Statement (.noticeSend) := Forms.of_none rfl
theorem Forms.storeWriteDone (ok : Bool) : Forms.Statement (.storeWriteDone ok) := Forms.of_none rfl
theorem Forms.lampon (snd : Sender) (args : List String) : Forms.Statement (.lampon snd args) :=
  Forms.of_two rfl rfl
theorem Forms.lampoff (snd : Sender) (args : List String) : Forms.Statement (.lampoff snd args) :=
  Forms.of_two rfl rfl
theorem Forms.settingPlan (snd : Sender) (args : List String) : Forms.Statement (.settingPlan snd args) :=
  Forms.of_three rfl rfl
theorem Forms.igniterGrant : Forms.Statement (.igniterGrant) := Forms.of_none rfl
theorem Forms.strikeSuccess (b : Bay) : Forms.Statement (.strikeSuccess b) := Forms.of_none rfl
theorem Forms.strikeWindowEnd (b : Bay) : Forms.Statement (.strikeWindowEnd b) := Forms.of_none rfl
theorem Forms.warmUpEnd (b : Bay) : Forms.Statement (.warmUpEnd b) := Forms.of_none rfl
theorem Forms.litSenseDrop (b : Bay) : Forms.Statement (.litSenseDrop b) := Forms.of_none rfl
theorem Forms.coolingEnd (b : Bay) : Forms.Statement (.coolingEnd b) := Forms.of_none rfl
theorem Forms.restEnd (b : Bay) : Forms.Statement (.restEnd b) := Forms.of_none rfl
theorem Forms.strikeHoldoffEnd (b : Bay) : Forms.Statement (.strikeHoldoffEnd b) := Forms.of_none rfl
theorem Forms.doorOpen (b : Bay) : Forms.Statement (.doorOpen b) := Forms.of_none rfl
theorem Forms.doorClose (b : Bay) : Forms.Statement (.doorClose b) := Forms.of_none rfl
theorem Forms.ballastFaultAsserted (b : Bay) : Forms.Statement (.ballastFaultAsserted b) := Forms.of_none rfl
theorem Forms.ballastFaultReleased (b : Bay) : Forms.Statement (.ballastFaultReleased b) := Forms.of_none rfl
theorem Forms.spacingEnd : Forms.Statement (.spacingEnd) := Forms.of_none rfl
theorem Forms.strikeListExpiry (b : Bay) : Forms.Statement (.strikeListExpiry b) := Forms.of_none rfl
theorem Forms.lossBarEnd (b : Bay) : Forms.Statement (.lossBarEnd b) := Forms.of_none rfl
theorem Forms.lampLostExpiry (b : Bay) : Forms.Statement (.lampLostExpiry b) := Forms.of_none rfl
theorem Forms.litSecond : Forms.Statement (.litSecond) := Forms.of_none rfl
theorem Forms.wearCarry (b : Bay) : Forms.Statement (.wearCarry b) := Forms.of_none rfl
theorem Forms.unsavedWrite (b : Bay) : Forms.Statement (.unsavedWrite b) := Forms.of_none rfl
theorem Forms.install (snd : Sender) (args : List String) : Forms.Statement (.install snd args) :=
  Forms.of_two rfl rfl
theorem Forms.replace (snd : Sender) (args : List String) : Forms.Statement (.replace snd args) :=
  Forms.of_two rfl rfl
theorem Forms.remove (snd : Sender) (args : List String) : Forms.Statement (.remove snd args) :=
  Forms.of_two rfl rfl
theorem Forms.revive (snd : Sender) (args : List String) : Forms.Statement (.revive snd args) :=
  Forms.of_two rfl rfl
theorem Forms.lampinfo (snd : Sender) (args : List String) : Forms.Statement (.lampinfo snd args) :=
  Forms.of_two rfl rfl
theorem Forms.mode (snd : Sender) (args : List String) : Forms.Statement (.mode snd args) :=
  Forms.of_two rfl rfl
theorem Forms.settingDefmode (snd : Sender) (args : List String) : Forms.Statement (.settingDefmode snd args) :=
  Forms.of_three rfl rfl
theorem Forms.ceilingPersist (snd : Sender) (args : List String) : Forms.Statement (.ceilingPersist snd args) :=
  Forms.of_two rfl rfl
theorem Forms.ceilingTemp (snd : Sender) (args : List String) : Forms.Statement (.ceilingTemp snd args) :=
  Forms.of_two rfl rfl
theorem Forms.ceilingCleartemp (snd : Sender) : Forms.Statement (.ceilingCleartemp snd) :=
  Forms.of_bare rfl rfl
theorem Forms.ecoMinute (b : Bay) : Forms.Statement (.ecoMinute b) := Forms.of_none rfl
theorem Forms.conditioningDue (b : Bay) : Forms.Statement (.conditioningDue b) := Forms.of_none rfl
theorem Forms.settingCondint (snd : Sender) (args : List String) : Forms.Statement (.settingCondint snd args) :=
  Forms.of_three rfl rfl
theorem Forms.fullRunComplete (b : Bay) : Forms.Statement (.fullRunComplete b) := Forms.of_none rfl
theorem Forms.modeinfo (snd : Sender) (args : List String) : Forms.Statement (.modeinfo snd args) :=
  Forms.of_two rfl rfl
theorem Forms.thermistorConversion (housing ambient : Int) : Forms.Statement (.thermistorConversion housing ambient) := Forms.of_none rfl
theorem Forms.housingSensorFault : Forms.Statement (.housingSensorFault) := Forms.of_none rfl
theorem Forms.thermalLevelChange : Forms.Statement (.thermalLevelChange) := Forms.of_none rfl
theorem Forms.hotHallChange : Forms.Statement (.hotHallChange) := Forms.of_none rfl
theorem Forms.tachPulse : Forms.Statement (.tachPulse) := Forms.of_none rfl
theorem Forms.fanStall : Forms.Statement (.fanStall) := Forms.of_none rfl
theorem Forms.heatinfo (snd : Sender) (args : List String) : Forms.Statement (.heatinfo snd args) :=
  Forms.of_two rfl rfl
theorem Forms.portSample (readings : List PortReading) : Forms.Statement (.portSample readings) := Forms.of_none rfl
theorem Forms.portinfo (snd : Sender) (args : List String) : Forms.Statement (.portinfo snd args) :=
  Forms.of_two rfl rfl
theorem Forms.profile (snd : Sender) (args : List String) : Forms.Statement (.profile snd args) :=
  Forms.of_two rfl rfl
theorem Forms.unprofile (snd : Sender) (args : List String) : Forms.Statement (.unprofile snd args) :=
  Forms.of_two rfl rfl
theorem Forms.trim (snd : Sender) (args : List String) : Forms.Statement (.trim snd args) :=
  Forms.of_two rfl rfl
theorem Forms.profinfo (snd : Sender) (args : List String) : Forms.Statement (.profinfo snd args) :=
  Forms.of_three rfl rfl
theorem Forms.profinfoTable (snd : Sender) : Forms.Statement (.profinfoTable snd) :=
  Forms.of_bare rfl rfl
theorem Forms.source (snd : Sender) (args : List String) : Forms.Statement (.source snd args) :=
  Forms.of_three rfl rfl
theorem Forms.switchLock : Forms.Statement (.switchLock) := Forms.of_none rfl
theorem Forms.switchTimeout : Forms.Statement (.switchTimeout) := Forms.of_none rfl
theorem Forms.signalLoss : Forms.Statement (.signalLoss) := Forms.of_none rfl
theorem Forms.classChange : Forms.Statement (.classChange) := Forms.of_none rfl
theorem Forms.classChangeTimerEnd : Forms.Statement (.classChangeTimerEnd) := Forms.of_none rfl
theorem Forms.nosignalLock : Forms.Statement (.nosignalLock) := Forms.of_none rfl
theorem Forms.scanStart : Forms.Statement (.scanStart) := Forms.of_none rfl
theorem Forms.dwellLock : Forms.Statement (.dwellLock) := Forms.of_none rfl
theorem Forms.dwellEnd : Forms.Statement (.dwellEnd) := Forms.of_none rfl
theorem Forms.settingAutoscan (snd : Sender) (args : List String) : Forms.Statement (.settingAutoscan snd args) :=
  Forms.of_three rfl rfl
theorem Forms.muteOn (snd : Sender) : Forms.Statement (.muteOn snd) :=
  Forms.of_bare rfl rfl
theorem Forms.muteOff (snd : Sender) : Forms.Statement (.muteOff snd) :=
  Forms.of_bare rfl rfl
theorem Forms.sourceQuery (snd : Sender) : Forms.Statement (.sourceQuery snd) :=
  Forms.of_bare rfl rfl
theorem Forms.tiltRead (reading : Option Int) : Forms.Statement (.tiltRead reading) := Forms.of_none rfl
theorem Forms.tiltInvalid : Forms.Statement (.tiltInvalid) := Forms.of_none rfl
theorem Forms.cadenceComputation : Forms.Statement (.cadenceComputation) := Forms.of_none rfl
theorem Forms.autoTiltConfirm : Forms.Statement (.autoTiltConfirm) := Forms.of_none rfl
theorem Forms.warpReady : Forms.Statement (.warpReady) := Forms.of_none rfl
theorem Forms.warpReplyWindowEnd : Forms.Statement (.warpReplyWindowEnd) := Forms.of_none rfl
theorem Forms.nudge (snd : Sender) (args : List String) : Forms.Statement (.nudge snd args) :=
  Forms.of_two rfl rfl
theorem Forms.limits (snd : Sender) (args : List String) : Forms.Statement (.limits snd args) :=
  Forms.of_two rfl rfl
theorem Forms.settingMount (snd : Sender) (args : List String) : Forms.Statement (.settingMount snd args) :=
  Forms.of_three rfl rfl
theorem Forms.geoinfo (snd : Sender) (args : List String) : Forms.Statement (.geoinfo snd args) :=
  Forms.of_two rfl rfl
theorem Forms.minuteEdge : Forms.Statement (.minuteEdge) := Forms.of_none rfl
theorem Forms.clockEnd : Forms.Statement (.clockEnd) := Forms.of_none rfl
theorem Forms.setclock (snd : Sender) (args : List String) : Forms.Statement (.setclock snd args) :=
  Forms.of_two rfl rfl
theorem Forms.clock (snd : Sender) (args : List String) : Forms.Statement (.clock snd args) :=
  Forms.of_two rfl rfl
theorem Forms.settingPrewarm (snd : Sender) (args : List String) : Forms.Statement (.settingPrewarm snd args) :=
  Forms.of_three rfl rfl
theorem Forms.settingGrace (snd : Sender) (args : List String) : Forms.Statement (.settingGrace snd args) :=
  Forms.of_three rfl rfl
theorem Forms.book (snd : Sender) (args : List String) : Forms.Statement (.book snd args) :=
  Forms.of_two rfl rfl
theorem Forms.rebook (snd : Sender) (args : List String) : Forms.Statement (.rebook snd args) :=
  Forms.of_two rfl rfl
theorem Forms.unbook (snd : Sender) (args : List String) : Forms.Statement (.unbook snd args) :=
  Forms.of_two rfl rfl
theorem Forms.skip (snd : Sender) (args : List String) : Forms.Statement (.skip snd args) :=
  Forms.of_two rfl rfl
theorem Forms.unskip (snd : Sender) (args : List String) : Forms.Statement (.unskip snd args) :=
  Forms.of_two rfl rfl
theorem Forms.bookinfo (snd : Sender) (args : List String) : Forms.Statement (.bookinfo snd args) :=
  Forms.of_two rfl rfl
theorem Forms.booklist (snd : Sender) (args : List String) : Forms.Statement (.booklist snd args) :=
  Forms.of_two rfl rfl
theorem Forms.extend (snd : Sender) (args : List String) : Forms.Statement (.extend snd args) :=
  Forms.of_two rfl rfl
theorem Forms.endnow (snd : Sender) (args : List String) : Forms.Statement (.endnow snd args) :=
  Forms.of_two rfl rfl
theorem Forms.idleAutoOff : Forms.Statement (.idleAutoOff) := Forms.of_none rfl
theorem Forms.settingIdle (snd : Sender) (args : List String) : Forms.Statement (.settingIdle snd args) :=
  Forms.of_three rfl rfl
theorem Forms.occinfo (snd : Sender) (args : List String) : Forms.Statement (.occinfo snd args) :=
  Forms.of_two rfl rfl
theorem Forms.settingIdlelock (snd : Sender) (args : List String) : Forms.Statement (.settingIdlelock snd args) :=
  Forms.of_three rfl rfl
theorem Forms.relock (snd : Sender) (args : List String) : Forms.Statement (.relock snd args) :=
  Forms.of_two rfl rfl
theorem Forms.unlock (snd : Sender) (args : List String) : Forms.Statement (.unlock snd args) :=
  Forms.of_two rfl rfl
theorem Forms.attempts (snd : Sender) (args : List String) : Forms.Statement (.attempts snd args) :=
  Forms.of_two rfl rfl
theorem Forms.setcode (snd : Sender) (args : List String) : Forms.Statement (.setcode snd args) :=
  Forms.of_two rfl rfl
theorem Forms.delcode (snd : Sender) (args : List String) : Forms.Statement (.delcode snd args) :=
  Forms.of_two rfl rfl
theorem Forms.setmaster (snd : Sender) (args : List String) : Forms.Statement (.setmaster snd args) :=
  Forms.of_two rfl rfl
theorem Forms.freeze (snd : Sender) (args : List String) : Forms.Statement (.freeze snd args) :=
  Forms.of_two rfl rfl
theorem Forms.maintOn (snd : Sender) : Forms.Statement (.maintOn snd) :=
  Forms.of_bare rfl rfl
theorem Forms.maintOff (snd : Sender) : Forms.Statement (.maintOff snd) :=
  Forms.of_bare rfl rfl
theorem Forms.lockinfo (snd : Sender) (args : List String) : Forms.Statement (.lockinfo snd args) :=
  Forms.of_two rfl rfl
theorem Forms.filter (snd : Sender) (args : List String) : Forms.Statement (.filter snd args) :=
  Forms.of_two rfl rfl
theorem Forms.mask (snd : Sender) (args : List String) : Forms.Statement (.mask snd args) :=
  Forms.of_two rfl rfl
theorem Forms.lineinfo (snd : Sender) (args : List String) : Forms.Statement (.lineinfo snd args) :=
  Forms.of_two rfl rfl
theorem Forms.settingAddress (snd : Sender) (args : List String) : Forms.Statement (.settingAddress snd args) :=
  Forms.of_three rfl rfl
theorem Forms.settingQuery (snd : Sender) (args : List String) : Forms.Statement (.settingQuery snd args) :=
  Forms.of_three rfl rfl
theorem Forms.clearfault (snd : Sender) (args : List String) : Forms.Statement (.clearfault snd args) :=
  Forms.of_two rfl rfl
theorem Forms.faults (snd : Sender) (args : List String) : Forms.Statement (.faults snd args) :=
  Forms.of_two rfl rfl
theorem Forms.status (snd : Sender) (args : List String) : Forms.Statement (.status snd args) :=
  Forms.of_two rfl rfl
theorem Forms.replySend (port : CmdPort) : Forms.Statement (.replySend port) := Forms.of_none rfl

end Sys2Proof.Laws
end

