-- ==== Sys2Proof/Tests/Slice0.lean ====
section
/-! SUPPORT. Tests/Slice0.lean: checks of the model on fixed cases: ill-formed terms that WellFormed refuses, worked figures of the
manual, and for each statement with hypotheses a state and operands that meet them. -/

namespace Sys2Proof.Tests

set_option Elab.async false

open Sys2Proof Sys2Proof.Machine

/-! ## Helpers -/

/-- A sender of a class on the line. -/
def from_ (c : Cls) : Sender := ⟨.line, c, 0xF3, false⟩

/-- The state after an event or a command. -/
def after (i : Instr) (s : State) : State :=
  match exec i s with
  | .next t => t
  | .fault _ | .refused _ => s

/-- The last frame sent on the line, without its address, originator, check and carriage return. -/
def said (s : State) : String :=
  match s.comms.line.sent with
  | some f => String.ofList ((f.drop 6).take (f.length - 10))
  | none => ""

/-- What a command answers. -/
def reply (i : Instr) (s : State) : String := said (after i s)

/-- The part as shipped with no notice waiting and its first corner set applied. -/
def quiet : State :=
  { State.reset with
    notices := ⟨[], false⟩
    geo := { State.reset.geo with inFlight := none, appliedSet := State.reset.geo.inFlight.map (fun p => p.1) } }

/-- The lamp of section "Worked accounting" in chapter 2. -/
def lamp0 : LampRecord := ⟨"L3K-0417", 3000, 645300, 37, 14200000, 1212, 9, 0, false, none⟩

/-- The part as shipped with that lamp in bay A, which is in a state with a timer, at an uptime of 200 s. -/
def bayIn (st : BaySt) (timer : Option Nat) : State :=
  modBay .bayA (fun y => { y with st := st, timer := timer })
    { setLampRec .bayA (some lamp0) State.reset with uptime := 200000, secondsDone := 200, cadenceDone := 200 }

/-- The same with bay A wanted, under a demand of 1. -/
def wantA (s : State) : State := { s with lamp := { s.lamp with wanted := ⟨true, false⟩, count := 1 } }

/-- The same with the igniter at bay A. -/
def strikingA : State :=
  let s := wantA (bayIn .striking (some 200000))
  { s with lamp := { s.lamp with igniter := some .bayA } }

/-- The same under Maintenance. -/
def maint (s : State) : State := { s with lock := { s.lock with maint := true } }

/-- A selector state. -/
def selIn (f : Selector → Selector) : State :=
  modSel f { State.reset with uptime := 200000, secondsDone := 200, cadenceDone := 200 }

/-- The profiles of section "Lookup examples" in chapter 5. -/
def profiles0 : List (Option Profile) :=
  let p (port : VPort) (c : Option Nat) (l : LossB) : Option Profile := some ⟨port, c, none, .r16x10, 0, 0, true, l, none⟩
  ((((List.replicate 16 none).set 1 (p .p3 none .blank)).set 4 (p .p3 (some 12) .hold)).set 6 (p .p1 (some 9) .hold)).set 10
    (p .p6 none .hold)

/-- The part with those profiles. -/
def table0 : State := { State.reset with work := { State.reset.work with profiles := profiles0 } }

/-- The part with one profile of rank 1 on P2, in NoSignal. -/
def ranked0 : State :=
  { State.reset with
    uptime := 200000, secondsDone := 200, cadenceDone := 200
    work := { State.reset.work with
      profiles := (List.replicate 16 none).set 0 (some ⟨.p2, none, none, .r16x10, 0, 0, true, .hold, some 1⟩) } }

/-- A WEEKLY booking of every day, 10:00 to 11:00, with a grace of 10 minutes. -/
def daily : Booking :=
  { dates := .weekly Weekday.all none none, start := 600, stop := 660, source := none, mode := some .eco, lamps := none
    lock := .lockOpen, owner := none, ownerOnly := false, grace := 10, label := none }

/-- The part with that booking at place 1, and the clock at a second of 2031-01-01. -/
def bookedAt (secs : Nat) : State :=
  { State.reset with
    work := { State.reset.work with bookings := (List.replicate 48 none).set 0 (some daily) }
    sched := { State.reset.sched with clock := some ⟨11323, secs⟩, minuteDue := true } }

/-- The occurrence of that booking on 2031-01-01, in a phase. -/
def occ0 (p : Phase) : Occ := newOcc 1 daily 11323 p

/-- The same with that occurrence as the active record. -/
def occupied (p : Phase) (secs : Nat) : State :=
  { bookedAt secs with sched := { (bookedAt secs).sched with active := some (occ0 p) } }

/-- The geometry of section "Worked case: an ordinary hall" in chapter 7. -/
def hall (mount : Mount) (ring : Int → Int) : State :=
  { State.reset with
    work := { State.reset.work with
      profiles := (List.replicate 16 none).set 0 (some ⟨.p1, none, none, .r16x10, -3, 5, true, .blank, none⟩)
      settings := { Settings.shipped with mount := mount } }
    sel := { State.reset.sel with active := some 1 }
    geo := { State.reset.geo with
      ring := [some (ring 121), some (ring 123), some (ring 122), some (ring 124)], vAdj := 1, imm := true } }

/-! ## What WellFormed refuses -/

theorem test_wf_lectern_class : (Sender.mk .lectern .operator 0 false).wf false = false := by decide
theorem test_wf_lectern_broadcast : (Sender.mk .lectern .presenter 0 true).wf true = false := by decide
theorem test_wf_broadcast : (Instr.lampon ⟨.line, .facility, 0, true⟩ []).wf = false := by decide
theorem test_wf_word_space : wordWf "A B" = false := by decide
theorem test_wf_word_empty : wordWf "" = false := by decide
theorem test_wf_char : (Instr.lineFrame [Char.ofNat 300]).wf = false := by decide
theorem test_wf_place : (RecKey.profile 17).wf = false := by decide
theorem test_wf_booking : (RecKey.booking 0).wf = false := by decide
theorem test_wf_code : (RecKey.code 9).wf = false := by decide
theorem test_wf_mask : (RecKey.mask 4).wf = false := by decide
theorem test_wf_unreadable : (PowerOnInputs.mk false (.both false) (.both false) (.both false) [.master, .master]).wf = false := by
  decide
theorem test_wf_new_start : (BadCause.newStart 'A').wf = false := by decide
theorem test_wf_reading : (PortReading.mk true 32).wf = false := by decide
theorem test_wf_sample : (Instr.portSample []).wf = false := by decide
theorem test_wf_setting : (Instr.settingPlan (from_ .facility) []).wf = false := by decide
theorem test_wf_setting_query : (Instr.settingQuery (from_ .facility) ["PLAN", "DUAL"]).wf = false := by decide
theorem test_wf_profinfo : (Instr.profinfo (from_ .facility) []).wf = false := by decide
theorem test_wf_source : (Instr.source (from_ .facility) []).wf = false := by decide

/-! ## Worked figures of the manual -/

/-- The example of R169. -/
theorem test_frame_check : String.ofList (frameOf '>' 1 0xF3 ["STATUS"]) = ">01F3 STATUS*DE\r" := by decide +kernel
theorem test_frame_bad_check : (goodFrame ">01F3 STATUS*DF".toList).isNone = true := by decide +kernel

/-- The table after R106. -/
theorem test_tilt_rounding :
    [490, 45, -45, 44, -44, 15, 14, 1800].map roundTilt = [16, 2, -2, 1, -1, 1, 0, 60] := by decide +kernel

/-- The worked hall of chapter 7, on its feet. -/
theorem test_hall_floor :
    (computation (hall .floor id)).geo.computed = ⟨112, 0, 1807, 30, 1919, 1169, 0, 1199, .r16x10⟩ := by decide +kernel
theorem test_hall_scale :
    scaleOf (computation (hall .floor id)).geo.v (computation (hall .floor id)).geo.h = 883 := by decide +kernel
/-- The same hung from the roof. -/
theorem test_hall_ceiling : (computation (hall .ceiling id)).geo.computed.brX = 1775 := by decide +kernel
theorem test_hall_ceiling_scale : scaleOf (-18) 5 = 850 := by decide +kernel
/-- The corners at the limits. -/
theorem test_hall_limits : scaleOf 40 (-30) = 666 ∧ cornersOf 40 (-30) .r16x10 = ⟨320, 180, 1599, 0, 1919, 1199, 0, 1019, .r16x10⟩ := by
  decide +kernel

/-- The lookups of chapter 5. -/
theorem test_lookups :
    [lookup table0 .p3 12, lookup table0 .p3 14, lookup table0 .p3 0, lookup table0 .p1 9, lookup table0 .p1 4, lookup table0 .p1 0,
      lookup table0 .p8 9] = [some 5, some 2, some 2, some 7, none, none, none] := by decide +kernel

/-- The scan list of chapter 5. -/
theorem test_scan_list :
    let p (port : VPort) (c r : Option Nat) : Option Profile := some ⟨port, c, none, .r16x10, 0, 0, true, .blank, r⟩
    scanListOf [p .p2 none (some 3), p .p5 none (some 1), p .p2 (some 12) (some 1), p .p7 none (some 3), p .p1 (some 9) none,
      p .p5 (some 4) (some 2)] = [.p5, .p2, .p7] := by decide +kernel

/-- The lamp of chapter 2: its per-mille, its stage and its remaining hours. -/
theorem test_lamp_figures :
    perMilleOf lamp0 = 896 ∧ stageOfRec lamp0 = .good ∧ (hoursLeft lamp0 4, hoursLeft lamp0 3, hoursLeft lamp0 2) = (311, 415, 622) := by
  decide +kernel
/-- The limits of R32 and R33. -/
theorem test_stage_limits :
    [899, 900, 999, 1000, 1099, 1100].map stageAt = [.good, .low, .low, .spent, .spent, .exhausted] ∧
      perMilleOf { lamp0 with ratedLife := 500, wear := 239880 } = 1999 := by decide +kernel

/-- 2000-01-01 was a Saturday, and 2031-01-01 is a Wednesday. -/
theorem test_weekdays : weekdayOf 0 = .sat ∧ parseDate "2031-01-01" = some 11323 ∧ weekdayOf 11323 = .wed := by decide +kernel
theorem test_last_date : parseDate "2099-12-31" = some lastDate ∧ parseDate "2023-02-29" = none := by decide +kernel

/-! ## Replies -/

theorem test_clock_unset : reply (.clock (from_ .viewer) []) State.reset = "OK CLOCK UNSET" := by decide +kernel
theorem test_setclock :
    reply (.setclock (from_ .operator) ["2031-01-01", "08:30:00"]) State.reset = "OK CLOCK 2031-01-01 08:30:00 WEEKDAY WED" := by
  decide +kernel
theorem test_setclock_viewer : reply (.setclock (from_ .viewer) ["2031-01-01", "08:30:00"]) State.reset = "NO CLASS" := by
  decide +kernel
theorem test_mode : reply (.mode (from_ .operator) ["ECO"]) State.reset = "OK MODE ECO A OFF B OFF" := by decide +kernel
theorem test_lampon_no_lamp : reply (.lampon (from_ .operator) []) State.reset = "NO STATE" := by decide +kernel
theorem test_setting_query : reply (.settingQuery (from_ .viewer) ["ADDRESS"]) State.reset = "OK ADDRESS 01" := by decide +kernel
theorem test_freeze_then_attempts :
    reply (.attempts (from_ .facility) []) { State.reset with lock := { State.reset.lock with frozen := true } } = "NO FROZEN" := by
  decide +kernel
theorem test_unknown_verb : said (after (.lineFrame (frameOf '>' 1 0xF3 ["JUMP"])) State.reset) = "NO VERB" := by decide +kernel
theorem test_line_status :
    (after (.lineFrame ">01F3 STATUS*DE\r".toList) State.reset).comms.line.sent = (after (.status (from_ .facility) []) State.reset).comms.line.sent := by
  decide +kernel
/-- No row of the table has bits, so a word spells no command. -/
theorem test_no_words : Sys2Proof.decodeTableWord 8 0 = none := by decide
/-! ## Cases that meet the hypotheses of the statements -/

theorem witness_EmptyQueueGoesOn_due :
    (bayIn .rest (some 200000)).pending = [] ∧ Instr.restEnd .bayA ∈ dueEvents (bayIn .rest (some 200000)) := by decide +kernel
theorem witness_EmptyQueueGoesOn_tick :
    dueEvents State.reset = [] ∧ (State.reset.uptime + 1) % 1000 ≠ 0 ∧ idle State.reset = { State.reset with uptime := 1 } := by
  decide +kernel
/-- The last second of a minute, of a day, and of the calendar. -/
theorem witness_EmptyQueueGoesOn_second :
    let s (d t : Nat) : State :=
      { quiet with uptime := 999, sched := { State.reset.sched with clock := some ⟨d, t⟩ } }
    [(0, 59), (0, 86399), (36523, 86399), (36524, 86399)].all (fun x =>
      (dueEvents (s x.1 x.2)).isEmpty && decide (((s x.1 x.2).uptime + 1) % 1000 = 0)) = true ∧
    (idle (s 36523 86399)).sched.clock = some ⟨36524, 0⟩ ∧ (idle (s 36524 86399)).sched.endDue = true ∧
    (idle (s 0 58)).sched.minuteDue = false ∧ (idle (s 0 59)).sched.minuteDue = true := by decide +kernel
/-- The last second before the idle limit, in NoSignal and Settled, and with a record filled. -/
theorem witness_EmptyQueueGoesOn_idle :
    let s (st : SelSt) (o : Option Occ) : State :=
      { quiet with
        uptime := 999, lamp := { quiet.lamp with count := 1 }, sel := { quiet.sel with st := st }
        sched := { quiet.sched with idle := 1199, active := o } }
    (dueEvents (s .noSignal none)).isEmpty = true ∧ (dueEvents (s .switching none)).isEmpty = true ∧
      [s .noSignal none, s .switching none, s .noSignal (some (occ0 .grace))].map (fun x => (idle x).sched.idle) =
        [1200, 1199, 1199] := by decide +kernel
theorem witness_PowerOnAsShipped : (maint State.reset).store.stored = Records.shipped := by decide +kernel
/-- Stored records with a key, digits and a time held twice, an exception of no occurrence, and two of them unreadable. -/
theorem witness_PowerOnAsShipped_stored :
    let pr (c : Option Nat) : Option Profile := some ⟨.p3, c, none, .r16x10, 0, 0, true, .blank, none⟩
    let cd : Option Code := some ⟨"1234", none, none⟩
    let b2 : Booking := { daily with start := 660, stop := 720, source := some 1, owner := some 8, ownerOnly := true }
    let r : Records := { Records.shipped with
      profiles := (((List.replicate 16 none).set 0 (pr none)).set 1 (pr (some 4))).set 15 (pr (some 4))
      codes := ((List.replicate 8 none).set 0 cd).set 7 cd
      bookings := (((List.replicate 48 none).set 0 (some daily)).set 1 (some b2)).set 47 (some { daily with start := 659, stop := 661 })
      exceptions := [⟨1, 11323⟩, ⟨3, 11323⟩], settings := { Settings.shipped with address := 9, idle := 60 } }
    let t := after (.powerOn ⟨true, .both false, .both false, .both false, [.profile 1, .setting .idle]⟩)
      { State.reset with store := { State.reset.store with stored := r } }
    (t.work.settings.address, t.work.settings.idle) = (1, 20) ∧ [1, 2, 16].map (fun n => (profileAt t n).isSome) = [false, true, false] ∧
      [1, 8].map (fun n => (place t.work.codes n).isSome) = [true, false] ∧
      [1, 2, 48].map (fun n => (place t.work.bookings n).isSome) = [true, true, false] ∧
      (place t.work.bookings 2).map (fun b => (b.source, b.owner, b.ownerOnly)) = some (none, none, false) ∧
      t.work.exceptions = [⟨1, 11323⟩] ∧ (t.store.busy.map WriteJob.key).isSome = true ∧
      [RecKey.profile 1, .setting .idle, .profile 16, .code 8, .booking 48].all (fun k => t.store.unsaved.contains k) = true ∧
      RecKey.booking 2 ∉ t.store.unsaved := by decide +kernel
theorem witness_PowerOnBayStates :
    let r : PerBay (Option LampRecord) := ⟨some lamp0, some { lamp0 with failed := true }⟩
    let s := after (.powerOn ⟨false, .both false, .both false, .both false, []⟩)
      { State.reset with store := { State.reset.store with stored := { Records.shipped with lamps := r } } }
    (bay s .bayA).st = .rest ∧ (bay s .bayA).timer = some 150000 ∧ (bay s .bayB).st = .failed := by decide +kernel
theorem witness_IgniterGrantStrikes :
    let s := modBay .bayA (fun y => { y with stamp := some (1, 1) }) (wantA (bayIn .dark none))
    grantee s = some .bayA ∧ (bay (after .igniterGrant s) .bayA).st = .striking := by decide +kernel
theorem witness_StrikeSucceedsIntoWarming :
    quiescent strikingA = true ∧ (bay strikingA .bayA).st = .striking ∧ (bay strikingA .bayB).st ≠ .striking ∧
      (bay (after (.strikeSuccess .bayA) strikingA) .bayA).st = .warming := by decide +kernel
/-- The third failure in a row, and one before it. -/
theorem witness_StrikeWindowFails :
    let s := setLampRec .bayA (some { lamp0 with consecutive := 2 }) strikingA
    quiescent s = true ∧ timerEnded s .bayA .striking = true ∧ (bay (after (.strikeWindowEnd .bayA) s) .bayA).st = .failed ∧
      (bay (after (.strikeWindowEnd .bayA) strikingA) .bayA).st = .rest := by decide +kernel
theorem witness_BayTimersEnd :
    quiescent (wantA (bayIn .warming (some 200000))) = true ∧ timerEnded (wantA (bayIn .warming (some 200000))) .bayA .warming = true ∧
    quiescent (bayIn .warming (some 200000)) = true ∧ (bayIn .warming (some 200000)).lamp.wanted.get .bayA = false ∧
    quiescent (bayIn .cooling (some 200000)) = true ∧ timerEnded (bayIn .cooling (some 200000)) .bayA .cooling = true ∧
    quiescent (bayIn .rest (some 200000)) = true ∧ timerEnded (bayIn .rest (some 200000)) .bayA .rest = true := by decide +kernel
/-- An exit at the second boundary at which the unsaved count reached 600 and its write started, one where it waits, and one a second
later. -/
theorem witness_BayTimersEnd_served :
    let s (u n : Nat) : State :=
      let x := modBay .bayA (fun y => { y with topAt := some u }) (bayIn .warming (some 200000))
      { x with store := { x.store with busy := some ⟨.lamp .bayA, x.work, []⟩ }, wear := ⟨n, 0⟩ }
    quiescent (s 200000 0) = true ∧ timerEnded (s 200000 0) .bayA .warming = true ∧ (s 200000 0).lamp.wanted.get .bayA = false ∧
      (after (.warmUpEnd .bayA) (s 200000 0)).store.ownQ = [] ∧
      [s 200000 1, s 199000 0].map (fun x => (after (.warmUpEnd .bayA) x).store.ownQ) = [[.lamp .bayA], [.lamp .bayA]] := by
  decide +kernel

/-- A loss just within the hour, one at the hour, and one with no loss before. -/
theorem witness_LitSenseDropLosesLamp :
    let s (l : Option Nat) : State := modBay .bayA (fun y => { y with lastLoss := l })
      { wantA (bayIn .lit none) with uptime := 3600000, secondsDone := 3600, cadenceDone := 3600 }
    quiescent (s (some 1)) = true ∧ (bay (s (some 1)) .bayA).st.burning = true ∧
      (after (.litSenseDrop .bayA) (s (some 1))).lamp.wanted.get .bayA = false ∧
      (after (.litSenseDrop .bayA) (s (some 0))).lamp.wanted.get .bayA = true ∧
      (after (.litSenseDrop .bayA) (s none)).lamp.wanted.get .bayA = true ∧ lampUsable (s none) .bayA = true ∧
      barClear (s none) .bayA = true ∧ (bay (s none) .bayB).st.burning = false := by decide +kernel
theorem witness_LampDoorsAndBallast :
    let o := setDoor .bayA true (bayIn .dark none)
    quiescent (wantA (bayIn .lit none)) = true ∧ (wantA (bayIn .lit none)).pins.door.get .bayA = false ∧
      (bay (after (.doorOpen .bayA) (wantA (bayIn .lit none))) .bayA).st = .cooling ∧ quiescent strikingA = true ∧
      (after (.ballastFaultAsserted .bayA) strikingA).lamp.igniter = none ∧ quiescent o = true ∧ o.pins.door.get .bayA = true := by
  decide +kernel
/-- A wanted bay put out by its door, with a lamp in the other bay, and with a demand of 0. -/
theorem witness_LampDoorsAndBallast_failover :
    let s := setLampRec .bayB (some lamp0) (modBay .bayB (fun y => { y with st := .dark }) (wantA (bayIn .lit none)))
    let t := after (.doorOpen .bayA) s
    let z : State := { s with lamp := { s.lamp with count := 0 } }
    quiescent s = true ∧ s.lamp.wanted = ⟨true, false⟩ ∧ (bay t .bayA).causeMark = true ∧ t.lamp.wanted = ⟨false, true⟩ ∧
      quiescent z = true ∧ (after (.doorOpen .bayA) z).lamp.wanted = .both false := by decide +kernel
/-- Two bays in the dark: one has its cause mark set, so the other is chosen though it is bay B. -/
theorem witness_LamponRaises_choice :
    let s := setLampRec .bayB (some lamp0) (modBay .bayB (fun y => { y with st := .dark })
      (modBay .bayA (fun y => { y with causeMark := true }) (bayIn .dark none)))
    lamponCount s = 1 ∧ s.lamp.count = 0 ∧ takesNow s (from_ .operator) [] = true ∧
      reply (.lampon (from_ .operator) []) s = "OK DEMAND 1 SERVE 1 A DARK B STRIKING" := by decide +kernel
theorem witness_LampTimesRunOut :
    let s := modBay .bayA (fun y => { y with strikes := [0], lossBar := some 200000, lampLost := some 0 })
      { wantA (bayIn .dark none) with
        uptime := 3600000, secondsDone := 3600, cadenceDone := 3600
        lamp := { (wantA (bayIn .dark none)).lamp with spacing := some (3600000, .bayB) } }
    let t := modBay .bayA (fun y => { y with strikes := [0], lossBar := some 200000, lampLost := some 0 }) s
    quiescent t = true ∧ holdoffDue t .bayA = true ∧ spacingDue t = true ∧ strikeListDue t .bayA = true ∧
      reached t (bay t .bayA).lossBar = true ∧ shortfall t = 0 ∧ lampLostDue t .bayA = true := by decide +kernel
/-- Two bays that became waiters through one event, with equal per-mille: bay A is granted. -/
theorem witness_IgniterGrantStrikes_tie :
    let w (s : State) (b : Bay) : State := modBay b (fun y => { y with st := .dark, stamp := some (199000, 7), doorFlag := .clear }) s
    let x := setLampRec .bayB (some lamp0) (bayIn .dark none)
    let s : State := w (w { x with lamp := { x.lamp with wanted := ⟨true, true⟩, count := 2 } } .bayA) .bayB
    grantable s .bayA = true ∧ grantable s .bayB = true ∧ stampRank s .bayA = stampRank s .bayB ∧ grantee s = some .bayA := by
  decide +kernel
theorem witness_LamponRaises :
    let s := bayIn .dark none
    takesNow s (from_ .operator) [] = true ∧ below (from_ .operator) .presenter = false ∧ lockLevel s ≠ .maintenance ∧
      lockedOut s .operator = false ∧ s.heat.level ≠ .shutdown ∧ eligible s .bayA = true ∧
      reply (.lampon (from_ .operator) []) s = "OK DEMAND 1 SERVE 1 A STRIKING B EMPTY" := by decide +kernel
/-- A wanted bay in Rest for 50 s more, one in Cooling, and one in the dark with four strikes of which the oldest leaves in 3500 s. -/
theorem witness_LamponRaises_held :
    let r (s : State) : String := reply (.lampon (from_ .operator) []) (wantA s)
    let four : State := modBay .bayA (fun y => { y with strikes := [100999, 110000, 120000, 130000] }) (bayIn .dark none)
    takesNow (wantA four) (from_ .operator) [] = true ∧ eligible (wantA (bayIn .rest (some 250000))) .bayA = true ∧
      r (bayIn .rest (some 250000)) = "OK DEMAND 1 SERVE 1 A REST B EMPTY HOLD A 50" ∧
      r (bayIn .cooling (some 200999)) = "OK DEMAND 1 SERVE 1 A COOLING B EMPTY HOLD A 60" ∧
      r four = "OK DEMAND 1 SERVE 1 A DARK B EMPTY WAIT A 3500" := by decide +kernel
theorem witness_LampoffDrops :
    let s := wantA (bayIn .lit none)
    takesNow s (from_ .facility) [] = true ∧ lockedOut s .facility = false ∧ s.lamp.count ≠ 0 ∧ s.sched.active = none ∧
      reply (.lampoff (from_ .facility) []) s = "OK DEMAND 0 A COOLING B EMPTY" ∧ (occupied .running 36000).sched.active ≠ none ∧
      takesNow (occupied .running 36000) (from_ .facility) [] = true := by decide +kernel
theorem witness_ClassBelowRefused :
    takesNow State.reset (from_ .viewer) ["X"] = true ∧ takesNow State.reset (from_ .viewer) [] = true ∧
      below (from_ .viewer) .presenter = true ∧ below (from_ .presenter) .operator = true ∧ below (from_ .operator) .facility = true := by
  decide +kernel
/-- Arguments just inside and just outside their forms. -/
theorem witness_ClassBelowRefused_malformed :
    let f := from_ .facility
    takesNow State.reset f ["49"] = true ∧ reply (.unbook f ["49"]) State.reset = "NO ARGS" ∧
      reply (.unbook f ["48"]) State.reset = "NO NOTFOUND" ∧ reply (.unprofile f ["0"]) State.reset = "NO ARGS" ∧
      reply (.extend f ["61"]) State.reset = "NO ARGS" ∧ reply (.extend f ["60"]) State.reset = "NO NOCLOCK" ∧
      reply (.limits f ["40", "31"]) State.reset = "NO ARGS" ∧ reply (.install f ["A", "L1", "499"]) State.reset = "NO ARGS" ∧
      reply (.install f ["A", "L1", "500"]) State.reset = "NO STATE" ∧ reply (.lampon f ["X"]) State.reset = "NO ARGS" ∧
      reply (.settingIdle f ["5", "6"]) State.reset = "NO ARGS" ∧ reply (.unlock f ["123"]) State.reset = "NO ARGS" ∧
      reply (.source f ["P9"]) State.reset = "NO ARGS" ∧ reply (.modeinfo f ["X"]) State.reset = "NO ARGS" ∧
      reply (.skip f ["1", "2031-02-29"]) State.reset = "NO ARGS" ∧ reply (.mask f ["M4", "00"]) State.reset = "NO ARGS" ∧
      reply (.settingQuery f ["CLOCK"]) State.reset = "NO ARGS" ∧ lockedOut State.reset .facility = false := by decide +kernel
theorem witness_MaintenanceLocksCommands :
    lockLevel (maint State.reset) = .maintenance ∧ takesNow (maint State.reset) (from_ .operator) [] = true ∧
      takesNow (maint State.reset) (from_ .presenter) [] = true ∧ presenterLevel State.reset ≠ .levelOpen ∧
      takesNow State.reset (from_ .presenter) [] = true ∧
      (let s := { State.reset with heat := { State.reset.heat with level := .shutdown } }
       takesNow s (from_ .operator) [] = true ∧ lockLevel s ≠ .maintenance ∧ lockedOut s .operator = false) := by decide +kernel
/-- Values at and beyond the ends of the ranges. -/
theorem witness_NumberSettingsStored :
    takesNow State.reset (from_ .facility) ["601"] = true ∧ parseInt "601" = some 601 ∧ parseInt "-5" = some (-5) ∧
      lockedOut State.reset .facility = false ∧ below (from_ .facility) .facility = false ∧
      [after (.settingCondint (from_ .facility) ["601"]) State.reset, after (.settingCondint (from_ .facility) ["-5"]) State.reset].map
        (fun s => s.work.settings.condint) = [600, 120] ∧
      (after (.settingAddress (from_ .facility) ["99"]) State.reset).work.settings.address = 62 ∧
      (after (.settingIdle (from_ .facility) ["0"]) State.reset).work.settings.idle = 5 := by decide +kernel
theorem witness_WordSettingsStored :
    takesNow State.reset (from_ .facility) ["DUAL"] = true ∧ parsePlan "DUAL" = some .dual ∧ parseMode "ECO" = some .eco ∧
      parseOn "OFF" = some false ∧ parseIdleLock "OPEN" = some .lockOpen ∧ parseMount "CEILING" = some .ceiling ∧
      (after (.settingIdlelock (from_ .facility) ["OPEN"]) State.reset).work.settings.idlelock = .lockOpen := by decide +kernel
theorem witness_LitSecondCounts :
    let s : State := modBayMode .bayA (fun m => { m with effective := some .full, run := 5 })
      { wantA (bayIn .lit none) with secondsDone := 199 }
    quiescent s = true ∧ litSecondDue s = true ∧
      (lampRec (after .litSecond s) .bayA).map LampRecord.fraction = some 41 ∧ (after .litSecond s).wear.get .bayA = 1 := by
  decide +kernel
theorem witness_LitSecondCounts_run :
    let s : State := modBayMode .bayA (fun m => { m with effective := some .full, run := 5 })
      { wantA (bayIn .lit none) with
        secondsDone := 199, mode := { State.reset.mode with requested := .full } }
    quiescent s = true ∧ litSecondDue s = true ∧ nextEffective s .bayA = some .full ∧ (bayMode s .bayA).effective = some .full ∧
      (bayMode (after .litSecond s) .bayA).run = 6 := by decide +kernel
theorem witness_LampRecordsFitted :
    let s := maint (modBay .bayA (fun y => { y with doorFlag := .cycled }) State.reset)
    let t := maint (modBay .bayA (fun y => { y with doorFlag := .cycled }) (bayIn .failed none))
    takesNow s (from_ .facility) ["A", "L1", "500"] = true ∧ lockLevel s = .maintenance ∧ isLabel 8 "L1" = true ∧
      parseNatIn 500 20000 "500" = some 500 ∧ (bay s .bayA).st = .empty ∧
      (bay (after (.install (from_ .facility) ["A", "L1", "500"]) s) .bayA).st = .dark ∧
      takesNow t (from_ .facility) ["A", "L2", "20000"] = true ∧
      (bay (after (.replace (from_ .facility) ["A", "L2", "20000"]) t) .bayA).st = .dark := by decide +kernel
theorem witness_LampRecordsTaken :
    let s := maint (bayIn .rest (some 300000))
    takesNow s (from_ .facility) ["A"] = true ∧ lockLevel s = .maintenance ∧ (bay s .bayA).st.inUse = false ∧
      (bay (after (.remove (from_ .facility) ["A"]) s) .bayA).st = .empty ∧
      takesNow (bayIn .failed none) (from_ .facility) ["A"] = true ∧
      (bay (after (.revive (from_ .facility) ["A"]) (bayIn .failed none)) .bayA).timer = some 230000 := by decide +kernel
theorem witness_RequestedModeAndCeilings :
    takesNow State.reset (from_ .facility) ["ECO"] = true ∧ takesNow State.reset (from_ .facility) [] = true ∧
      LampMode.eco ≠ State.reset.work.ceiling ∧ State.reset.mode.persistUsed = false ∧
      (after (.ceilingPersist (from_ .facility) ["ECO"]) State.reset).mode.persistUsed = true ∧
      reply (.ceilingPersist (from_ .facility) ["ECO"]) { State.reset with mode := { State.reset.mode with persistUsed := true } } =
        "NO AGAIN" := by decide +kernel
/-- An unsaved count that reaches its top at a boundary, its write after the carry of the same second, and an exit at the boundary that
the write serves. -/
theorem test_count_write_serves_exit :
    let s : State := settle { setLampRec .bayA (some { lamp0 with fraction := 59 }) (bayIn .lit none) with
      secondsDone := 199, wear := ⟨599, 0⟩ }
    let t := after (.unsavedWrite .bayA) (after .litSecond s)
    (bay t .bayA).topAt = some 200000 ∧ t.store.busy.map (fun j => (j.snap.lamps.get .bayA).map LampRecord.fraction) = some (some 2) ∧
      (after (.doorOpen .bayA) t).store.ownQ = [] := by decide +kernel
/-- A strike result's write at a boundary does not serve the exit of the same moment (R9, R36). -/
theorem test_strike_write_serves_no_exit :
    (after (.doorOpen .bayA) (after (.strikeSuccess .bayA) strikingA)).store.ownQ = [.lamp .bayA] := by decide +kernel
/-- A grant and the drop of a thermal Shutdown at one moment: the drop may be taken first (R16, R67). -/
theorem test_heat_drop_before_grant :
    let s := modBay .bayA (fun y => { y with stamp := some (1, 1) }) (wantA (bayIn .dark none))
    let h : State := { s with heat := { s.heat with atLeast92 := 2 } }
    let t := after .thermalLevelChange (after (.thermistorConversion 95 20) h)
    grantee h = some .bayA ∧ (bay t .bayA).st = .dark ∧ t.lamp.igniter = none ∧ t.lamp.count = 0 := by decide +kernel
theorem witness_CountersCarry :
    let s := setLampRec .bayA (some { lamp0 with fraction := 60, wear := 16777215 }) (bayIn .lit none)
    let m (f : BayMode → BayMode) : State := modBayMode .bayA f State.reset
    (lampRec (after (.wearCarry .bayA) s) .bayA).map (fun r => (r.fraction, r.wear)) = some (0, 16777215) ∧
      (let u : State := { State.reset with wear := ⟨600, 0⟩ }
       600 ≤ u.wear.get .bayA ∧ writeWaits u (.lamp .bayA) = false) ∧
      (bayMode (after (.ecoMinute .bayA) (m (fun x => { x with ecoSec := 60 }))) .bayA).ecoMin = 1 ∧
      (bayMode (after (.conditioningDue .bayA) (m (fun x => { x with ecoMin := 240, debt := 4 }))) .bayA).debt = 4 ∧
      (bayMode (after (.conditioningDue .bayA) (m (fun x => { x with ecoMin := 240, credit := 1 }))) .bayA).credit = 0 ∧
      (bayMode (after (.fullRunComplete .bayA) (m (fun x => { x with run := 600, credit := 2 }))) .bayA).credit = 2 ∧
      (bayMode (after (.fullRunComplete .bayA) (m (fun x => { x with run := 600, debt := 1 }))) .bayA).debt = 0 := by decide +kernel
/-- The readings at which the conditions of R64, R65 and R68 begin. -/
theorem witness_ConversionsCounted :
    quiescent State.reset = true ∧
      [78, 77, 92, -20, -21].map (fun x => (after (.thermistorConversion x 35) State.reset).heat.atLeast78) = [1, 0, 1, 0, 0] ∧
      (after (.thermistorConversion (-30) 31) State.reset).heat.faultCount = 1 ∧
      (let s : State := { State.reset with heat := { State.reset.heat with faultCount := 3, atLeast35 := 3 } }
       sensorFaultDue s = true ∧ hallDue s = true ∧ (after .housingSensorFault s).heat.sensorFault = true ∧
         (after .hotHallChange s).heat.hot = true) := by decide +kernel
theorem witness_ThermalLevelMoves :
    let s (l : Thermal) (h : Heat) : State := { wantA (bayIn .lit none) with heat := { h with level := l } }
    (after .thermalLevelChange (s .normal { Heat.fresh with atLeast78 := 3 })).heat.level = .warn ∧
      (after .thermalLevelChange (s .warn { Heat.fresh with below70 := 3 })).heat.level = .normal ∧
      (after .thermalLevelChange (s .shutdown { Heat.fresh with below80 := 3 })).heat.level = .warn ∧
      (let t := after .thermalLevelChange (s .warn { Heat.fresh with atLeast78 := 3, atLeast92 := 3 })
       t.heat.level = .shutdown ∧ t.lamp.count = 0 ∧ (bay t .bayA).st = .cooling) := by decide +kernel
theorem witness_FanSupervised :
    let s : State := { bayIn .lit none with heat := { Heat.fresh with fan := .normal, stallFrom := some 195000 } }
    quiescent s = true ∧ fanChoice s = s.heat.fan ∧ (after .fanStall s).heat.stall = true ∧
      (after .tachPulse s).heat.stallFrom = some 200000 := by decide +kernel
/-- The first and the last place of the tables that PROFINFO and BOOKINFO read. -/
theorem witness_QueriesChangeNothing :
    let s := occupied .running 36000
    takesNow s (from_ .viewer) [] = true ∧ s.sched.clock = some ⟨11323, 36000⟩ ∧ State.reset.sched.clock = none ∧
      [showBay .bayA, "1", "16", "48", "ADDRESS", "IDLELOCK"].all (fun w => takesNow s (from_ .viewer) [w]) = true ∧
      parseNatIn 1 16 "16" = some 16 ∧ parseNatIn 1 16 "17" = none ∧ parseNatIn 1 48 "1" = some 1 ∧ place s.work.bookings 1 ≠ none ∧
      profileAt table0 5 ≠ none ∧
      reply (.heatinfo (from_ .viewer) []) s = "OK HOUSING NONE AMBIENT NONE LEVEL NORMAL HOT NO SENSOR OK FAN LOW TACH IDLE" := by
  decide +kernel

/-- All 23 entries Active, which a reply of 400 characters cannot give, and the last booking that ends later than the clock. -/
theorem witness_QueriesChangeNothing_long :
    let s : State := { bookedAt 39600 with faults := .make (fun _ => .active) }
    takesNow s (from_ .viewer) [] = true ∧ ((reply (.faults (from_ .viewer) []) s).length + 10 ≤ 400) ∧
      (reply (.faults (from_ .viewer) []) s).toList.reverse.take 5 = " MORE".toList.reverse ∧
      (nextOccurrence s 1 daily, nextOccurrence (bookedAt 39599) 1 daily) = (some 11324, some 11323) ∧ daily.stop ≤ 1440 := by
  decide +kernel

/-- A sample in which P1 has a signal of a class, and no other port has one. -/
def readings (cls : Nat) : List PortReading := ⟨true, cls⟩ :: List.replicate 7 ⟨false, 9⟩

/-- Samples are judged one after another, so each port here had its class before. -/
def sampled (cls : Nat) (f : Selector → Selector) : State := after (.portSample (readings cls)) (selIn f)

theorem witness_PortsSampled :
    let s := selIn (fun x => { x with st := .settled, settledCls := some 9, lossRun := 4 })
    quiescent s = true ∧ s.ports.length = 8 ∧ (readings 31).length = 8 ∧
      ((after (.portSample (readings 31)) s).ports.map (fun p => (p.present, p.cls)) =
        (some true, 31) :: List.replicate 7 (some false, 0)) ∧
      (after (.portSample (readings 12)) s).sel.classRun = ⟨12, 1⟩ ∧ (after (.portSample (readings 9)) s).sel.classRun = ⟨0, 0⟩ ∧
      (after (.portSample (List.replicate 8 ⟨false, 0⟩)) s).sel.lossRun = 5 ∧
      (let t := selIn (fun x => { x with st := .noSignal, lockRun := ⟨9, 1⟩ })
       quiescent t = true ∧ (after (.portSample (readings 9)) t).sel.lockRun = ⟨9, 2⟩ ∧
         (after (.portSample (readings 0)) t).sel.lockRun = ⟨0, 0⟩) ∧
      (let t := selIn (fun x => { x with st := .scanning, scanPort := .p1, dwellFrom := 199000, lockRun := ⟨9, 1⟩ })
       quiescent t = true ∧ t.work.settings.autoscan = true ∧ examRunning t = false ∧
         (after (.portSample (readings 9)) t).sel.lockRun = ⟨9, 2⟩ ∧ (after (.portSample (readings 4)) t).sel.lockRun = ⟨4, 1⟩) := by
  decide +kernel

/-- A list of empty places has no record at any place. -/
theorem place_replicate_none {α : Type} (k n : Nat) : place (List.replicate k (none : Option α)) n = none := by
  cases n with
  | zero => rfl
  | succ n =>
    simp only [place, List.getD_eq_getElem?_getD, List.getElem?_replicate]
    split <;> rfl

/-- The active profile is changed, and trims beyond both limits are kept within them. -/
theorem witness_ProfilesStored :
    let f := from_ .facility
    below f .operator = false ∧ lockedOut table0 f.cls = false ∧ takesNow table0 f ["1", "PORT", "P4"] = true ∧
      parseProfile ["1", "PORT", "P4"] table0 = some (1, ⟨.p4, none, none, .r16x10, 0, 0, true, .blank, none⟩) ∧
      keyHolder table0 1 ⟨.p4, none, none, .r16x10, 0, 0, true, .blank, none⟩ = none ∧ profileAt table0 1 = none ∧
      keyHolder table0 1 ⟨.p3, none, none, .r16x10, 0, 0, true, .blank, none⟩ = some 2 ∧
      takesNow table0 f ["11"] = true ∧ parseNatIn 1 16 "11" = some 11 ∧ profileAt table0 11 ≠ none ∧
      (profileAt (after (.trim f ["2", "41", "-31"]) table0) 2).map (fun p => (p.vTrim, p.hTrim)) = some (40, -30) ∧
      takesNow table0 f ["2", "0", "0"] = true ∧ (profileAt table0 2).map (fun p => (p.vTrim, p.hTrim)) = some (0, 0) := by
  decide +kernel
theorem witness_ProfilesStored_unnamed :
    ∀ m bk, place table0.work.bookings m = some bk → bk.source ≠ some 11 := by
  intro m bk h
  have e : place table0.work.bookings m = none := place_replicate_none 48 m
  rw [e] at h; cases h

/-- The active profile changed and deleted in each state of the selector, and the ANY profile of the port changed in NoSignal. -/
theorem witness_ProfilesStored_reaches :
    let f := from_ .facility
    let s (st : SelSt) (n : Nat) : State := { table0 with
      sel := { table0.sel with st := st, port := .p3, settledCls := some 12, active := some n } }
    let put (words : List String) (x : State) : State := after (.profile f words) x
    let seen (x : State) : Option Nat × LossB := (x.sel.active, x.sel.lossB)
    [SelSt.settled, .noSignal, .switching, .scanning].all (fun st => takesNow (s st 5) f ["5", "AUTO", "OFF"] && takesNow (s st 5) f ["5"]) = true ∧
      seen (put ["5", "PORT", "P6", "CLASS", "3"] (s .settled 5)) = (some 2, (s .settled 5).sel.lossB) ∧
      (put ["5", "ASPECT", "4:3"] (s .settled 5)).sel = (s .settled 5).sel ∧
      seen (after (.unprofile f ["5"]) (s .switching 5)) = (some 2, .blank) ∧
      seen (put ["5", "PORT", "P6", "CLASS", "3"] (s .scanning 5)) = (some 2, .blank) ∧
      seen (put ["2", "LOSS", "HOLD"] (s .noSignal 2)) = (some 2, .hold) ∧
      seen (put ["2", "LOSS", "HOLD"] (s .noSignal 5)) = (some 5, .hold) ∧
      seen (put ["2", "LOSS", "HOLD"] (s .switching 2)) = (some 2, (s .switching 2).sel.lossB) := by decide +kernel

/-- A list with the best rank on a later place, a port twice, and an equal rank. -/
theorem witness_ScanListOrder :
    takesNow ranked0 (from_ .viewer) [] = true ∧ scanList ranked0 = [.p2] ∧ scanList State.reset = [] ∧
      reply (.profinfoTable (from_ .viewer)) State.reset = "OK PROFILES NONE SCAN NONE" := by decide +kernel

theorem witness_SwitchRequested :
    let f := from_ .operator
    let s (o : SwOrigin) : State := { table0 with sel := { table0.sel with st := .switching, req := some ⟨.p6, none, o, 0⟩ } }
    let t : State := { table0 with sel := { table0.sel with st := .settled, port := .p3, settledCls := some 9, active := some 2 } }
    takesNow table0 f ["P3"] = true ∧ below f .presenter = false ∧ lockedOut table0 f.cls = false ∧ parsePort "P3" = some .p3 ∧
      parsePort "11" = none ∧ parseNatIn 1 16 "11" = some 11 ∧ (profileAt table0 11).map Profile.port = some .p6 ∧
      reply (.source f ["1"]) table0 = "NO NOTFOUND" ∧ reply (.source f ["P3"]) (s .facility) = "NO BUSY" ∧
      reply (.source f ["P3"]) (s .operator) = "OK SWITCHING P3 REQ PORT" ∧
      reply (.source f ["P3"]) (s .schedule) = "OK SWITCHING P3 REQ PORT" ∧
      reply (.source f ["11"]) table0 = "OK SWITCHING P6 REQ 11" ∧ takesNow t f ["P3"] = true ∧
      resolved t .p3 9 none = t.sel.active ∧ reply (.source f ["P3"]) t = "OK SETTLED P3 PROFILE 2" := by decide +kernel

/-- A switch that locks, and one whose 5 s have just passed, with a profile that holds and with none. -/
theorem witness_SwitchEnds :
    let s (p : VPort) (n : Nat) : State := { table0 with
      uptime := 5000, secondsDone := 5, cadenceDone := 5
      sel := { table0.sel with st := .switching, req := some ⟨p, none, .operator, 0⟩, lockRun := ⟨12, n⟩ } }
    (after .switchLock (s .p3 2)).sel.active = some 5 ∧ quiescent (s .p6 1) = true ∧ (s .p6 1).uptime = 5000 ∧
      (after .switchTimeout (s .p6 1)).sel.st = .noSignal ∧ (after .switchTimeout (s .p6 1)).sel.muteLoss = false ∧
      (after .switchTimeout (s .p8 1)).sel.muteLoss = true := by decide +kernel

/-- A lock that leaves profile 5 the active one keeps the nudges and computes the corners anew; one that changes it clears them. -/
theorem witness_SwitchEnds_unchanged :
    let s (n : Nat) : State := { table0 with
      geo := { table0.geo with vAdj := 3, inFlight := none }
      sel := { table0.sel with
        st := .switching, active := some n, req := some ⟨.p3, none, .operator, 0⟩, lockRun := ⟨12, 2⟩ } }
    resolved (s 5) .p3 12 none = some 5 ∧ (after .switchLock (s 5)).geo.vAdj = 3 ∧
      (after .switchLock (s 5)).geo.inFlight.isSome = true ∧ (after .switchLock (s 2)).sel.active = some 5 ∧
      (after .switchLock (s 2)).geo.vAdj = 0 := by decide +kernel

theorem witness_SettledSourceFollowed :
    let s (f : Selector → Selector) : State := { selIn f with work := { table0.work with settings := table0.work.settings } }
    (after .signalLoss (s (fun x => { x with st := .settled, settledCls := some 9, active := some 7, lossRun := 5 }))).sel.beforeLoss = some 9 ∧
      (after .classChange (s (fun x => { x with st := .settled, port := .p3, settledCls := some 9, active := some 2, classRun := ⟨12, 2⟩ }))).sel.active =
        some 5 ∧
      quiescent (s (fun x => { x with classTimer := some 199000 })) = true ∧
      (s (fun x => { x with classTimer := some 199000 })).sel.classTimer = some 199000 ∧
      (after .nosignalLock (s (fun x => { x with st := .noSignal, port := .p3, beforeLoss := some 12, lockRun := ⟨9, 2⟩ }))).sel.classTimer =
        some 200000 ∧
      (after .nosignalLock (s (fun x => { x with st := .noSignal, port := .p3, beforeLoss := some 9, lockRun := ⟨9, 2⟩ }))).sel.classTimer =
        none := by decide +kernel
/-- A class change that leaves the ANY profile of P3 the active one keeps the nudges, and computes the corners anew. -/
theorem witness_SettledSourceFollowed_unchanged :
    let s : State := { table0 with
      geo := { table0.geo with vAdj := 3, inFlight := none }
      sel := { table0.sel with st := .settled, port := .p3, settledCls := some 9, active := some 2, classRun := ⟨4, 2⟩ } }
    let t := after .classChange s
    t.sel.active = s.sel.active ∧ t.sel.settledCls = some 4 ∧ t.geo.vAdj = 3 ∧ t.geo.inFlight.isSome = true := by decide +kernel

/-- Just at 10 s in NoSignal, and just at the 3 s of a dwell. -/
theorem witness_ScansRun :
    let s : State := { ranked0 with
      sel := { ranked0.sel with noSigFrom := 190000 }, work := { ranked0.work with settings := { ranked0.work.settings with autoscan := true } } }
    let d (w : Records) : State := { s with work := w, sel := { s.sel with st := .scanning, scanPort := .p2, dwellFrom := 197000 } }
    quiescent s = true ∧ s.sel.st = .noSignal ∧ examRunning s = false ∧ (scanList s).head? = some .p2 ∧
      (after .scanStart s).sel.st = .scanning ∧
      (after .dwellLock { d s.work with sel := { (d s.work).sel with lockRun := ⟨9, 2⟩ } }).sel.port = .p2 ∧
      quiescent (d s.work) = true ∧ portAfter .p2 (scanList (d s.work)) = none ∧
      (after .dwellEnd (d s.work)).sel.dwellFrom = 200000 ∧
      quiescent (d State.reset.work) = true ∧ scanList (d State.reset.work) = [] := by decide +kernel

theorem witness_MuteNudgeAndLimits :
    let s : State := { State.reset with geo := { State.reset.geo with vAdj := 8 } }
    below (from_ .facility) .presenter = false ∧ takesNow s (from_ .facility) [] = true ∧ lockLevel s ≠ .maintenance ∧
      takesNow s (from_ .facility) ["3", "-11"] = true ∧ parseInt "-11" = some (-11) ∧ lockedOut s .facility = false ∧
      ((after (.nudge (from_ .facility) ["3", "-11"]) s).geo.vAdj, (after (.nudge (from_ .facility) ["3", "-11"]) s).geo.hAdj) = (10, -10) ∧
      parseNatIn 0 40 "40" = some 40 ∧ parseNatIn 0 30 "0" = some 0 ∧ parseNatIn 0 30 "31" = none ∧
      takesNow s (from_ .facility) ["40", "0"] = true ∧ s.work.limV = 40 ∧ s.work.limH = 30 := by decide +kernel

/-- Readings at the ends of the range, one beyond it, and the invalid run at its limit. -/
theorem witness_TiltReadsJoinRing :
    quiescent State.reset = true ∧
      [some (-450), some 450, some 451, none].map (fun r => (after (.tiltRead r) State.reset).geo.invalidRun) = [0, 0, 1, 1] ∧
      (let s : State := { State.reset with geo := { State.reset.geo with invalidRun := 20 } }
       s.geo.tiltInvalid = false ∧ (after .tiltInvalid s).geo.tiltInvalid = true) := by decide +kernel

theorem witness_CadenceStabilises :
    let s (f : Geo → Geo) (on : Bool) : State := { selIn (fun x => { x with active := some 1 }) with
      cadenceDone := 199
      work := { State.reset.work with
        profiles := (List.replicate 16 none).set 0 (some ⟨.p1, none, none, .r16x10, 0, 0, on, .blank, none⟩) }
      geo := f { State.reset.geo with ring := [some 121, some 123, some 122, some 124], imm := false } }
    quiescent (s id true) = true ∧ autoTiltOn (s id true) = true ∧ candidate (s id true) = some 16 ∧ autoTiltOn (s id false) = false ∧
      (after .cadenceComputation (s (fun g => { g with imm := true }) true)).geo.applied = 16 ∧
      (after .cadenceComputation (s (fun g => { g with cand := some 16, agree := 1 }) true)).geo.agree = 2 ∧
      (after .cadenceComputation (s (fun g => { g with cand := some 15, agree := 2 }) true)).geo.agree = 1 ∧
      (after .cadenceComputation (s (fun g => { g with applied := 16, cand := some 15 }) true)).geo.cand = none ∧
      candidate (s (fun g => { g with ring := [some 1, none, some 2, some 3] }) true) = none ∧
      (after .autoTiltConfirm (s (fun g => { g with cand := some 16, agree := 3 }) true)).geo.applied = 16 := by decide +kernel
/-- A sum that lies half-way between two whole numbers, in both signs. -/
theorem test_half_away :
    [15, -15, 45].map (fun x => candidate { State.reset with geo := { State.reset.geo with ring := [some x, some 0, some 0, some 0] } }) =
      [some 1, some (-1), some 2] := by decide +kernel

theorem witness_CornersAndScale : State.reset.work.limV ≤ 40 ∧ State.reset.work.limH ≤ 30 := by decide +kernel

/-- A set in flight just before and just at the 200 ms, with another that waits. -/
theorem witness_WarpLinkAnswers :
    let s (u : Nat) : State := { State.reset with
      uptime := 200, geo := { State.reset.geo with inFlight := some (.panel .r16x10, u), nextSlot := some (.panel .r4x3) } }
    quiescent (s 0) = true ∧ quiescent quiet = true ∧ quiet.geo.inFlight = none ∧
      (after .warpReady (s 1)).geo.inFlight = some (.panel .r4x3, 200) ∧ (after .warpReplyWindowEnd (s 0)).geo.warpNoReply = true ∧
      (after .warpReplyWindowEnd (s 1)).geo.warpNoReply = false := by decide +kernel

theorem witness_ClockSetAndEnd :
    let f := from_ .operator
    let s : State := { wantA (bayIn .lit none) with
      sched := { (occupied .running 86399).sched with clock := some ⟨36524, 86399⟩, minuteDue := false, endDue := true } }
    takesNow State.reset f ["2099-12-31", "23:59:59"] = true ∧ parseDate "2099-12-31" = some 36524 ∧ parseTime "23:59:59" = some 86399 ∧
      below f .operator = false ∧ lockedOut State.reset f.cls = false ∧ quiescent s = true ∧ s.sched.endDue = true ∧
      s.sched.clock ≠ none ∧ s.sched.active ≠ none ∧ s.lock.maint = false ∧ (after .clockEnd s).lamp.count = 0 ∧
      State.reset.work.exceptions = [] ∧ State.reset.sched.active = none ∧ State.reset.sched.upcoming = none := by decide +kernel
/-- A record kept in Grace at 11:05, within its grace of 10 minutes, while the Running window of the second booking holds the time. -/
theorem witness_ClockSetAndEnd_grace :
    let f := from_ .operator
    let s : State := { occupied .grace 39600 with work := { (occupied .grace 39600).work with
      bookings := (occupied .grace 39600).work.bookings.set 1 (some { daily with start := 660, stop := 720 }) } }
    let t := after (.setclock f ["2031-01-01", "11:05:00"]) s
    takesNow s f ["2031-01-01", "11:05:00"] = true ∧ parseDate "2031-01-01" = some 11323 ∧ parseTime "11:05:00" = some 39900 ∧
      lockedOut s f.cls = false ∧ s.sched.active.map (fun o => (o.booking, o.date, o.phase)) = some (1, 11323, .grace) ∧
      t.sched.lastEnded = some (1, 11323) ∧ t.sched.active.map (fun o => (o.booking, o.phase, o.late)) = some (2, .running, true) := by
  decide +kernel
/-- A ONCE booking that only the upcoming record names goes in the step that moves the clock past its end, and stays before it. -/
theorem test_once_retired_at_clock_set :
    let b : Booking := { daily with dates := .once 11323 }
    let s : State := { bookedAt 35820 with
      work := { (bookedAt 35820).work with bookings := (List.replicate 48 none).set 0 (some b) }
      sched := { (bookedAt 35820).sched with minuteDue := false, upcoming := some (newOcc 1 b 11323 .prewarm) } }
    let t (at_ : String) := after (.setclock (from_ .operator) ["2031-01-01", at_]) s
    place (t "11:00:00").work.bookings 1 = none ∧ (t "11:00:00").sched.upcoming = none ∧
      place (t "09:58:00").work.bookings 1 = some b := by decide +kernel
theorem witness_no_bookings : ∀ n, place State.reset.work.bookings n = none := place_replicate_none 48

/-- The first minute of the window, the end of it, and the end of the grace. -/
theorem witness_MinuteEdgePhases :
    quiescent (bookedAt 36000) = true ∧ (bookedAt 36000).sched.clock = some ⟨11323, 36000⟩ ∧ (bookedAt 36000).sched.minuteDue = true ∧
      (bookedAt 36000).lock.maint = false ∧
      otherRunning (bookedAt 36000) 11323 (HallClock.abs ⟨11323, 36000⟩) = [(1, daily)] ∧
      (after .minuteEdge (bookedAt 36000)).sched.active.map Occ.late = some false ∧
      (after .minuteEdge (bookedAt 36060)).sched.active.map Occ.late = some true ∧
      quiescent (occupied .running 39600) = true ∧ minuteAbs 11323 660 = HallClock.abs ⟨11323, 39600⟩ ∧
      otherRunning (occupied .running 39600) 11323 (HallClock.abs ⟨11323, 39600⟩) = [] ∧
      (after .minuteEdge (occupied .running 39600)).sched.active.map Occ.phase = some .grace ∧
      quiescent (occupied .grace 40200) = true ∧ minuteAbs 11323 670 = HallClock.abs ⟨11323, 40200⟩ ∧
      (after .minuteEdge (occupied .grace 40200)).sched.lastEnded = some (1, 11323) := by decide +kernel
/-- The first minute of a Prewarm with the lead of 3 minutes, its Running with the raise made, and two bookings back to back. -/
theorem witness_MinuteEdgePhases_begin :
    let p := bookedAt 35820
    let u : State := { bookedAt 36000 with sched := { (bookedAt 36000).sched with upcoming := some { occ0 .prewarm with raised := true } } }
    let next : Booking := { daily with start := 660, stop := 720, mode := some .full }
    let b : State := { occupied .running 39600 with
      work := { (occupied .running 39600).work with bookings := ((List.replicate 48 none).set 0 (some daily)).set 1 (some next) } }
    quiescent p = true ∧ prewarmHolding p 11323 (HallClock.abs ⟨11323, 35820⟩) = [(1, daily)] ∧
      otherRunning p 11323 (HallClock.abs ⟨11323, 35820⟩) = [] ∧ (after .minuteEdge p).lamp.count = 1 ∧
      (after .minuteEdge p).sched.upcoming = some { occ0 .prewarm with raised := true } ∧
      (after .minuteEdge (bookedAt 35760)).sched.upcoming = none ∧ quiescent u = true ∧ (after .minuteEdge u).lamp.count = 0 ∧
      (after .minuteEdge u).sched.active = some { occ0 .running with raised := true } ∧ quiescent b = true ∧
      otherRunning b 11323 (HallClock.abs ⟨11323, 39600⟩) = [(2, next)] ∧
      (after .minuteEdge b).sched.lastEnded = some (1, 11323) ∧ (after .minuteEdge b).mode.requested = .full ∧
      ((after .minuteEdge b).notices.queue.filter (fun n => n.kind == .booking)).map Notice.fields =
        [["2", "2031-01-01", "RUNNING", "12:00"]] := by decide +kernel
/-- A Running record with a grace of 0 at its end: it passes Grace, and its END notice replaces the GRACE one. -/
theorem witness_MinuteEdgePhases_no_grace :
    let o : Occ := { occ0 .running with grace := 0 }
    let s : State := { occupied .running 39600 with sched := { (occupied .running 39600).sched with active := some o } }
    let t := after .minuteEdge s
    quiescent s = true ∧ minuteAbs o.date (o.stop + o.grace) = HallClock.abs ⟨11323, 39600⟩ ∧ s.sched.upcoming = none ∧
      windowHolds 11323 (daily.start - s.work.settings.prewarm) daily.stop (HallClock.abs ⟨11323, 39600⟩) = false ∧
      t.sched.active = none ∧ t.sched.lastEnded = some (1, 11323) ∧
      (t.notices.queue.filter (fun n => n.kind == .booking)).map Notice.fields = [["1", "2031-01-01", "END"]] := by decide +kernel
/-- The schedule's request for P1's profile 7 in each state of the selector: settled there and elsewhere, in a switch of a Presenter and
of an Operator, and in a scan; and a scan without a request, that an EXAM booking ends. -/
theorem witness_MinuteEdgePhases_source :
    let at_ (source : Option Nat) (lock : BookLock) (f : Selector → Selector) : Selector :=
      (after .minuteEdge { bookedAt 36000 with
        work := { (bookedAt 36000).work with
          profiles := profiles0, bookings := (List.replicate 48 none).set 0 (some { daily with source := source, lock := lock }) }
        sel := f (bookedAt 36000).sel }).sel
    let settled (p : VPort) (n : Nat) (x : Selector) : Selector := { x with st := .settled, port := p, settledCls := some 9, active := some n }
    let switching (o : SwOrigin) (x : Selector) : Selector := { x with st := .switching, req := some ⟨.p6, none, o, 0⟩ }
    let scanning (x : Selector) : Selector := { x with st := .scanning, scanPort := .p3 }
    let seen (x : Selector) : SelSt × Option Nat × Option VPort := (x.st, x.named, x.req.map SwitchReq.port)
    State.reset.work.settings.autoscan = true ∧
      seen (at_ (some 7) .lockOpen (settled .p1 7)) = (.settled, some 7, none) ∧
      seen (at_ (some 7) .lockOpen (settled .p3 2)) = (.switching, none, some .p1) ∧
      seen (at_ (some 7) .lockOpen (switching .presenter)) = (.switching, none, some .p1) ∧
      seen (at_ (some 7) .lockOpen (switching .operator)) = (.switching, none, some .p6) ∧
      seen (at_ (some 7) .lockOpen scanning) = (.switching, none, some .p1) ∧
      seen (at_ none .lockOpen scanning) = (.scanning, none, none) ∧
      seen (at_ none .exam scanning) = (.noSignal, none, none) := by decide +kernel
/-- A ONCE booking just before its end and at it, with its Running, and an exception of the day before. -/
theorem witness_MinuteEdgePhases_retire :
    let s (secs : Nat) : State := { bookedAt secs with
      work := { State.reset.work with
        bookings := (List.replicate 48 none).set 47 (some { daily with dates := .once 11323 }), exceptions := [⟨1, 11322⟩, ⟨1, 11323⟩] } }
    quiescent (s 39600) = true ∧ (s 39600).sched.active = none ∧ (s 39600).sched.upcoming = none ∧
      (place (after .minuteEdge (s 39540)).work.bookings 48).isSome = true ∧
      place (after .minuteEdge (s 39600)).work.bookings 48 = none ∧
      (after .minuteEdge (s 39600)).store.busy.map WriteJob.key = some (.booking 48) ∧
      (after .minuteEdge (s 39600)).work.exceptions = [⟨1, 11323⟩] := by decide +kernel
theorem witness_MinuteEdgePhases_grace :
    ∀ m bk, place (occupied .grace 40200).work.bookings m = some bk → (occ0 .grace).booking = m ∧ (occ0 .grace).date = 11323 := by
  intro m bk h
  match m with
  | 0 => cases h
  | 1 => exact ⟨rfl, rfl⟩
  | m + 2 =>
    have e : place ((List.replicate 48 (none : Option Booking)).set 0 (some daily)) (m + 2) = none := by
      show ((List.replicate 48 (none : Option Booking)).set 0 (some daily)).getD (m + 1) none = none
      rw [List.getD_eq_getElem?_getD, List.getElem?_set_ne (by omega), List.getElem?_replicate]
      split <;> rfl
    have h' : place ((List.replicate 48 (none : Option Booking)).set 0 (some daily)) (m + 2) = some bk := h
    rw [e] at h'; cases h'

/-- An end just at 24:00, and one minute after it. -/
theorem witness_ExtendEndnowAndIdleOff :
    let f := from_ .operator
    let late (p : Phase) (secs : Nat) : State :=
      { occupied p secs with sched := { (occupied p secs).sched with active := some { occ0 p with stop := 1380 } } }
    let idle0 : State := { wantA (bayIn .lit none) with sched := { State.reset.sched with idle := 1200 } }
    let short : State := { occupied .running 37000 with
      sched := { (occupied .running 37000).sched with active := some { occ0 .running with grace := 0 } } }
    takesNow (late .running 82000) f ["60"] = true ∧ parseNatIn 1 60 "60" = some 60 ∧ parseNatIn 1 60 "61" = none ∧
      lockedOut (late .running 82000) f.cls = false ∧ extendConflict (late .running 82000) { occ0 .running with stop := 1380 } 1440 = none ∧
      ((after (.extend f ["60"]) (late .running 82000)).sched.active.map Occ.stop = some 1440) ∧
      reply (.extend f ["5"]) (late .grace 83000) = "OK EXTEND 1 END 23:09" ∧
      takesNow (occupied .running 37000) f [] = true ∧ 0 < (occ0 .running).grace ∧
      reply (.endnow f []) (occupied .running 37000) = "OK ENDNOW 1 GRACE UNTIL 10:26" ∧
      reply (.endnow f []) (occupied .grace 39700) = "OK ENDNOW 1 END" ∧
      reply (.endnow f []) short = "OK ENDNOW 1 GRACE UNTIL 10:16" ∧ (after (.endnow f []) short).sched.active = none ∧
      quiescent idle0 = true ∧ idle0.sched.active = none ∧ idle0.sched.upcoming = none ∧
      idle0.work.settings.idle * 60 = idle0.sched.idle ∧ (after .idleAutoOff idle0).lamp.origin = .idle := by
  decide +kernel
/-- A booking of the last free place, one that a REBOOK changes with an exception dropped, and one in Running that is refused. -/
theorem witness_BookingsStored :
    let f := from_ .operator
    let words := ["KIND", "ONCE", "DATE", "2031-01-02", "START", "10:00", "END", "11:00"]
    let s : State := { (bookedAt 36000) with
      work := { (bookedAt 36000).work with exceptions := [⟨1, 11325⟩] }, sched := State.reset.sched }
    below f .operator = false ∧ lockedOut s f.cls = false ∧ takesNow s f words = true ∧
      firstEmpty 1 s.work.bookings = some 2 ∧ (parseBook words s).map (fun b => (refsFound s b, pastNow s b, conflict s 3 b)) =
        some (true, false, some 1) ∧
      (parseBook ["KIND", "ONCE", "DATE", "2031-01-02", "START", "11:00", "END", "24:00"] s).map (conflict s 2) = some none ∧
      takesNow s f ["KIND", "ONCE", "DATE", "2031-01-02", "START", "11:00", "END", "24:00"] = true ∧ unnamed s 2 = true ∧
      reply (.book f ["KIND", "ONCE", "DATE", "2031-01-02", "START", "10:30", "END", "11:00"]) s = "NO CONFLICT 1" ∧
      takesNow s f ["1", "UNTIL", "2031-01-01"] = true ∧ bookingBusy s 1 = false ∧ s.sched.clock = none ∧
      (parseRebook ["1", "UNTIL", "2031-01-01"] s).map (fun p => (p.1, p.2.map (fun b => (b.dates, refsFound s b, conflict s 1 b)))) =
        some (1, some (.weekly Weekday.all none (some 11323), true, none)) ∧
      (after (.rebook f ["1", "UNTIL", "2031-01-01"]) s).work.exceptions = [] ∧
      takesNow s f ["1"] = true ∧ parseNatIn 1 48 "1" = some 1 ∧ place s.work.bookings 1 ≠ none ∧ unnamed s 1 = true ∧
      (after (.unbook f ["1"]) s).work.exceptions = [] ∧
      reply (.rebook f ["1", "UNTIL", "2031-01-01"]) (occupied .running 36000) = "NO INUSE" := by decide +kernel

/-- A REBOOK while the clock is set and to the record held, and an UNBOOK of the place whose record is in Grace. -/
theorem witness_BookingsStored_clock :
    let f := from_ .operator
    let s := bookedAt 30000
    let g := occupied .grace 39700
    takesNow s f ["1", "MODE", "FULL"] = true ∧ bookingBusy s 1 = false ∧ unnamed s 1 = true ∧
      (parseRebook ["1", "MODE", "FULL"] s).map (fun p => p.2.map (fun b => (refsFound s b, pastNow s b, conflict s 1 b))) =
        some (some (true, false, none)) ∧
      ((place (after (.rebook f ["1", "MODE", "FULL"]) s).work.bookings 1).map Booking.mode = some (some .full)) ∧
      reply (.rebook f ["1", "MODE", "ECO"]) s = "OK BOOK 1 DROPPED 0" ∧ takesNow g f ["1"] = true ∧ bookingBusy g 1 = false ∧
      g.sched.active = some (occ0 .grace) ∧ (after (.unbook f ["1"]) g).sched.lastEnded = some (1, 11323) ∧
      (after (.unbook f ["1"]) g).sched.active = none ∧ place (after (.unbook f ["1"]) g).work.bookings 1 = none := by decide +kernel
/-- An UNBOOK in Grace with an idle store and a Lit bay: the lamp's record is being written, and UNBOOK's two records wait. -/
theorem witness_BookingsStored_order :
    let f := from_ .operator
    let s : State := { wantA (modBay .bayA (fun y => { y with st := .lit }) (setLampRec .bayA (some lamp0) (occupied .grace 39700))) with
      wear := ⟨5, 0⟩ }
    let t := after (.unbook f ["1"]) s
    takesNow s f ["1"] = true ∧ s.store.busy = none ∧ s.store.cmdQ = [] ∧ s.store.ownQ = [] ∧ s.lock.maint = false ∧
      s.lamp.count ≠ 0 ∧ (bay s .bayA).st = .lit ∧ t.store.busy.map WriteJob.key = some (.lamp .bayA) ∧
      t.store.cmdQ.map WriteReq.key = [.booking 1, .exceptions] := by decide +kernel

/-- The date of the clock, and the day before it. -/
theorem witness_SkipsStored :
    let f := from_ .operator
    let s := bookedAt 36000
    let u : State := { s with work := { s.work with exceptions := [⟨1, 11323⟩] } }
    takesNow s f ["1", "2031-01-01"] = true ∧ below f .operator = false ∧ lockedOut s f.cls = false ∧
      parseNatIn 1 48 "1" = some 1 ∧ parseDate "2031-01-01" = some 11323 ∧ place s.work.bookings 1 = some daily ∧
      daily.dates.isWeekly = true ∧ daily.dates.onDate 11323 = true ∧ s.work.exceptions = [] ∧
      s.sched.clock = some ⟨11323, 36000⟩ ∧ occurrenceBusy s 1 11323 = false ∧
      (after (.skip f ["1", "2031-01-01"]) s).work.exceptions = [⟨1, 11323⟩] ∧
      reply (.skip f ["1", "2030-12-31"]) s = "NO PAST" ∧ takesNow u f ["1", "2031-01-01"] = true ∧
      u.work.exceptions = [⟨1, 11323⟩] ∧ conflictOn u 1 daily 11323 = none ∧
      (after (.unskip f ["1", "2031-01-01"]) u).work.exceptions = [] := by decide +kernel

/-- Codes of four, five and six digits, with the last attempt and with none, and a code on and after its last date. -/
theorem witness_LocksOpened :
    let f := from_ .presenter
    let s (n : Nat) (c : Option HallClock) : State := { State.reset with
      work := { State.reset.work with
        codes := (List.replicate 8 none).set 0 (some ⟨"1234", none, some 11323⟩), master := some "654321" }
      lock := { State.reset.lock with attempts := n }, sched := { State.reset.sched with clock := c } }
    ["1234", "12345", "654321"].all (fun w => takesNow (s 1 none) f [w] && isDigits 4 6 w) = true ∧ below f .presenter = false ∧
      lockLevel (s 1 none) ≠ .maintenance ∧ lockLevel (s 1 none) ≠ .exam ∧
      codeMatch (s 1 (some ⟨11323, 0⟩)) "1234" = some (.slot 1) ∧ codeMatch (s 1 (some ⟨11324, 0⟩)) "1234" = none ∧
      codeMatch (s 1 none) "1234" = none ∧ codeMatch (s 1 none) "654321" = some .master ∧
      (after (.unlock f ["12345"]) (s 1 none)).lock.attempts = 0 ∧ reply (.unlock f ["654321"]) (s 0 none) = "NO EXHAUSTED" ∧
      takesNow (s 1 none) (from_ .facility) [] = true ∧ lockedOut (s 1 none) .facility = false ∧ (s 1 none).lock.frozen = false := by
  decide +kernel

/-- At Exam the owner's code and the master code, with and without owner-only, and the code of another slot. -/
theorem witness_LocksOpened_exam :
    let s (only : Bool) : State := { occupied .running 36000 with
      work := { (occupied .running 36000).work with
        bookings := (List.replicate 48 none).set 0 (some { daily with lock := .exam, owner := some 8, ownerOnly := only })
        codes := ((List.replicate 8 none).set 0 (some ⟨"1234", none, none⟩)).set 7 (some ⟨"8888", none, none⟩)
        master := some "654321" } }
    lockLevel (s true) = .exam ∧ (runningBooking (s true)).map Booking.owner = some (some 8) ∧
      ["8888", "654321", "1234"].map (codeMatch (s true)) = [some (.slot 8), none, none] ∧
      ["8888", "654321", "1234"].map (codeMatch (s false)) = [some (.slot 8), some .master, none] := by decide +kernel

theorem witness_CodesStored :
    let f := from_ .facility
    let s (frozen : Bool) : State := { State.reset with
      work := { State.reset.work with
        codes := (List.replicate 8 none).set 0 (some ⟨"1234", none, none⟩), master := some "654321" }
      lock := { State.reset.lock with frozen := frozen } }
    below f .facility = false ∧ takesNow (s false) f ["8", "4321", "NONE"] = true ∧
      parseCode ["8", "4321", "NONE"] = some (8, ⟨"4321", none, none⟩) ∧
      place (after (.setcode f ["8", "4321", "NONE"]) (s false)).work.codes 8 = some ⟨"4321", none, none⟩ ∧
      reply (.setcode f ["8", "1234"]) (s false) = "NO INUSE 1" ∧ reply (.setcode f ["8", "1234"]) (s true) = "NO FROZEN" ∧
      takesNow (s false) f ["1"] = true ∧ parseNatIn 1 8 "1" = some 1 ∧ place (s false).work.codes 1 ≠ none ∧
      place (after (.delcode f ["1"]) (s false)).work.codes 1 = none ∧
      parseMaster ["654321", "NONE"] = some (some "654321", none) ∧ takesNow (s false) f ["654321", "NONE"] = true ∧
      (after (.setmaster f ["654321", "NONE"]) (s false)).work.master = none ∧
      (after (.setmaster f ["111111", "NONE"]) (s false)).lock.attempts = 4 := by decide +kernel
theorem witness_CodesStored_clash :
    let f := from_ .facility
    let s (n : Nat) : State := { State.reset with
      work := { State.reset.work with
        codes := (List.replicate 8 none).set 7 (some ⟨"123456", none, none⟩), master := some "654321" }
      lock := { State.reset.lock with attempts := n } }
    reply (.setcode f ["1", "654321"]) (s 5) = "NO INUSE MASTER" ∧ reply (.setcode f ["1", "123456"]) (s 5) = "NO INUSE 8" ∧
      reply (.setmaster f ["654321", "123456"]) (s 1) = "NO INUSE 8" ∧ reply (.setmaster f ["654321", "NONE"]) (s 0) = "NO EXHAUSTED" ∧
      takesNow (s 0) f ["654321", "NONE"] = true ∧
      (after (.setcode f ["8", "123456"]) (s 5)).store.busy.map WriteJob.key = some (.code 8) ∧
      (after (.setmaster f ["654321", "654321"]) (s 1)).store.busy.map WriteJob.key = some .master := by decide +kernel
theorem witness_CodesStored_others :
    ∀ m k, place ((List.replicate 8 (none : Option Code)).set 0 (some ⟨"1234", none, none⟩)) m = some k → k.digits = "1234" := by
  intro m k h
  match m with
  | 0 => cases h
  | 1 => cases h; rfl
  | m + 2 =>
    have e : place ((List.replicate 8 (none : Option Code)).set 0 (some ⟨"1234", none, none⟩)) (m + 2) = none := by
      show ((List.replicate 8 (none : Option Code)).set 0 (some ⟨"1234", none, none⟩)).getD (m + 1) none = none
      rw [List.getD_eq_getElem?_getD, List.getElem?_set_ne (by omega), List.getElem?_replicate]
      split <;> rfl
    rw [e] at h; cases h

theorem witness_MaintenanceSwitched :
    let s := wantA (bayIn .lit none)
    takesNow s (from_ .facility) [] = true ∧ below (from_ .facility) .facility = false ∧ s.lock.maint = false ∧ s.lamp.count ≠ 0 ∧
      (bay s .bayA).st = .lit ∧ (bay s .bayB).st = .empty ∧ (bay (after (.maintOn (from_ .facility)) s) .bayA).st = .cooling ∧
      (bay strikingA .bayA).st = .striking ∧ takesNow strikingA (from_ .facility) [] = true ∧
      takesNow (maint s) (from_ .facility) [] = true ∧ (maint s).sched.active = none ∧
      (after (.maintOff (from_ .facility)) (maint s)).lock.maint = false := by decide +kernel
/-- MAINT OFF with a Running record of a raised flag, and with another in Prewarm, cold and at Shutdown; and with one in Grace. -/
theorem witness_MaintenanceSwitched_records :
    let f := from_ .facility
    let s (p : Phase) (up : Bool) (hot : Thermal) : State := { occupied p 36000 with
      lock := { State.reset.lock with maint := true }
      heat := { State.reset.heat with level := hot }
      sched := { (occupied p 36000).sched with
        active := some { occ0 p with raised := true }
        upcoming := if up then some { occ0 .prewarm with date := 11324 } else none } }
    let t (x : State) := after (.maintOff f) x
    let late (x : State) : Option (Bool × Bool) := x.sched.active.map (fun o => (o.late, o.raised))
    [s .running false .normal, s .running true .normal, s .running false .shutdown, s .grace false .normal].all
        (fun x => takesNow x f []) = true ∧
      (t (s .running false .normal)).lamp.count = 1 ∧ late (t (s .running false .normal)) = some (true, true) ∧
      (t (s .running false .normal)).mode.requested = .eco ∧
      (t (s .running true .normal)).sched.upcoming.map Occ.raised = some true ∧
      ((t (s .running true .normal)).notices.queue.map Notice.kind).filter (fun k => k == .lock || k == .booking) =
        [.lock, .booking, .booking] ∧
      (t (s .running false .shutdown)).lamp.count = 0 ∧ (t (s .grace false .normal)).lamp.count = 0 ∧
      late (t (s .grace false .normal)) = some (false, true) := by decide +kernel

/-- The last enabled Facility filter is disabled, and another is set. -/
theorem witness_FiltersMasksAndFaults :
    let f := from_ .facility
    let off := ["1", "F0", "M2", "FACILITY", "OFF"]
    let on := ["8", "AB", "M3", "OPERATOR", "ON"]
    let s : State := { State.reset with faults := { State.reset.faults with fanStall := .latched } }
    takesNow State.reset f off = true ∧ (parseFilter off).map Prod.fst = some 1 ∧
      reply (.filter f off) State.reset = "NO STATE" ∧ takesNow State.reset f on = true ∧
      (parseFilter on).map Prod.fst = some 8 ∧ ((after (.filter f on) State.reset).work.filters[7]?).map Filter.code = some 0xAB ∧
      takesNow State.reset f ["M3", "01"] = true ∧ parseMask ["M3", "01"] = some (3, 1) ∧
      (after (.mask f ["M3", "01"]) State.reset).work.masks = [0xFF, 0xF0, 0x01] ∧ takesNow s f [] = true ∧
      reply (.clearfault f []) s = "OK CLEARED 1 FAULT RELEASED" ∧ (after (.clearfault f []) s).faults.fanStall = .clear := by
  decide +kernel
/-- CLEARFAULT of one bay's entry, of both of a kind, of a kind without a subject, and of a bay given for it; an equal FILTER and MASK. -/
theorem witness_FiltersMasksAndFaults_kinds :
    let f := from_ .facility
    let s : State := { State.reset with faults := .make (fun x => if x.actionable then .latched else .clear) }
    let left (args : List String) : List FaultId := [FaultId.doorOpen .bayA, .doorOpen .bayB, .fanStall].filter (fun x =>
      (after (.clearfault f args) s).faults.get x == .latched)
    let held := ["1", "F0", "M2", "FACILITY", "ON"]
    takesNow s f ["DOOROPEN", "A"] = true ∧ left ["DOOROPEN", "A"] = [.doorOpen .bayB, .fanStall] ∧
      left ["DOOROPEN"] = [.fanStall] ∧ left ["FANSTALL"] = [.doorOpen .bayA, .doorOpen .bayB] ∧
      reply (.clearfault f ["DOOROPEN"]) s = "OK CLEARED 2 FAULT ASSERTED" ∧
      reply (.clearfault f ["FANSTALL", "A"]) s = "NO ARGS" ∧ reply (.clearfault f ["DOOROPEN", "C"]) s = "NO ARGS" ∧
      (parseFilter held).map Prod.snd = State.reset.work.filters[0]? ∧ parseMask ["M3", "00"] = some (3, 0) ∧
      reply (.filter f held) State.reset = "OK FILTER 1 F0 M2 FACILITY ON" ∧
      (after (.filter f held) State.reset).store.busy = none ∧ reply (.mask f ["M3", "00"]) State.reset = "OK MASK M3 00" ∧
      (after (.mask f ["M3", "00"]) State.reset).store.busy = none := by decide +kernel

/-- From a sound state: an actionable entry is Latched when its condition ends, and an advisory one is Clear. -/
theorem witness_FiltersMasksAndFaults_move :
    let s := settle { bayIn .dark none with heat := { Heat.fresh with fan := .high, stall := true }, geo := { State.reset.geo with tiltInvalid := true } }
    quiescent s = true ∧ (s.faults.fanStall, s.faults.tiltInvalid) = (.active, .active) ∧
      FaultId.all.all (fun f => (s.faults.get f == .active) == faultCond s f && (f.actionable || s.faults.get f != .latched)) = true ∧
      (after .tachPulse s).faults.fanStall = .latched ∧ (after (.tiltRead (some 0)) s).faults.tiltInvalid = .clear ∧
      (faultLine (after .tachPulse s), serviceLine (after .tachPulse s)) = (true, true) := by decide +kernel
theorem witness_FiltersMasksAndFaults_own : ownEvent .tachPulse :=
  ⟨rfl, by decide, fun _ _ _ _ => by simp⟩

theorem witness_RestartKeepsRecords :
    let s : State := { wantA (bayIn .lit none) with pins := { State.reset.pins with lit := ⟨true, false⟩ } }
    let r := after (.restart (from_ .facility) [])
    takesNow s (from_ .facility) [] = true ∧ s.store.busy = none ∧ (bay (r s) .bayA).st = .lit ∧ (r s).lamp.count = 1 ∧
      (bay (r (maint s)) .bayA).st = .rest ∧ (bay (r { s with pins := State.reset.pins }) .bayA).st = .rest ∧
      (bay s .bayB).st = .empty ∧ s.sched.clock = none ∧
      (bay (r { strikingA with pins := { State.reset.pins with lit := ⟨true, false⟩ } }) .bayA).st = .warming ∧
      (r { s with store := { s.store with busy := some ⟨.limits, s.work, []⟩ } }).comms.restartBy ≠ none := by decide +kernel

/-- An open door on a bay alight, and a Running record that the restart takes again. -/
theorem witness_RestartKeepsRecords_schedule :
    let s : State := { wantA (bayIn .lit none) with pins := { State.reset.pins with lit := ⟨true, false⟩, door := ⟨true, false⟩ } }
    let o := occupied .running 39599
    let g := occupied .grace 40199
    let u : State := { bookedAt 35999 with sched := { (bookedAt 35999).sched with upcoming := some (occ0 .prewarm) } }
    let r := after (.restart (from_ .facility) [])
    (bay (r s) .bayA).st = .cooling ∧ (bay (r s) .bayA).causeMark = true ∧ takesNow o (from_ .facility) [] = true ∧
      o.store.busy = none ∧ (r o).sched.active = some { occ0 .running with raised := true, late := true } ∧ (r o).lamp.count = 1 ∧
      takesNow g (from_ .facility) [] = true ∧ otherRunning g 11323 (HallClock.abs ⟨11323, 40199⟩) = [] ∧
      (r g).sched.active = some (occ0 .grace) ∧ takesNow u (from_ .facility) [] = true ∧
      otherRunning u 11323 (HallClock.abs ⟨11323, 35999⟩) = [] ∧
      (r u).sched.upcoming = some { occ0 .prewarm with raised := true } := by decide +kernel

/-- A frame on each port, with the addresses at both ends of the range. -/
theorem witness_FrameDoesCommand :
    let i : Instr := .nudge (from_ .facility) ["1", "-1"]
    let j : Instr := .nudge ⟨.lectern, .presenter, 0, false⟩ ["1", "-1"]
    let s (a : Nat) : State := withSettings (fun y => { y with address := a, idlelock := .lockOpen }) State.reset
    i.wf = true ∧ commandWords i = some (from_ .facility, ["NUDGE", "1", "-1"]) ∧ wordsWf ["NUDGE", "1", "-1"] = true ∧
      j.wf = true ∧ commandWords j = some (⟨.lectern, .presenter, 0, false⟩, ["NUDGE", "1", "-1"]) ∧
      ["NUDGE", "1", "-1"].all (fun w => w.toList.all (fun c => !startChar c)) = true ∧
      [1, 62].all (fun a => decide ((frameOf '>' a 0xF3 ["NUDGE", "1", "-1"]).length ≤ 96) && quiescent (s a)) = true ∧
      classOf (s 62) 0xF3 = some .facility ∧ (s 62).comms.deaf = false ∧ (s 62).comms.line.rx = none ∧
      sending (s 62) .line = false ∧ portBusy (s 62) .line = false ∧ portBusy (s 62) .lectern = false ∧
      (s 62).comms.lectern.rx = none ∧
      (after (.lineFrame (frameOf '>' 62 0xF3 ["NUDGE", "1", "-1"])) (s 62)).geo.vAdj = 1 ∧
      (after (.lecternFrame (frameOf '>' 62 0 ["NUDGE", "1", "-1"])) (s 62)).geo.hAdj = -1 := by decide +kernel
/-- No row of the table has the verb FOO. -/
theorem witness_FrameDoesCommand_verb (i : Instr) (snd : Sender) (l : List String) : commandWords i ≠ some (snd, "FOO" :: l) := by
  cases i <;> simp only [commandWords] <;> (try split) <;> simp
/-- Frames that are broadcast, of another unit, of another start, of no class, of an unknown verb and of a malformed body. -/
theorem witness_FrameDoesCommand_others :
    let s : State := { wantA (bayIn .lit none) with
      comms := { State.reset.comms with errCount := 9 }
      work := { (wantA (bayIn .lit none)).work with filters := State.reset.work.filters.take 1 } }
    let frame (c : Char) (a : Nat) (o : Byte) (w : List String) : State := after (.lineFrame (frameOf c a o w)) s
    let panel (a : Nat) (w : List String) : State := after (.lecternFrame (frameOf '>' a 0 w)) s
    let silent (t : State) : Bool := t.comms.line.sent == none && t.comms.lectern.sent == none
    quiescent s = true ∧ startChar '!' = true ∧ classOf s 0xF3 = some .facility ∧ classOf s 0xE1 = none ∧ s.work.settings.address = 1 ∧
      (frame '>' 0 0xF3 ["LAMPOFF"]).lamp.count = 0 ∧ silent (frame '>' 0 0xF3 ["LAMPOFF"]) = true ∧
      [frame '>' 0 0xF3 ["MAINT", "ON"], frame '>' 2 0xF3 ["LAMPOFF"], frame '<' 1 0xF3 ["LAMPOFF"], frame '!' 0 0xF3 ["LAMPOFF"],
        frame '>' 1 0xE1 ["LAMPOFF"]].all (fun t => decide (t.lamp.count = 1 ∧ t.comms.errCount = 8) && silent t) = true ∧
      said (frame '>' 1 0xF3 ["FOO"]) = "NO VERB" ∧ said (frame '>' 1 0xF3 ["LAMPOFF", ""]) = "NO ARGS" ∧
      said (frame '>' 1 0xF3 ["LAMPOFF", "", "X"]) = "NO ARGS" ∧ said (frame '>' 1 0xF3 ["MUTE", "X"]) = "NO ARGS" ∧
      said (frame '>' 1 0xF3 ["MAINT"]) = "NO ARGS" ∧ said (frame '>' 1 0xF3 ["CEILING", "ECO"]) = "NO ARGS" ∧
      [panel 0 ["LAMPOFF"], panel 2 ["LAMPOFF"]].all (fun t => decide (t.lamp.count = 1 ∧ t.comms.errCount = 9) && silent t) = true ∧
      (panel 1 ["FOO"]).comms.lectern.sent ≠ none := by decide +kernel
theorem witness_FrameReadsBack :
    wordsWf ["STATUS"] = true ∧ (goodFrame (frameOf '!' 99 0xFF ["STATUS"]).dropLast).map Frame.addr = some 99 ∧
      (goodFrame (frameOf '>' 0 0 ["STATUS"]).dropLast).map Frame.addr = some 0 := by decide +kernel

/-- Counts just below and just at the limit of Deaf, and a gap just over 200 ms. -/
theorem witness_BadFramesCounted :
    let s (n : Nat) (deaf : Bool) (rx : Option (List Char)) : State := { State.reset with
      uptime := 3000, secondsDone := 3, cadenceDone := 3
      comms := { State.reset.comms with errCount := n, deaf := deaf, line := { Channel.fresh with rx := rx } } }
    [s 183 false none, s 184 false none, s 255 true none, s 0 false (some ['>'])].all quiescent = true ∧
      (BadCause.newStart '!').wf = true ∧ sending (s 183 false none) .line = false ∧
      [183, 184].map (fun n => (after (.badFrame .failedCheck) (s n false none)).comms.deaf) = [false, true] ∧
      (after (.badFrame (.newStart '>')) (s 0 false none)).comms.line.rx = some ['>'] ∧
      (after .interCharacterGap (s 0 false (some ['>']))).comms.errCount = 8 ∧
      (after .interCharacterGap { (s 0 false (some ['>'])) with uptime := 200 }).comms.errCount = 0 ∧
      (after .lineDeafEnd (s 255 true none)).comms.errCount = 0 ∧ (s 255 true none).comms.line.inbox = [] := by decide +kernel

/-- A gap at the count before Deaf and at Deaf, a bad frame in Deaf, one on the Lectern Port, and a frame that waits at the end of Deaf. -/
theorem witness_BadFramesCounted_deaf :
    let s (n : Nat) (deaf : Bool) (rx : Option (List Char)) : State := { State.reset with
      uptime := 3000, secondsDone := 3, cadenceDone := 3
      comms := { State.reset.comms with
        errCount := n, deaf := deaf, line := { Channel.fresh with rx := rx }, lectern := { Channel.fresh with rx := rx } } }
    let w : State := modChan .line (fun c => { c with inbox := [(from_ .facility, ["MUTE", "ON"])] }) (s 255 true none)
    [183, 184].map (fun n => (after .interCharacterGap (s n false (some ['>']))).comms.deaf) = [false, true] ∧
      (after (.badFrame .framingError) (s 255 true none)).comms.line.lastChar = 3000 ∧
      (after (.badFrame .lecternFramingError) (s 0 false (some ['>']))).comms.lectern.rx = none ∧
      (after (.badFrame .lecternFramingError) (s 0 false (some ['>']))).comms.errCount = 0 ∧ quiescent w = true ∧
      (Instr.muteOn (from_ .facility)).wf = true ∧ commandWords (.muteOn (from_ .facility)) = some (from_ .facility, ["MUTE", "ON"]) ∧
      (after .lineDeafEnd w).sel.muteUser = true ∧ (after .lineDeafEnd w).comms.line.inbox = [] := by decide +kernel

/-- A FAULTS that waits at the end of Deaf no longer lists LINEDEAF, which it listed before. -/
theorem test_deaf_ends_before_the_frame :
    let s : State := { State.reset with
      uptime := 3000, secondsDone := 3, cadenceDone := 3, comms := { State.reset.comms with errCount := 255, deaf := true } }
    let w : State := modChan .line (fun c => { c with inbox := [(from_ .viewer, ["FAULTS"])] }) (settle s)
    w.faults.get .lineDeaf = .active ∧ said (after .lineDeafEnd w) = "OK FAULTS NONE" := by decide +kernel

/-- A notice at 50 ms, a reply whose writes have ended, and a write in progress. -/
theorem witness_PortsSendAndWritesEnd :
    let w : Waiting := ⟨0xF3, ["OK"], none, 0, true⟩
    let r : State := { quiet with comms := { quiet.comms with lectern := { Channel.fresh with reply := some w } } }
    let b : State := { quiet with store := { quiet.store with busy := some ⟨.limits, { quiet.work with limV := 7 }, []⟩ } }
    quiescent { State.reset with uptime := 50 } = true ∧ noticeDue { State.reset with uptime := 50 } = true ∧
      (after .noticeSend { State.reset with uptime := 50 }).notices.queue.length = 1 ∧ quiescent r = true ∧
      (chan r .lectern).reply = some w ∧ sending r .lectern = false ∧ (chan r .lectern).inbox = [] ∧
      (after (.replySend .lectern) r).comms.lectern.sent = some (frameOf '<' 1 0xF3 ["NO", "STORE"]) ∧ quiescent b = true ∧
      b.store.cmdQ = [] ∧ b.store.ownQ = [] ∧ b.comms.restartBy = none ∧ (chan b .line).reply = none ∧
      (after (.storeWriteDone true) b).store.stored.limV = 7 ∧ (after (.storeWriteDone false) b).store.unsaved = [.limits] := by
  decide +kernel

/-- A write that a reply waits for with a frame behind it, one that it waits for beside another, a second write, and a RESTART. -/
theorem witness_PortsSendAndWritesEnd_waiting :
    let b (n : Nat) (l : List (Sender × List String)) : State := { quiet with
      store := { quiet.store with busy := some ⟨.limits, quiet.work, [.line]⟩ }
      comms := { quiet.comms with line := { Channel.fresh with reply := some ⟨0xF3, ["OK"], none, n, false⟩, inbox := l } } }
    let q : State := { quiet with store := { quiet.store with
      busy := some ⟨.limits, quiet.work, []⟩, cmdQ := [⟨.master, [.line]⟩], ownQ := [.lamp .bayA] } }
    let r : State := { quiet with
      store := { quiet.store with busy := some ⟨.limits, quiet.work, []⟩ }
      comms := { quiet.comms with restartBy := some (from_ .facility) }, mode := { quiet.mode with temp := some .eco } }
    [b 1 [], b 2 [], q, r].all quiescent = true ∧
      (after (.storeWriteDone false) (b 1 [])).comms.line.sent = some (frameOf '<' 1 0xF3 ["NO", "STORE"]) ∧
      ((after (.storeWriteDone true) (b 2 [])).comms.line.reply.map Waiting.outstanding = some 1) ∧
      (after (.storeWriteDone true) (b 1 [(from_ .facility, ["MUTE", "ON"])])).sel.muteUser = true ∧
      (after (.storeWriteDone true) q).store.busy.map WriteJob.key = some .master ∧
      (after (.storeWriteDone true) { q with store := { q.store with cmdQ := [] } }).store.busy.map WriteJob.key = some (.lamp .bayA) ∧
      (after (.storeWriteDone true) r).mode.temp = none ∧ said (after (.storeWriteDone true) r) = "OK RESTART" := by decide +kernel

/-- Queues of seven and eight, with an entry to replace, one to drop, and none. -/
theorem witness_NoticesPlaced :
    let n (k : NoticeKind) (x : Subject) : Notice := ⟨k, x, []⟩
    let all : List Subject := [.housing, .ambient, .bay .bayA, .bay .bayB, .level, .upcoming, .active, .selector]
    let q (k : NoticeKind) (m : Nat) : NoticeQ := ⟨(all.take m).map (n k), false⟩
    ((q .source 7).put (n .source .selector)) = q .source 8 ∧ ((q .source 8).put ⟨.source, .selector, ["X"]⟩).queue.length = 8 ∧
      ((q .source 8).put (n .heat .housing)) = ⟨(q .source 7).queue ++ [n .heat .housing], true⟩ ∧
      ((q .heat 8).put (n .source .housing)) = ⟨(q .heat 8).queue, true⟩ := by decide +kernel

/-- The notices of a Dark entry, of a stage reached by a carry, of a level and of a loss, with the FAULT notices behind them. -/
theorem witness_NoticesPlaced_events :
    let new (i : Instr) (s : State) : List (NoticeKind × List String) :=
      ((after i s).notices.queue.drop s.notices.queue.length).map (fun n => (n.kind, n.fields))
    let w := setLampRec .bayA (some { lamp0 with fraction := 60, wear := 647999 }) (bayIn .rest (some 200000))
    let h : State := { settle quiet with heat := { Heat.fresh with atLeast78 := 3, housing := some 80 } }
    let l := selIn (fun x => { x with st := .settled, settledCls := some 9, lossRun := 5 })
    quiescent (bayIn .rest (some 200000)) = true ∧ timerEnded (bayIn .rest (some 200000)) .bayA .rest = true ∧
      new (.restEnd .bayA) { bayIn .rest (some 200000) with notices := ⟨[], false⟩ } = [(.lamp, ["DARK"])] ∧
      new (.wearCarry .bayA) (settle w) = [(.life, ["LOW"]), (.fault, ["ACTIVE"])] ∧
      new .thermalLevelChange h = [(.heat, ["WARN", "80"]), (.fault, ["ACTIVE"])] ∧
      new .signalLoss l = [(.source, ["NOSIGNAL", "P1", "0", "NONE", "NONE"])] ∧ quiescent quiet = true ∧
      takesNow State.reset (from_ .facility) ["OPEN"] = true ∧ parseIdleLock "OPEN" = some .lockOpen ∧
      new (.settingIdlelock (from_ .facility) ["OPEN"]) quiet = [(.lock, ["OPEN", "UNLOCKED", "NO"])] := by decide +kernel

/-- Steps from the reset state: the invariants hold there, and it has a next state. -/
theorem witness_invariants_reset :
    (faultsSound State.reset ∧ modesSound State.reset) ∧ igniterSound State.reset ∧ noticesSound State.reset ∧
      countsSound State.reset := by
  refine ⟨⟨?_, ?_⟩, ?_, ?_, ?_⟩
  · intro f; cases f <;> (try rename_i b; cases b) <;> decide +kernel
  · exact ⟨fun b => by
      cases b <;> exact ⟨fun _ _ => rfl, fun _ => rfl, fun h => by rcases h with h | h <;> exact absurd h (by decide +kernel),
        fun h => absurd rfl h, fun _ h => absurd h (by decide +kernel), fun h => absurd rfl h⟩, by decide +kernel⟩
  · intro b; cases b <;> decide +kernel
  · exact ⟨by decide +kernel, by decide +kernel⟩
  · refine ⟨by decide +kernel, by decide +kernel, fun b => ?_, by decide +kernel, by decide +kernel, by decide +kernel,
      by decide +kernel, fun _ => rfl⟩
    cases b <;> decide +kernel

end Sys2Proof.Tests
end

/-! PROOFS. The order of the scan list (O32). The table's ranked places, each with its rank, its place number
and its port, are put in order as the model puts their ranks and ports; the scan list is the ports of that list without repetition. -/

namespace Sys2Proof.ScanOrder

open Sys2Proof Sys2Proof.Machine

/-! ## Places of a table -/

theorem place_some_le_length {α : Type} {l : List (Option α)} {n : Nat} {a : α} (h : place l n = some a) : n ≤ l.length := by
  cases n with
  | zero => exact Nat.zero_le _
  | succ k =>
    by_contra hk
    have hout : l.length ≤ k := by omega
    simp [place, List.getElem?_eq_none hout] at h

theorem place_concat_eq_some {α : Type} {l : List (Option α)} {o : Option α} {n : Nat} {a : α} :
    place (l ++ [o]) n = some a ↔ place l n = some a ∨ (n = l.length + 1 ∧ o = some a) := by
  cases n with
  | zero => simp [place]
  | succ k =>
    rcases Nat.lt_trichotomy k l.length with hk | rfl | hk
    · have hne : k ≠ l.length := hk.ne
      simp [place, List.getElem?_append_left hk, hne]
    · simp [place]
    · have hne : k ≠ l.length := hk.ne'
      have hout : (l ++ [o]).length ≤ k := by simp; omega
      simp [place, List.getElem?_eq_none hout, List.getElem?_eq_none hk.le, hne]

/-! ## The ranked ports as a fold over what the table gives -/

/-- What a place gives to the ranked ports: its rank and port, where it is filled and ranked. -/
def rankedEntry (o : Option Profile) : Option (Nat × VPort) := o.bind fun q => q.rank.map fun r => (r, q.port)

theorem rankedEntry_eq_some {o : Option Profile} {x : Nat × VPort} :
    rankedEntry o = some x ↔ ∃ q, o = some q ∧ q.port = x.2 ∧ q.rank = some x.1 := by
  obtain ⟨r, p⟩ := x
  simp only [rankedEntry, Option.bind_eq_some_iff, Option.map_eq_some_iff, Prod.mk.injEq]
  constructor
  · rintro ⟨q, hq, r', hr, rfl, hp⟩
    exact ⟨q, hq, hp, hr⟩
  · rintro ⟨q, hq, hp, hr⟩
    exact ⟨q, hq, r, hr, rfl, hp⟩

theorem rankedPorts_eq_foldl (l : List (Option Profile)) :
    rankedPorts l = (l.filterMap rankedEntry).foldl (fun acc x => insertRank x acc) [] := by
  rw [List.foldl_filterMap, rankedPorts]
  congr 1
  funext acc o
  cases o with
  | none => rfl
  | some q =>
    obtain ⟨port, cls, label, aspect, vTrim, hTrim, autoTilt, loss, rank⟩ := q
    cases rank <;> rfl

theorem rankedPorts_concat (l : List (Option Profile)) (o : Option Profile) :
    rankedPorts (l ++ [o]) = (rankedEntry o).elim (rankedPorts l) (fun x => insertRank x (rankedPorts l)) := by
  simp only [rankedPorts_eq_foldl, List.filterMap_append, List.foldl_append]
  cases h : rankedEntry o <;> simp [h]

/-- The scan list reads nothing of a profile but its port and its rank. -/
theorem scanListOf_congr {l m : List (Option Profile)}
    (h : l.map (Option.map (fun p => (p.port, p.rank))) = m.map (Option.map (fun p => (p.port, p.rank)))) :
    scanListOf l = scanListOf m := by
  have hentry : rankedEntry = (fun o => o.bind fun pr => pr.2.map fun r => (r, pr.1)) ∘
      Option.map (fun p : Profile => (p.port, p.rank)) := by
    funext o
    cases o <;> rfl
  have hranked : rankedPorts l = rankedPorts m := by
    simp only [rankedPorts_eq_foldl, hentry, ← List.filterMap_map, h]
  rw [scanListOf, scanListOf, hranked]

/-! ## The ranked places in order -/

/-- A filled place whose profile has a rank. -/
structure RankedPlace where
  rank : Nat
  num : Nat
  port : VPort

namespace RankedPlace

/-- What the model's ranked ports keep of a ranked place. -/
def key (e : RankedPlace) : Nat × VPort := (e.rank, e.port)

/-- The ranked place of a place number with what its place gives to the ranked ports. -/
def ofKey (n : Nat) (x : Nat × VPort) : RankedPlace := ⟨x.1, n, x.2⟩

theorem eq_ofKey_iff {e : RankedPlace} {n : Nat} {x : Nat × VPort} : e = ofKey n x ↔ e.num = n ∧ x = e.key := by
  obtain ⟨r, n', p⟩ := e
  obtain ⟨r', p'⟩ := x
  simp only [ofKey, key, RankedPlace.mk.injEq, Prod.mk.injEq]
  tauto

/-- By rank and then by place number (R80). -/
def Before (e x : RankedPlace) : Prop := e.rank < x.rank ∨ (e.rank = x.rank ∧ e.num < x.num)

/-- The table has this rank and port at this place. -/
def In (e : RankedPlace) (l : List (Option Profile)) : Prop :=
  ∃ q, place l e.num = some q ∧ q.port = e.port ∧ q.rank = some e.rank

theorem Before.rank_le {e x : RankedPlace} (h : e.Before x) : e.rank ≤ x.rank := by
  rcases h with h | h <;> omega

theorem In.num_le_length {e : RankedPlace} {l : List (Option Profile)} (h : e.In l) : e.num ≤ l.length := by
  obtain ⟨q, hq, -⟩ := h
  exact place_some_le_length hq

theorem in_concat {e : RankedPlace} {l : List (Option Profile)} {o : Option Profile} :
    e.In (l ++ [o]) ↔ e.In l ∨ (e.num = l.length + 1 ∧ rankedEntry o = some e.key) := by
  simp only [In, place_concat_eq_some, rankedEntry_eq_some, key]
  constructor
  · rintro ⟨q, hq | ⟨hn, ho⟩, hp, hr⟩
    · exact .inl ⟨q, hq, hp, hr⟩
    · exact .inr ⟨hn, q, ho, hp, hr⟩
  · rintro (⟨q, hq, hp, hr⟩ | ⟨hn, q, ho, hp, hr⟩)
    · exact ⟨q, .inl hq, hp, hr⟩
    · exact ⟨q, .inr ⟨hn, ho⟩, hp, hr⟩

/-- The model's `insertRank` on ranked places that still carry their numbers. -/
def insertPlace (e : RankedPlace) : List RankedPlace → List RankedPlace
  | [] => [e]
  | x :: k => if x.rank ≤ e.rank then x :: insertPlace e k else e :: x :: k

theorem map_key_insertPlace (e : RankedPlace) (k : List RankedPlace) : (insertPlace e k).map key = insertRank e.key (k.map key) := by
  induction k with
  | nil => rfl
  | cons x k ih =>
    by_cases h : x.rank ≤ e.rank
    · simpa [insertPlace, insertRank, key, h] using ih
    · simp [insertPlace, insertRank, key, h]

@[simp] theorem mem_insertPlace {e y : RankedPlace} {k : List RankedPlace} : y ∈ insertPlace e k ↔ y = e ∨ y ∈ k := by
  induction k with
  | nil => simp [insertPlace]
  | cons x k ih =>
    by_cases h : x.rank ≤ e.rank
    · simp only [insertPlace, if_pos h, List.mem_cons, ih]
      tauto
    · simp [insertPlace, if_neg h]

/-- A place with a higher number than all before it goes behind those of its own rank, so the order is kept. -/
theorem pairwise_insertPlace {e : RankedPlace} {k : List RankedPlace} (hk : k.Pairwise Before) (hnum : ∀ x ∈ k, x.num < e.num) :
    (insertPlace e k).Pairwise Before := by
  induction k with
  | nil => exact List.pairwise_singleton _ _
  | cons x k ih =>
    obtain ⟨hx, hk'⟩ := List.pairwise_cons.1 hk
    by_cases h : x.rank ≤ e.rank
    · have hxe : x.Before e := h.lt_or_eq.imp_right fun heq => ⟨heq, hnum x List.mem_cons_self⟩
      rw [insertPlace, if_pos h]
      refine List.pairwise_cons.2 ⟨fun y hy => ?_, ih hk' fun y hy => hnum y (List.mem_cons_of_mem x hy)⟩
      rcases mem_insertPlace.1 hy with rfl | hy
      · exact hxe
      · exact hx y hy
    · have hex : e.rank < x.rank := Nat.lt_of_not_le h
      rw [insertPlace, if_neg h]
      refine List.pairwise_cons.2 ⟨fun y hy => .inl ?_, hk⟩
      rcases List.mem_cons.1 hy with rfl | hy
      · exact hex
      · exact hex.trans_le (hx y hy).rank_le

end RankedPlace

open RankedPlace

/-- The ranked places of the table, in order, give the model's ranked ports. -/
theorem exists_rankedPlaces (l : List (Option Profile)) :
    ∃ k : List RankedPlace, rankedPorts l = k.map key ∧ k.Pairwise Before ∧ ∀ e, e ∈ k ↔ e.In l := by
  induction l using List.reverseRecOn with
  | nil => exact ⟨[], rfl, List.Pairwise.nil, fun e => by cases h : e.num <;> simp [In, place, h]⟩
  | append_singleton l o ih =>
    obtain ⟨k, hkey, hord, hmem⟩ := ih
    cases ho : rankedEntry o with
    | none => exact ⟨k, by simp [rankedPorts_concat, ho, hkey], hord, fun e => by simp [in_concat, ho, hmem]⟩
    | some x =>
      have hnum : ∀ y ∈ k, y.num < (ofKey (l.length + 1) x).num := fun y hy =>
        Nat.lt_succ_of_le ((hmem y).1 hy).num_le_length
      refine ⟨insertPlace (ofKey (l.length + 1) x) k, ?_, pairwise_insertPlace hord hnum, fun y => ?_⟩
      · rw [rankedPorts_concat, ho, map_key_insertPlace, hkey]
        rfl
      · rw [mem_insertPlace, in_concat, hmem, ho, eq_ofKey_iff, Option.some_inj, or_comm]

/-! ## Ports without repetition -/

theorem distinctPorts_cons_of_mem {x : VPort} {seen : List VPort} (l : List VPort) (h : x ∈ seen) :
    distinctPorts seen (x :: l) = distinctPorts seen l := if_pos h

theorem distinctPorts_cons_of_not_mem {x : VPort} {seen : List VPort} (l : List VPort) (h : x ∉ seen) :
    distinctPorts seen (x :: l) = x :: distinctPorts (x :: seen) l := if_neg h

theorem mem_distinctPorts {p : VPort} {seen l : List VPort} : p ∈ distinctPorts seen l ↔ p ∈ l ∧ p ∉ seen := by
  induction l generalizing seen with
  | nil => simp [distinctPorts]
  | cons x l ih =>
    by_cases h : x ∈ seen
    · have hne : p ∉ seen → p ≠ x := fun hp he => hp (he ▸ h)
      simp only [distinctPorts_cons_of_mem l h, ih, List.mem_cons]
      tauto
    · by_cases hp : p = x
      · simp [distinctPorts_cons_of_not_mem l h, hp, h]
      · simp [distinctPorts_cons_of_not_mem l h, ih, hp]

theorem nodup_distinctPorts (seen l : List VPort) : (distinctPorts seen l).Nodup := by
  induction l generalizing seen with
  | nil => exact List.nodup_nil
  | cons x l ih =>
    by_cases h : x ∈ seen
    · rw [distinctPorts_cons_of_mem l h]
      exact ih seen
    · rw [distinctPorts_cons_of_not_mem l h]
      exact List.nodup_cons.2 ⟨fun hx => (mem_distinctPorts.1 hx).2 List.mem_cons_self, ih _⟩

/-- Of an ordered list, the kept ports stand in the order of their first elements: the first element of a port stands before
every element of a port kept later. -/
theorem pairwise_distinctPorts {α : Type} {R : α → α → Prop} {f : α → VPort} (seen : List VPort) {k : List α} (hk : k.Pairwise R) :
    (distinctPorts seen (k.map f)).Pairwise (fun p p' => ∃ e ∈ k, f e = p ∧ ∀ e' ∈ k, f e' = p' → R e e') := by
  induction k generalizing seen with
  | nil => exact List.Pairwise.nil
  | cons x k ih =>
    obtain ⟨hx, hk'⟩ := List.pairwise_cons.1 hk
    have htail : ∀ seen', f x ∈ seen' → (distinctPorts seen' (k.map f)).Pairwise
        (fun p p' => ∃ e ∈ x :: k, f e = p ∧ ∀ e' ∈ x :: k, f e' = p' → R e e') := by
      intro seen' hseen
      refine (ih seen' hk').imp_of_mem ?_
      rintro p p' - hp' ⟨e, he, hep, hbefore⟩
      refine ⟨e, List.mem_cons_of_mem x he, hep, fun e' he' hep' => ?_⟩
      rcases List.mem_cons.1 he' with rfl | he'
      · exact absurd (hep' ▸ hseen) (mem_distinctPorts.1 hp').2
      · exact hbefore e' he' hep'
    by_cases h : f x ∈ seen
    · rw [List.map_cons, distinctPorts_cons_of_mem _ h]
      exact htail seen h
    · rw [List.map_cons, distinctPorts_cons_of_not_mem _ h]
      refine List.pairwise_cons.2 ⟨fun p' hp' => ⟨x, List.mem_cons_self, rfl, fun e' he' hep' => ?_⟩,
        htail _ List.mem_cons_self⟩
      rcases List.mem_cons.1 he' with rfl | he'
      · exact absurd (hep' ▸ List.mem_cons_self) (mem_distinctPorts.1 hp').2
      · exact hx e' he'

theorem length_le_eight_of_nodup {l : List VPort} (h : l.Nodup) : l.length ≤ 8 := by
  have hall : l ⊆ VPort.all := fun p _ => by cases p <;> decide
  exact (h.subperm hall).length_le

/-! ## The scan list -/

theorem mem_scanListOf {l : List (Option Profile)} {p : VPort} :
    p ∈ scanListOf l ↔ ∃ n q, place l n = some q ∧ q.port = p ∧ q.rank ≠ none := by
  obtain ⟨k, hkey, -, hmem⟩ := exists_rankedPlaces l
  have hports : p ∈ scanListOf l ↔ ∃ e : RankedPlace, e.In l ∧ e.port = p := by
    simp [scanListOf, mem_distinctPorts, hkey, key, hmem]
  rw [hports]
  constructor
  · rintro ⟨e, ⟨q, hq, hp, hr⟩, rfl⟩
    exact ⟨e.num, q, hq, hp, by simp [hr]⟩
  · rintro ⟨n, q, hq, hp, hr⟩
    obtain ⟨r, hr⟩ := Option.ne_none_iff_exists'.1 hr
    exact ⟨⟨r, n, p⟩, ⟨q, hq, hp, hr⟩, rfl⟩

theorem pairwise_scanListOf (l : List (Option Profile)) :
    (scanListOf l).Pairwise (fun p p' => ∃ n q r, place l n = some q ∧ q.port = p ∧ q.rank = some r ∧
      ∀ n' q' r', place l n' = some q' → q'.port = p' → q'.rank = some r' → r < r' ∨ (r = r' ∧ n < n')) := by
  obtain ⟨k, hkey, hord, hmem⟩ := exists_rankedPlaces l
  have hports : (rankedPorts l).map Prod.snd = k.map RankedPlace.port := by
    rw [hkey, List.map_map]
    rfl
  rw [scanListOf, hports]
  refine (pairwise_distinctPorts [] hord).imp ?_
  rintro p p' ⟨e, he, rfl, hbefore⟩
  obtain ⟨q, hq, hp, hr⟩ := (hmem e).1 he
  exact ⟨e.num, q, e.rank, hq, hp, hr, fun n' q' r' hq' hp' hr' => hbefore ⟨r', n', p'⟩ ((hmem _).2 ⟨q', hq', hp', hr'⟩) rfl⟩

theorem scanReady_eq_false_of_scanList_nil {s : State} (h : scanList s = []) : scanReady s = false := by
  simp [scanReady, h]

/-! ## PROFINFO without an argument -/

theorem exec_profinfoTable (snd : Sender) (s : State) :
    exec (.profinfoTable snd) s = run snd ["PROFINFO"] (cmdProfinfoTable snd) s := rfl

theorem wordsOrNone_map {α : Type} [DecidableEq α] (f : α → String) (l : List α) :
    wordsOrNone (l.map f) = if l = [] then ["NONE"] else l.map f := by
  cases l <;> simp [wordsOrNone]

theorem cmdProfinfoTable_eq (snd : Sender) (s : State) :
    cmdProfinfoTable snd s =
      ⟨s, ["OK", "PROFILES"] ++ wordsOrNone ((filled s.work.profiles).map showNat) ++ ["SCAN"] ++
        (if scanListOf s.work.profiles = [] then ["NONE"] else (scanListOf s.work.profiles).map showPort), 0, none⟩ := by
  rw [cmdProfinfoTable, wordsOrNone_map showPort, scanList]
  rfl

/-- Settles O32. The order rests on the ranked places kept in order as the table is read, and on the ports of an ordered list
kept once each, at the first. That PROFINFO answers SCAN NONE where no filled place has a rank is the model's own choice
(notes/assumptions/33.md). -/
theorem scanListOrder : Obligations.ScanListOrder := by
  refine ⟨fun l => ?_, fun l m => scanListOf_congr, fun s => ⟨rfl, scanReady_eq_false_of_scanList_nil⟩, fun s snd h => ?_⟩
  · have hnodup : (scanListOf l).Nodup := nodup_distinctPorts [] _
    exact ⟨hnodup, length_le_eight_of_nodup hnodup, fun p => mem_scanListOf, pairwise_scanListOf l⟩
  · refine ⟨wordsOrNone ((filled s.work.profiles).map showNat), ?_⟩
    rw [exec_profinfoTable, run_verb h, cmdProfinfoTable_eq, nextEvent_work]

end Sys2Proof.ScanOrder

/-! PROOFS. The corner set and the scale of a computation (O40). A computation settles its totals within the limits and puts the
corners from them; handing the set over moves the warp link alone. The corners and the scale are then facts of the two totals. -/

namespace Sys2Proof.Keystone

open Sys2Proof.Machine

/-! ## Handing a set over (R112) -/

theorem handOver_of_idle {s : State} (hfree : s.geo.inFlight = none) :
    handOver s =
      if s.geo.appliedSet = some s.geo.computed then { s with geo := { s.geo with nextSlot := none } }
      else sendSet s.geo.computed { s with geo := { s.geo with nextSlot := none } } := by
  simp [handOver, hfree]

theorem handOver_of_inFlight {s : State} {c : Corners} {u : Nat} (hbusy : s.geo.inFlight = some (c, u)) :
    handOver s =
      { s with geo := { s.geo with nextSlot := if s.geo.computed = c then none else some s.geo.computed } } := by
  simp [handOver, hbusy]

/-- Only the link's two slots move. -/
theorem handOver_geo (s : State) :
    (handOver s).geo =
      { s.geo with inFlight := (handOver s).geo.inFlight, nextSlot := (handOver s).geo.nextSlot } := by
  cases hlink : s.geo.inFlight with
  | none =>
    rw [handOver_of_idle hlink]
    split <;> rfl
  | some sent => rw [handOver_of_inFlight hlink]

@[simp] theorem handOver_v (s : State) : (handOver s).geo.v = s.geo.v := by rw [handOver_geo]
@[simp] theorem handOver_h (s : State) : (handOver s).geo.h = s.geo.h := by rw [handOver_geo]
@[simp] theorem handOver_computed (s : State) : (handOver s).geo.computed = s.geo.computed := by rw [handOver_geo]

/-- The link has the set `c`: in flight, next in turn behind another, or applied. -/
def OnLink (g : Geo) (c : Corners) : Prop :=
  (∃ u, g.inFlight = some (c, u)) ∨ (g.inFlight ≠ none ∧ g.nextSlot = some c) ∨ g.appliedSet = some c

theorem handOver_onLink (s : State) : OnLink (handOver s).geo s.geo.computed := by
  cases hlink : s.geo.inFlight with
  | none =>
    rw [handOver_of_idle hlink]
    by_cases happ : s.geo.appliedSet = some s.geo.computed
    · rw [if_pos happ]
      exact .inr (.inr happ)
    · rw [if_neg happ]
      exact .inl ⟨s.uptime, rfl⟩
  | some sent =>
    obtain ⟨c, u⟩ := sent
    rw [handOver_of_inFlight hlink]
    by_cases hsame : s.geo.computed = c
    · exact .inl ⟨u, hsame ▸ hlink⟩
    · exact .inr (.inl ⟨by simp [hlink], if_neg hsame⟩)

/-! ## The totals of a computation (R109) -/

theorem abs_clampInt_le (n : Nat) (x : Int) : |clampInt (-n) n x| ≤ n := by
  rw [abs_le, clampInt]
  omega

theorem computation_abs_v_le (s : State) : |(computation s).geo.v| ≤ s.work.limV := by
  rw [computation, handOver_v]
  exact abs_clampInt_le _ _

theorem computation_abs_h_le (s : State) : |(computation s).geo.h| ≤ s.work.limH := by
  rw [computation, handOver_h]
  exact abs_clampInt_le _ _

theorem computation_computed (s : State) :
    (computation s).geo.computed = cornersOf (computation s).geo.v (computation s).geo.h (aspectInUse s) := by
  simp only [computation, handOver_v, handOver_h, handOver_computed]
  rfl

theorem computation_onLink (s : State) : OnLink (computation s).geo (computation s).geo.computed := by
  rw [computation, handOver_computed]
  exact handOver_onLink _

/-! ## The corners (R110) -/

section Corners

variable {v h : Int} (a : Aspect)

theorem cornersOf_top_narrowed (hv : 0 < v) :
    (cornersOf v h a).tlX = 8 * |v| ∧ (cornersOf v h a).trX = 1919 - 8 * |v| ∧ (cornersOf v h a).blX = 0 ∧
      (cornersOf v h a).brX = 1919 := by
  simp [cornersOf, hv, hv.le]

theorem cornersOf_bottom_narrowed (hv : v < 0) :
    (cornersOf v h a).blX = 8 * |v| ∧ (cornersOf v h a).brX = 1919 - 8 * |v| ∧ (cornersOf v h a).tlX = 0 ∧
      (cornersOf v h a).trX = 1919 := by
  simp [cornersOf, hv, hv.le]

theorem cornersOf_full_width (hv : v = 0) :
    (cornersOf v h a).tlX = 0 ∧ (cornersOf v h a).blX = 0 ∧ (cornersOf v h a).trX = 1919 ∧ (cornersOf v h a).brX = 1919 := by
  simp [cornersOf, hv]

theorem cornersOf_right_shortened (hh : 0 < h) :
    (cornersOf v h a).trY = 6 * |h| ∧ (cornersOf v h a).brY = 1199 - 6 * |h| ∧ (cornersOf v h a).tlY = 0 ∧
      (cornersOf v h a).blY = 1199 := by
  simp [cornersOf, hh, hh.le]

theorem cornersOf_left_shortened (hh : h < 0) :
    (cornersOf v h a).tlY = 6 * |h| ∧ (cornersOf v h a).blY = 1199 - 6 * |h| ∧ (cornersOf v h a).trY = 0 ∧
      (cornersOf v h a).brY = 1199 := by
  simp [cornersOf, hh, hh.le]

theorem cornersOf_full_height (hh : h = 0) :
    (cornersOf v h a).tlY = 0 ∧ (cornersOf v h a).trY = 0 ∧ (cornersOf v h a).blY = 1199 ∧ (cornersOf v h a).brY = 1199 := by
  simp [cornersOf, hh]

end Corners

theorem aspectInUse_of_none {s : State} (hp : profileOf s s.sel.active = none) : aspectInUse s = .r16x10 := by
  simp [aspectInUse, hp]

theorem aspectInUse_of_some {s : State} {p : Profile} (hp : profileOf s s.sel.active = some p) : aspectInUse s = p.aspect := by
  simp [aspectInUse, hp]

/-! ## The scale (R111) -/

/-- The scale as a floor over the whole numbers; the two lengths are not negative within the limits of R115. -/
theorem scaleOf_eq_min {v h : Int} (hv : |v| ≤ 40) (hh : |h| ≤ 30) :
    (scaleOf v h : Int) = min (1000 * (1920 - 2 * (8 * |v|)) / 1920) (1000 * (1200 - 2 * (6 * |h|)) / 1200) := by
  simp only [Int.abs_eq_natAbs] at *
  rw [scaleOf]
  omega

/-! ## The replies that carry the scale -/

theorem scale_ends_nudgeFields (s : State) : ["SCALE", showNat (scaleOf s.geo.v s.geo.h)] <:+ nudgeFields s :=
  ⟨(nudgeFields s).take 9, rfl⟩

theorem scale_in_geoinfoFields (s : State) : ["SCALE", showNat (scaleOf s.geo.v s.geo.h)] <:+: geoinfoFields s :=
  ⟨(geoinfoFields s).take 40, (geoinfoFields s).drop 42, rfl⟩

/-- Settles O40: what a computation leaves is read off its two totals, which `computation_abs_v_le` and `computation_abs_h_le`
bound by 40 and 30. -/
theorem cornersAndScale : Obligations.CornersAndScale := by
  intro s hlimV hlimH t c dv dh width height scale
  have hv : |t.geo.v| ≤ 40 := (computation_abs_v_le s).trans (by exact_mod_cast hlimV)
  have hh : |t.geo.h| ≤ 30 := (computation_abs_h_le s).trans (by exact_mod_cast hlimH)
  have hv0 : 0 ≤ |t.geo.v| := abs_nonneg _
  have hh0 : 0 ≤ |t.geo.h| := abs_nonneg _
  have hc : c = cornersOf t.geo.v t.geo.h (aspectInUse s) := computation_computed s
  have hscale : scale = min (1000 * width / 1920) (1000 * height / 1200) := scaleOf_eq_min hv hh
  have hdv : dv = 8 * |t.geo.v| := rfl
  have hdh : dh = 6 * |t.geo.h| := rfl
  have hwidth : width = 1920 - 2 * dv := rfl
  have hheight : height = 1200 - 2 * dh := rfl
  clear_value c scale width height dv dh
  subst hc
  refine ⟨by omega, fun hpos => ?_, fun hneg => ?_, cornersOf_full_width _, fun hpos => ?_, fun hneg => ?_,
    cornersOf_full_height _, aspectInUse_of_none, fun p => aspectInUse_of_some, ?_, by omega, fun hv1 hh1 => ?_, by omega,
    by omega, by omega, scale_ends_nudgeFields t, scale_in_geoinfoFields t⟩
  · obtain ⟨htl, htr, hbl, hbr⟩ := cornersOf_top_narrowed (h := t.geo.h) (aspectInUse s) hpos
    omega
  · obtain ⟨hbl, hbr, htl, htr⟩ := cornersOf_bottom_narrowed (h := t.geo.h) (aspectInUse s) hneg
    omega
  · obtain ⟨htr, hbr, htl, hbl⟩ := cornersOf_right_shortened (v := t.geo.v) (aspectInUse s) hpos
    omega
  · obtain ⟨htl, hbl, htr, hbr⟩ := cornersOf_left_shortened (v := t.geo.v) (aspectInUse s) hneg
    omega
  · rw [← computation_computed s]
    exact computation_onLink s
  · rw [hv1, abs_zero] at hdv
    rw [hh1, abs_zero] at hdh
    omega

end Sys2Proof.Keystone

/-! PROOFS. What every step keeps (O57 to O60). Two relations carry the four invariants through an event: `Keeps s t` says what any
part of an event hands on, and `Stays s t` what holds again once the state has settled. Each operation of the model has one lemma
that says that it keeps, and each event and command one that says that the state stays sound. -/

namespace Sys2Proof.Upkeep

open Sys2Proof Sys2Proof.Machine

set_option Elab.async false

/-! ## The parts of the invariants -/

/-- No advisory entry is Latched (R178). -/
def unlatched (s : State) : Prop := ∀ f : FaultId, f.actionable = false → s.faults.get f ≠ .latched

/-- The debts and credits are in range, never both above 0 (R55, R56). -/
def debtsSound (m : BayMode) : Prop := m.debt ≤ 4 ∧ m.credit ≤ 2 ∧ (m.debt = 0 ∨ m.credit = 0)

/-- A nudge is in range (R114). -/
def nudgeSound (x : Int) : Prop := -10 ≤ x ∧ x ≤ 10

/-- The idle timer is 0 wherever it does not run (R151). -/
def idleSound (s : State) : Prop :=
  s.lamp.count = 0 ∨ s.sched.active ≠ none ∨ s.sched.upcoming ≠ none ∨ s.sel.st = .settled → s.sched.idle = 0

theorem countsSound_iff (s : State) :
    countsSound s ↔ s.lock.attempts ≤ 5 ∧ s.comms.errCount ≤ 255 ∧ (∀ b, debtsSound (bayMode s b)) ∧ nudgeSound s.geo.vAdj ∧
      nudgeSound s.geo.hAdj ∧ s.geo.ring.length = 4 ∧ s.geo.invalidRun ≤ 20 ∧ idleSound s := Iff.rfl

/-- What a part of an event hands on from one state to the next. -/
structure Keeps (s t : State) : Prop where
  igniter : igniterSound s → igniterSound t
  notices : noticesSound s → noticesSound t
  latch : unlatched s → unlatched t
  attempts : s.lock.attempts ≤ 5 → t.lock.attempts ≤ 5
  errors : s.comms.errCount ≤ 255 → t.comms.errCount ≤ 255
  debts : (∀ b, debtsSound (bayMode s b)) → ∀ b, debtsSound (bayMode t b)
  nudges : nudgeSound s.geo.vAdj ∧ nudgeSound s.geo.hAdj → nudgeSound t.geo.vAdj ∧ nudgeSound t.geo.hAdj
  tilts : s.geo.ring.length = 4 ∧ s.geo.invalidRun ≤ 20 → t.geo.ring.length = 4 ∧ t.geo.invalidRun ≤ 20

/-- What a whole event hands on. -/
structure Stays (s t : State) : Prop extends Keeps s t where
  faults : faultsSound s → faultsSound t
  modes : modesSound s → modesSound t
  idle : idleSound s → idleSound t

theorem Keeps.refl (s : State) : Keeps s s := ⟨id, id, id, id, id, id, id, id⟩

theorem Keeps.trans {s t u : State} (h : Keeps s t) (k : Keeps t u) : Keeps s u :=
  ⟨k.igniter ∘ h.igniter, k.notices ∘ h.notices, k.latch ∘ h.latch, k.attempts ∘ h.attempts, k.errors ∘ h.errors, k.debts ∘ h.debts,
    k.nudges ∘ h.nudges, k.tilts ∘ h.tilts⟩

theorem Stays.refl (s : State) : Stays s s := ⟨.refl s, id, id, id⟩

theorem Stays.trans {s t u : State} (h : Stays s t) (k : Stays t u) : Stays s u :=
  ⟨h.toKeeps.trans k.toKeeps, k.faults ∘ h.faults, k.modes ∘ h.modes, k.idle ∘ h.idle⟩

/-- A part of an event that touches nothing of the invariants. -/
theorem Keeps.of_same {s t : State} (hlamp : t.lamp = s.lamp := by simp) (hnotices : t.notices = s.notices := by simp)
    (hfaults : t.faults = s.faults := by simp) (hattempts : t.lock.attempts = s.lock.attempts := by simp)
    (herrors : t.comms.errCount = s.comms.errCount := by simp) (hmode : t.mode.bays = s.mode.bays := by simp)
    (hv : t.geo.vAdj = s.geo.vAdj := by simp) (hh : t.geo.hAdj = s.geo.hAdj := by simp) (hring : t.geo.ring = s.geo.ring := by simp)
    (hrun : t.geo.invalidRun = s.geo.invalidRun := by simp) : Keeps s t where
  igniter := by simp only [igniterSound, bay, hlamp]; exact id
  notices := by simp only [noticesSound, hnotices]; exact id
  latch := by simp only [unlatched, hfaults]; exact id
  attempts := by rw [hattempts]; exact id
  errors := by rw [herrors]; exact id
  debts := by simp only [bayMode, hmode]; exact id
  nudges := by rw [hv, hh]; exact id
  tilts := by rw [hring, hrun]; exact id

/-- The same for a part that moves the lamps. -/
theorem Keeps.of_lamps {s t : State} (hlamp : igniterSound s → igniterSound t) (hnotices : t.notices = s.notices := by simp)
    (hfaults : t.faults = s.faults := by simp) (hattempts : t.lock.attempts = s.lock.attempts := by simp)
    (herrors : t.comms.errCount = s.comms.errCount := by simp) (hmode : t.mode.bays = s.mode.bays := by simp)
    (hgeo : t.geo = s.geo := by simp) : Keeps s t where
  igniter := hlamp
  notices := by simp only [noticesSound, hnotices]; exact id
  latch := by simp only [unlatched, hfaults]; exact id
  attempts := by rw [hattempts]; exact id
  errors := by rw [herrors]; exact id
  debts := by simp only [bayMode, hmode]; exact id
  nudges := by rw [hgeo]; exact id
  tilts := by rw [hgeo]; exact id

/-! ## Notices -/

theorem exists_lowestPrio {q : List Notice} (h : q ≠ []) : ∃ m ∈ q, m.kind.prio = lowestPrio q := by
  induction q with
  | nil => exact absurd rfl h
  | cons n q ih =>
    have hlow : lowestPrio (n :: q) = min n.kind.prio (lowestPrio q) := rfl
    have hn : n.kind.prio ≤ 3 := by cases n.kind <;> decide
    rcases le_total n.kind.prio (lowestPrio q) with hle | hle
    · exact ⟨n, by simp, by omega⟩
    · cases q with
      | nil => exact absurd hle (by simp only [lowestPrio, List.foldr_nil]; omega)
      | cons x q =>
        obtain ⟨m, hm, he⟩ := ih (by simp)
        exact ⟨m, by simp [hm], by omega⟩

theorem dropNewest_sublist (p : Nat) (q : List Notice) : (dropNewest p q).Sublist q := by
  have h := (List.eraseP_sublist (p := fun n : Notice => n.kind.prio == p) (l := q.reverse)).reverse
  rwa [List.reverse_reverse] at h

theorem length_dropNewest {p : Nat} {q : List Notice} (h : ∃ m ∈ q, m.kind.prio = p) :
    (dropNewest p q).length = q.length - 1 := by
  obtain ⟨m, hm, he⟩ := h
  simp only [dropNewest, List.length_reverse]
  rw [List.length_eraseP_of_mem (List.mem_reverse.2 hm) (by simp [he]), List.length_reverse]

theorem length_put_le {n : Notice} {q : NoticeQ} (h : q.queue.length ≤ 8) : (q.put n).queue.length ≤ 8 := by
  unfold NoticeQ.put
  split
  · simpa using h
  · split
    · simp only [List.length_append, List.length_singleton]; omega
    · split
      · rename_i hfull _
        have hne : q.queue ≠ [] := by rintro he; simp [he] at hfull
        simp only [List.length_append, List.length_singleton, length_dropNewest (exists_lowestPrio hne)]
        omega
      · exact h

theorem same_iff {x y : Notice} : x.same y = true ↔ x.kind = y.kind ∧ x.subject = y.subject := by
  simp [Notice.same]

/-- A queue without two of one kind and subject stays so, when its notices are put in the place of their like. -/
theorem pairwise_replace {n : Notice} {q : List Notice} (h : q.Pairwise (fun x y => x.same y = false)) :
    (q.map (fun m => if n.same m then n else m)).Pairwise (fun x y => x.same y = false) := by
  refine h.map _ fun x y hxy => ?_
  have hkey (m : Notice) : (if n.same m then n else m).kind = m.kind ∧ (if n.same m then n else m).subject = m.subject := by
    split
    · exact same_iff.1 ‹_›
    · exact ⟨rfl, rfl⟩
  rw [Bool.eq_false_iff] at *
  rw [ne_eq, same_iff] at *
  rwa [(hkey x).1, (hkey x).2, (hkey y).1, (hkey y).2]

theorem pairwise_concat {n : Notice} {q l : List Notice} (h : q.Pairwise (fun x y => x.same y = false))
    (hn : q.any n.same = false) (hl : l.Sublist q) : (l ++ [n]).Pairwise (fun x y => x.same y = false) := by
  rw [List.pairwise_append]
  refine ⟨h.sublist hl, by simp, fun x hx y hy => ?_⟩
  rw [List.mem_singleton.1 hy]
  have hx' : n.same x = false := by simpa using List.any_eq_false.1 hn x (hl.mem hx)
  rw [Bool.eq_false_iff, ne_eq, same_iff] at *
  exact fun e => hx' ⟨e.1.symm, e.2.symm⟩

/-- A notice that is placed leaves the queue sound (R181). -/
theorem put_sound (n : Notice) {q : NoticeQ}
    (h : q.queue.length ≤ 8 ∧ q.queue.Pairwise (fun x y => x.same y = false)) :
    (q.put n).queue.length ≤ 8 ∧ (q.put n).queue.Pairwise (fun x y => x.same y = false) := by
  refine ⟨length_put_le h.1, ?_⟩
  unfold NoticeQ.put
  split
  · exact pairwise_replace h.2
  · have hn : q.queue.any n.same = false := eq_false_of_ne_true ‹_›
    split
    · exact pairwise_concat h.2 hn (.refl _)
    · split
      · exact pairwise_concat h.2 hn (dropNewest_sublist _ _)
      · exact h.2

theorem foldl_put_sound {α : Type} (f : α → Notice) (l : List α) {q : NoticeQ}
    (h : q.queue.length ≤ 8 ∧ q.queue.Pairwise (fun x y => x.same y = false)) :
    (l.foldl (fun q a => q.put (f a)) q).queue.length ≤ 8 ∧
      (l.foldl (fun q a => q.put (f a)) q).queue.Pairwise (fun x y => x.same y = false) := by
  induction l generalizing q with
  | nil => exact h
  | cons a l ih => exact ih (put_sound (f a) h)

theorem notify_keeps (k : NoticeKind) (x : Subject) (l : List String) (s : State) : Keeps s (notify k x l s) :=
  { Keeps.of_same (s := s) (t := s) with notices := put_sound _ }

theorem lampNotice_keeps (b : Bay) (st : BaySt) (s : State) : Keeps s (lampNotice b st s) := notify_keeps ..

theorem lockNotice_keeps (s : State) : Keeps s (lockNotice s) := notify_keeps ..

theorem sourceNotice_keeps (s : State) : Keeps s (sourceNotice s) := notify_keeps ..

theorem withLock_keeps {f : State → State} {s : State} (h : Keeps s (f s)) : Keeps s (withLock f s) := by
  unfold withLock
  dsimp only
  split
  · exact h
  · exact h.trans (lockNotice_keeps _)

/-! ## Settling -/

theorem syncMode_keeps (s : State) : Keeps s (syncMode s) where
  igniter := id
  notices := id
  latch := id
  attempts := id
  errors := id
  debts h b := by cases b <;> exact h _
  nudges := id
  tilts := id

theorem syncWaiters_keeps (s : State) : Keeps s (syncWaiters s) :=
  .of_lamps fun h b => by cases b <;> exact h _

theorem syncFan_keeps (s : State) : Keeps s (syncFan s) := .of_same

theorem syncScan_keeps (s : State) : Keeps s (syncScan s) := .of_same

theorem syncIdle_keeps (s : State) : Keeps s (syncIdle s) := .of_same

theorem follow_keeps (s : State) : Keeps s (follow s) :=
  (syncMode_keeps s).trans ((syncFan_keeps _).trans ((syncScan_keeps _).trans ((syncIdle_keeps _).trans (syncWaiters_keeps _))))

theorem move_unlatched (c : Bool) {e : FaultSt} (h : e ≠ .latched) : e.move false c ≠ .latched := by
  cases c <;> cases e <;> simp_all [FaultSt.move]

theorem move_active_iff (a c : Bool) (e : FaultSt) : e.move a c = .active ↔ c = true := by
  cases c <;> cases e <;> cases a <;> simp [FaultSt.move]

theorem syncFaults_keeps (s : State) : Keeps s (syncFaults s) :=
  { Keeps.of_same (s := s) (t := s) with
    notices := foldl_put_sound faultNotice _
    latch := fun h f hf => by
      simp only [syncFaults, movedFaults, FaultTable.get_make, hf]
      exact move_unlatched _ (h f hf) }

theorem settle_keeps (s : State) : Keeps s (settle s) := (follow_keeps s).trans (syncFaults_keeps _)

theorem faultCond_syncFaults (s : State) (f : FaultId) : faultCond (syncFaults s) f = faultCond s f := by cases f <;> rfl

/-- The Fault Table follows the conditions in the state that settling leaves. -/
theorem settle_faultsSound {s : State} (h : unlatched s) : faultsSound (settle s) := by
  refine fun f => ⟨?_, (settle_keeps s).latch h f⟩
  rw [settle, faultCond_syncFaults]
  simp only [syncFaults, movedFaults, FaultTable.get_make]
  exact move_active_iff ..

theorem settle_fan (s : State) : (settle s).heat.fan = fanChoice s := by
  have hm : fanChoice (syncMode s) = fanChoice s := rfl
  rw [settle_eq, syncFaults_heat, syncWaiters_heat, syncIdle_heat, syncScan_heat]
  unfold syncFan
  split
  · rw [← hm, ‹fanChoice _ = _›]
  · exact hm

/-- The thermal ceiling of a state below Shutdown (R51). -/
def hotCeiling (s : State) : LampMode :=
  if s.heat.level = .warn ∨ s.heat.sensorFault = true ∨ s.heat.stall = true then .eco else .full

theorem thermalCeiling_eq (s : State) : thermalCeiling s = if s.heat.level = .shutdown then none else some (hotCeiling s) := by
  unfold thermalCeiling hotCeiling
  split
  · rfl
  · split <;> rfl

/-- The Mode Unit's part for a bay, as `modesSound` asks for it. -/
def bayModeSound (s : State) (b : Bay) (m : BayMode) : Prop :=
  ((bay s b).st ≠ .warming → (bay s b).st ≠ .lit → m.effective = none) ∧
  (s.heat.level = .shutdown → m.effective = none) ∧
  ((bay s b).st = .warming ∨ (bay s b).st = .lit → s.heat.level ≠ .shutdown → m.effective = some (match m.override with
    | .none => (s.mode.requested.lower (facilityCeiling s)).lower (hotCeiling s)
    | .normal => (facilityCeiling s).lower (hotCeiling s)
    | .forced => hotCeiling s)) ∧
  (m.override ≠ .none → (bay s b).st = .lit ∧ 0 < m.debt ∧ s.heat.level ≠ .shutdown ∧ hotCeiling s = .full ∧
    (m.override = .forced ↔ 4 ≤ m.debt) ∧ (m.override = .normal → facilityCeiling s = .full)) ∧
  (m.override = .none → (bay s b).st = .lit → 0 < m.debt → s.heat.level ≠ .shutdown → hotCeiling s = .full →
    m.debt < 4 ∧ (facilityCeiling s ≠ .full ∨
      ∃ bk, runningBooking s = some bk ∧ (bk.mode = some .standard ∨ bk.mode = some .eco))) ∧
  (m.run ≠ 0 → (bay s b).st = .lit ∧ m.effective = some .full)

theorem modesSound_iff (s : State) :
    modesSound s ↔ (∀ b, bayModeSound s b (bayMode s b)) ∧
      s.heat.fan = (if (bay s .bayA).st = .cooling ∨ (bay s .bayB).st = .cooling ∨ s.heat.level ≠ .normal ∨
          s.heat.sensorFault = true then .high
        else if (bay s .bayA).st.inUse = true ∨ (bay s .bayB).st.inUse = true then .normal else .low) := Iff.rfl

theorem burning_iff (st : BaySt) : st.burning = true ↔ st = .warming ∨ st = .lit := by cases st <;> simp [BaySt.burning]

theorem postponed_iff (s : State) (b : Bay) :
    postponed s b = true ↔ (bayMode s b).debt < 4 ∧ (facilityCeiling s ≠ .full ∨
      ∃ bk, runningBooking s = some bk ∧ (bk.mode = some .standard ∨ bk.mode = some .eco)) := by
  unfold postponed
  cases runningBooking s <;> simp

theorem overrideKind_ne_none (n : Nat) : overrideKind n ≠ .none := by
  unfold overrideKind
  split <;> simp

/-- What an override that stands after the evaluation calls for (R57 to R59). -/
theorem nextOverride_stands {s : State} {b : Bay} (h : nextOverride s b ≠ .none) :
    nextOverride s b = overrideKind (bayMode s b).debt ∧ (bay s b).st = .lit ∧ thermalCeiling s = some .full ∧
      0 < (bayMode s b).debt ∧ (4 ≤ (bayMode s b).debt ∨ facilityCeiling s = .full) := by
  by_cases hold : (bayMode s b).override = .none
  · rw [nextOverride, if_pos hold] at *
    split at h
    · rename_i hgo
      rw [if_pos hgo]
      simp only [overrideMayStart, Bool.and_eq_true, beq_iff_eq, decide_eq_true_eq, Bool.not_eq_true',
        Bool.eq_false_iff, ne_eq, postponed_iff, not_and, not_or, not_not] at hgo
      obtain ⟨⟨⟨hlit, hdebt⟩, hfull⟩, hnot⟩ := hgo
      exact ⟨rfl, hlit, hfull, hdebt, (Nat.lt_or_ge _ 4).symm.imp_right fun hlt => (hnot hlt).1⟩
    · exact absurd rfl h
  · rw [nextOverride, if_neg hold] at *
    split at h
    · rename_i hgo
      rw [if_pos hgo]
      simp only [overrideGoesOn, Bool.and_eq_true, Bool.or_eq_true, beq_iff_eq, decide_eq_true_eq] at hgo
      obtain ⟨⟨⟨hlit, hfull⟩, hdebt⟩, hkind⟩ := hgo
      refine ⟨rfl, hlit, hfull, hdebt, hkind.imp_left fun hk => ?_⟩
      by_contra hlt
      simp [overrideKind, hlt] at hk
    · exact absurd rfl h

/-- A Lit bay with a debt and a thermal ceiling of Full is without an override only where one is postponed (R57, R59). -/
theorem nextOverride_none {s : State} {b : Bay} (h : nextOverride s b = .none) (hlit : (bay s b).st = .lit)
    (hdebt : 0 < (bayMode s b).debt) (hfull : thermalCeiling s = some .full) : postponed s b = true := by
  by_cases hold : (bayMode s b).override = .none
  · rw [nextOverride, if_pos hold] at h
    split at h
    · exact absurd h (overrideKind_ne_none _)
    · rename_i hgo
      simpa [overrideMayStart, hlit, hdebt, hfull] using hgo
  · rw [nextOverride, if_neg hold] at h
    split at h
    · exact absurd h (overrideKind_ne_none _)
    · rename_i hgo
      simp only [overrideGoesOn, hlit, hdebt, hfull, beq_self_eq_true, decide_true, Bool.true_and, Bool.or_eq_true, beq_iff_eq,
        not_or] at hgo
      rw [postponed_iff]
      refine ⟨?_, .inl hgo.2⟩
      by_contra hlt
      exact hgo.1 (by rw [overrideKind, if_pos (Nat.not_lt.1 hlt)])

theorem evalMode_sound (s : State) (b : Bay) : bayModeSound s b (evalMode s b) := by
  have hoff : (bay s b).st.burning = false → nextEffective s b = none := fun h => by simp [nextEffective, h]
  have hceil := thermalCeiling_eq s
  refine ⟨fun hw hl => hoff ?_, fun hs => ?_, fun hb hs => ?_, fun ho => ?_, fun ho hl hd hs hf => ?_, fun hr => ?_⟩
  · rw [Bool.eq_false_iff, ne_eq, burning_iff]; exact fun h => h.elim hw hl
  · rw [if_pos hs] at hceil
    show nextEffective s b = none
    simp [nextEffective, modeUnder, hceil]
  · rw [if_neg hs] at hceil
    show nextEffective s b = some _
    rw [nextEffective, if_pos ((burning_iff _).2 hb), modeUnder, hceil]
    show _ = some (match nextOverride s b with | .none => _ | .normal => _ | .forced => _)
    cases nextOverride s b <;> rfl
  · obtain ⟨hk, hlit, hfull, hdebt, hor⟩ := nextOverride_stands ho
    have hs : s.heat.level ≠ .shutdown := fun h => by simp [hceil, h] at hfull
    rw [hceil, if_neg hs] at hfull
    refine ⟨hlit, hdebt, hs, Option.some.inj hfull, ?_, fun hn => hor.resolve_left fun h4 => ?_⟩
    · show nextOverride s b = .forced ↔ 4 ≤ (bayMode s b).debt
      rw [hk, overrideKind]; split <;> simp_all
    · have hn' : nextOverride s b = .normal := hn
      rw [hk, overrideKind, if_pos h4] at hn'
      exact absurd hn' (by decide)
  · exact (postponed_iff s b).1 (nextOverride_none ho hl hd (by rw [hceil, if_neg hs, hf]))
  · have hr' : (if (bay s b).st = .lit ∧ nextEffective s b = some .full then (bayMode s b).run else 0) ≠ 0 := hr
    split at hr'
    · assumption
    · exact absurd rfl hr'

theorem fanChoice_eq (s : State) :
    fanChoice s = (if (bay s .bayA).st = .cooling ∨ (bay s .bayB).st = .cooling ∨ s.heat.level ≠ .normal ∨
          s.heat.sensorFault = true then .high
        else if (bay s .bayA).st.inUse = true ∨ (bay s .bayB).st.inUse = true then .normal else .low) := by
  simp only [fanChoice, anyCooling, anyInUse, Bool.or_eq_true, beq_iff_eq, bne_iff_ne, ne_eq, or_assoc]

/-- The Mode Unit and the fan stand as the rules call for in the state that settling leaves. -/
theorem settle_modesSound (s : State) : modesSound (settle s) := by
  rw [modesSound_iff, settle_fan, fanChoice_eq]
  refine ⟨fun b => ?_, by simp⟩
  have h := evalMode_sound s b
  have hrun : runningBooking (settle s) = runningBooking s := runningBooking_of (by simp) (by simp)
  have hhot : hotCeiling (settle s) = hotCeiling s := by simp [hotCeiling]
  have hhall : facilityCeiling (settle s) = facilityCeiling s := by simp [facilityCeiling]
  unfold bayModeSound at *
  rw [bayMode_settle, hrun, hhot, hhall]
  simpa using h

theorem settle_idleSound (s : State) : idleSound (settle s) := by
  have hs : (settle s).sched.idle = (syncIdle (syncScan (syncFan (syncMode s)))).sched.idle := by
    rw [settle_eq, syncFaults_sched, syncWaiters_sched]
  have hsel : (settle s).sel = (syncScan (syncFan (syncMode s))).sel := by
    rw [settle_eq, syncFaults_sel, syncWaiters_sel, syncIdle_sel]
  intro h
  rw [settle_count, settle_active, settle_upcoming, hsel] at h
  rw [hs, syncIdle, if_pos (by simpa [Option.isSome_iff_ne_none] using h)]
  rfl

/-- After any part of an event that keeps the invariants, settling makes them hold in full. -/
theorem Keeps.settled {s x : State} (h : Keeps s x) : Stays s (settle x) :=
  { h.trans (settle_keeps x) with
    faults := fun hs => settle_faultsSound (h.latch fun f hf => (hs f).2 hf)
    modes := fun _ => settle_modesSound x
    idle := fun _ => settle_idleSound x }

end Sys2Proof.Upkeep

/-! PROOFS. What every step keeps (O57 to O60): one lemma for each operation of the lamps, the store, the picture, the schedule and the
reset: it hands on what an event must hand on. -/

namespace Sys2Proof.Upkeep

open Sys2Proof Sys2Proof.Machine

set_option Elab.async false

/-! ## The Settings Store -/

theorem beginWrite_keeps (k : RecKey) (w : List CmdPort) (s : State) : Keeps s (beginWrite k w s) := .of_same
theorem startWrite_keeps (s : State) : Keeps s (startWrite s) := .of_same
theorem askOwn_keeps (k : RecKey) (s : State) : Keeps s (askOwn k s) := .of_same
theorem ask_keeps (snd : Sender) (k : RecKey) (s : State) : Keeps s (ask snd k s) := .of_same

/-! ## The igniter -/

/-- The igniter stays where it is, and no bay enters or leaves Striking. -/
theorem igniter_same {s t : State} (hi : t.lamp.igniter = s.lamp.igniter)
    (hb : ∀ b, (bay t b).st = .striking ↔ (bay s b).st = .striking) : igniterSound s → igniterSound t := by
  intro h b
  rw [hi, hb]
  exact h b

theorem modBay_keeps (b : Bay) {f : BayCtl → BayCtl} {s : State}
    (h : (f (bay s b)).st = .striking ↔ (bay s b).st = .striking) : Keeps s (modBay b f s) := by
  refine .of_lamps (igniter_same rfl fun c => ?_)
  rw [bay_modBay]
  split
  · rw [‹c = b›]; exact h
  · rfl

/-- A bay that leaves Striking gives up the igniter (R17). -/
theorem leavesStriking_keeps (b : Bay) {f : BayCtl → BayCtl} {s : State} (hs : (bay s b).st = .striking)
    (h : (f (bay s b)).st ≠ .striking) : Keeps s (modBay b f (leaveStriking b s)) := by
  refine .of_lamps (fun hi c => ⟨fun e => absurd e (by simp [leaveStriking]), fun e => ?_⟩)
  rw [bay_modBay] at e
  split at e
  · rename_i hc
    subst hc
    exact absurd e h
  · have hc := (hi c).2 e
    rw [(hi b).2 hs] at hc
    exact absurd (Option.some.inj hc).symm ‹¬ c = b›

theorem enterCooling_keeps {b : Bay} {s : State} (h : (bay s b).st ≠ .striking) : Keeps s (enterCooling b s) :=
  modBay_keeps b (by simp [h])

theorem leaveBurning_keeps (b : Bay) (s : State) : Keeps s (leaveBurning b s) := by
  have h : Keeps s (modBay b (fun y => { y with lastExt := some s.uptime }) s) := modBay_keeps b Iff.rfl
  unfold leaveBurning
  dsimp only
  split
  · exact h
  · exact h.trans (askOwn_keeps ..)

theorem extinguish_keeps {b : Bay} {s : State} (h : (bay s b).st ≠ .striking) : Keeps s (extinguish b s) :=
  (enterCooling_keeps h).trans (leaveBurning_keeps ..)

theorem putWanted_keeps (w : PerBay Bool) (s : State) : Keeps s (putWanted w s) := by
  refine .of_lamps (igniter_same (putWanted_rest w s).2.2.2.1 fun c => ?_)
  rw [bay_putWanted]
  split
  · rename_i h
    simp [h.1]
  · rfl

theorem formWanted_keeps (s : State) : Keeps s (formWanted s) := putWanted_keeps ..

theorem leaveWanted_keeps (b : Bay) (s : State) : Keeps s (leaveWanted b s) := by
  have h : Keeps s { s with lamp := { s.lamp with wanted := s.lamp.wanted.set b false } } := .of_lamps (igniter_same rfl fun _ => Iff.rfl)
  unfold leaveWanted
  dsimp only
  split
  · split
    · exact h
    · exact h.trans (formWanted_keeps _)
  · exact .refl s

theorem fillShortfall_keeps (s : State) : Keeps s (fillShortfall s) := by
  unfold fillShortfall
  split
  · exact .refl s
  · exact formWanted_keeps s

theorem dropExhausted_keeps (b : Bay) (s : State) : Keeps s (dropExhausted b s) := by
  unfold dropExhausted
  split
  · exact leaveWanted_keeps ..
  · exact .refl s

theorem forceOut_keeps (b : Bay) (s : State) : Keeps s (forceOut b s) := by
  unfold forceOut
  split
  · exact leavesStriking_keeps b ‹_› (by simp)
  · exact extinguish_keeps (by simp [*])
  · exact extinguish_keeps (by simp [*])
  · exact .refl s

theorem outByCause_keeps (b : Bay) (s : State) : Keeps s (outByCause b s) := by
  unfold outByCause
  split
  · split
    · exact (forceOut_keeps b s).trans ((modBay_keeps b (by rfl)).trans (leaveWanted_keeps ..))
    · exact forceOut_keeps b s
  · exact .refl s

theorem setDemand_keeps (o : DemandOrigin) (n : Nat) (s : State) : Keeps s (setDemand o n s) := by
  unfold setDemand
  split
  · exact .refl s
  · exact .trans (t := { s with lamp := { s.lamp with count := n, origin := o } }) (.of_lamps (igniter_same rfl fun _ => Iff.rfl))
      (formWanted_keeps _)

theorem raise_keeps (o : DemandOrigin) (n : Nat) (s : State) : Keeps s (raise o n s) := setDemand_keeps ..
theorem drop_keeps (o : DemandOrigin) (s : State) : Keeps s (drop o s) := setDemand_keeps ..

theorem setLampRec_keeps (b : Bay) (r : Option LampRecord) (s : State) : Keeps s (setLampRec b r s) := .of_same

theorem changeRecord_keeps (b : Bay) (f : LampRecord → LampRecord) (s : State) : Keeps s (changeRecord b f s) := by
  unfold changeRecord
  split
  · exact .refl s
  · dsimp only
    split
    · exact setLampRec_keeps ..
    · exact (setLampRec_keeps ..).trans (notify_keeps ..)

theorem pickBay_ok {ok : Bay → Bool} {rank : Bay → List Nat} {b : Bay} (h : pickBay ok rank = some b) : ok b = true := by
  unfold pickBay at h
  split at h
  · split at h <;> cases h <;> assumption
  · cases h; assumption
  · cases h; assumption
  · cases h

/-- The bay that is granted the igniter is grantable, and the igniter is free (R2, R16). -/
theorem grantee_some {s : State} {b : Bay} (h : grantee s = some b) : s.lamp.igniter = none ∧ grantable s b = true := by
  unfold grantee at h
  split at h
  · cases h
  · exact ⟨‹_›, pickBay_ok h⟩

theorem grantIgniter_keeps (s : State) : Keeps s (grantIgniter s) := by
  unfold grantIgniter
  split
  · rename_i b hb
    have hfree := (grantee_some hb).1
    refine .of_lamps (fun hi c => ?_) rfl rfl rfl rfl rfl rfl
    have hc : (bay (enterStriking b s) c).st = if c = b then .striking else (bay s c).st := by
      simp only [enterStriking, bay_modBay]
      split <;> rfl
    have hig : (enterStriking b s).lamp.igniter = some b := rfl
    rw [hc, hig]
    split
    · simp [*]
    · rw [← hi c, hfree]
      simp [Ne.symm ‹¬ c = b›]
  · exact .refl s

/-! ## The picture -/

section Geometry

variable (s : State)

theorem settleTilt_rest :
    (settleTilt s).vAdj = s.geo.vAdj ∧ (settleTilt s).hAdj = s.geo.hAdj ∧ (settleTilt s).ring = s.geo.ring ∧
      (settleTilt s).invalidRun = s.geo.invalidRun := by
  unfold settleTilt tiltImmediate
  split
  · exact ⟨rfl, rfl, rfl, rfl⟩
  · split
    · split <;> exact ⟨rfl, rfl, rfl, rfl⟩
    · exact ⟨rfl, rfl, rfl, rfl⟩

@[simp] theorem handOver_vAdj : (handOver s).geo.vAdj = s.geo.vAdj := by rw [Keystone.handOver_geo]
@[simp] theorem handOver_hAdj : (handOver s).geo.hAdj = s.geo.hAdj := by rw [Keystone.handOver_geo]
@[simp] theorem handOver_ring : (handOver s).geo.ring = s.geo.ring := by rw [Keystone.handOver_geo]
@[simp] theorem handOver_invalidRun : (handOver s).geo.invalidRun = s.geo.invalidRun := by rw [Keystone.handOver_geo]
@[simp] theorem totals_vAdj : (totals s).geo.vAdj = s.geo.vAdj := rfl
@[simp] theorem totals_hAdj : (totals s).geo.hAdj = s.geo.hAdj := rfl
@[simp] theorem totals_ring : (totals s).geo.ring = s.geo.ring := rfl
@[simp] theorem totals_invalidRun : (totals s).geo.invalidRun = s.geo.invalidRun := rfl
@[simp] theorem computation_vAdj : (computation s).geo.vAdj = s.geo.vAdj := by simp [computation, settleTilt_rest]
@[simp] theorem computation_hAdj : (computation s).geo.hAdj = s.geo.hAdj := by simp [computation, settleTilt_rest]
@[simp] theorem computation_ring : (computation s).geo.ring = s.geo.ring := by simp [computation, settleTilt_rest]
@[simp] theorem computation_invalidRun : (computation s).geo.invalidRun = s.geo.invalidRun := by
  simp [computation, settleTilt_rest]

theorem computation_keeps : Keeps s (computation s) := .of_same
theorem setImmediate_keeps : Keeps s (setImmediate s) := .of_same

theorem clearNudges_keeps : Keeps s (clearNudges s) :=
  { Keeps.of_same (s := s) (t := s) with nudges := fun _ => by constructor <;> simp [nudgeSound] }

theorem profileChange_keeps : Keeps s (profileChange s) :=
  (clearNudges_keeps s).trans ((setImmediate_keeps _).trans (computation_keeps _))

theorem modSel_keeps (f : Selector → Selector) : Keeps s (modSel f s) := .of_same

theorem putActive_keeps (n : Option Nat) : Keeps s (putActive n s) := by
  unfold putActive
  split
  · exact .refl s
  · exact (modSel_keeps s _).trans (profileChange_keeps _)

theorem putActiveAnew_keeps (n : Option Nat) : Keeps s (putActiveAnew n s) := by
  unfold putActiveAnew
  split
  · exact computation_keeps s
  · exact putActive_keeps s n

theorem judgeLoss_keeps (n : Option Nat) : Keeps s (judgeLoss n s) := modSel_keeps ..

theorem takeRequest_keeps (p : VPort) (n : Option Nat) (o : SwOrigin) : Keeps s (takeRequest p n o s) := by
  unfold takeRequest
  split
  · exact modSel_keeps ..
  · split
    · exact .refl s
    · exact modSel_keeps ..

theorem scheduleRequest_keeps (n : Option Nat) : Keeps s (scheduleRequest n s) := by
  unfold scheduleRequest
  split
  · exact takeRequest_keeps ..
  · exact .refl s

theorem samplesTaken_keeps (l : List PortReading) : Keeps s (samplesTaken l s) := by
  unfold samplesTaken judgeSample
  dsimp only
  split <;> exact .of_same rfl rfl rfl rfl rfl rfl rfl rfl rfl rfl

theorem switchLocks_keeps : Keeps s (switchLocks s) := by
  unfold switchLocks
  split
  · exact (modSel_keeps s _).trans ((putActiveAnew_keeps ..).trans (sourceNotice_keeps _))
  · exact .refl s

theorem switchTimesOut_keeps : Keeps s (switchTimesOut s) := by
  unfold switchTimesOut
  split
  · exact (modSel_keeps s _).trans ((modSel_keeps ..).trans ((putActive_keeps ..).trans
      ((judgeLoss_keeps ..).trans (sourceNotice_keeps _))))
  · exact .refl s

theorem signalLost_keeps : Keeps s (signalLost s) :=
  (modSel_keeps s _).trans ((judgeLoss_keeps ..).trans (sourceNotice_keeps _))

theorem classChanged_keeps : Keeps s (classChanged s) := by
  unfold classChanged
  dsimp only
  refine .trans ?_ (modSel_keeps ..)
  split
  · exact (modSel_keeps s _).trans (putActiveAnew_keeps ..)
  · exact (modSel_keeps s _).trans ((putActiveAnew_keeps ..).trans (sourceNotice_keeps _))

theorem noSignalLocks_keeps : Keeps s (noSignalLocks s) := by
  have h (n m : Option Nat) (c : Nat) : Keeps s (putActive n (enterSettled s.sel.port c m s)) :=
    (modSel_keeps s _).trans (putActive_keeps ..)
  unfold noSignalLocks
  dsimp only
  refine .trans ?_ (sourceNotice_keeps _)
  split
  · split
    · exact h ..
    · exact (h ..).trans (modSel_keeps ..)
  · exact h ..

theorem dwellLocks_keeps : Keeps s (dwellLocks s) :=
  (modSel_keeps s _).trans ((putActive_keeps ..).trans (sourceNotice_keeps _))

theorem scanBegins_keeps : Keeps s (scanBegins s) := by
  unfold scanBegins
  split
  · exact (modSel_keeps s _).trans (modSel_keeps ..)
  · exact .refl s

theorem dwellEnds_keeps : Keeps s (dwellEnds s) := by
  unfold dwellEnds
  split <;> exact modSel_keeps ..

theorem recompute_keeps (old new : Option Profile) : Keeps s (recompute old new s) := by
  unfold recompute
  split
  · exact (setImmediate_keeps s).trans (computation_keeps _)
  · exact computation_keeps s

theorem dropNamed_keeps (n : Nat) (new : Option Profile) : Keeps s (dropNamed n new s) := by
  unfold dropNamed
  split
  · exact .refl s
  · exact modSel_keeps ..

theorem fallBack_keeps : Keeps s (fallBack s) := (putActive_keeps ..).trans (judgeLoss_keeps ..)

theorem changeInSettled_keeps (n : Nat) (old new : Option Profile) : Keeps s (changeInSettled n old new s) := by
  unfold changeInSettled
  split
  · split
    · split
      · exact recompute_keeps ..
      · exact (putActive_keeps ..).trans (sourceNotice_keeps _)
    · exact (putActive_keeps ..).trans (sourceNotice_keeps _)
  · exact .refl s

theorem changeInNoSignal_keeps (n : Nat) (old new : Option Profile) : Keeps s (changeInNoSignal n old new s) := by
  have h : Keeps s (if s.sel.active = some n then recompute old new s else s) := by
    split
    · exact recompute_keeps ..
    · exact .refl s
  unfold changeInNoSignal
  split
  · exact fallBack_keeps s
  · dsimp only
    split
    · exact h.trans (judgeLoss_keeps ..)
    · exact h

theorem changeInFlight_keeps (n : Nat) (old new : Option Profile) : Keeps s (changeInFlight n old new s) := by
  unfold changeInFlight
  split
  · split
    · exact fallBack_keeps s
    · split
      · exact recompute_keeps ..
      · exact .refl s
  · exact .refl s

theorem tableChange_keeps (n : Nat) (old new : Option Profile) : Keeps s (tableChange n old new s) := by
  refine (dropNamed_keeps s n new).trans ?_
  unfold tableChange
  dsimp only
  split
  · exact changeInSettled_keeps ..
  · exact changeInNoSignal_keeps ..
  · exact changeInFlight_keeps ..
  · exact changeInFlight_keeps ..

theorem trimChange_keeps (n : Nat) (old new : Option Profile) : Keeps s (trimChange n old new s) := by
  have h : Keeps s (if s.sel.active = some n then computation s else s) := by
    split
    · exact computation_keeps s
    · exact .refl s
  unfold trimChange
  split
  · exact tableChange_keeps ..
  · exact tableChange_keeps ..
  · exact h
  · exact h

end Geometry

/-! ## The schedule -/

theorem ite_keeps {c : Prop} [Decidable c] {s x y : State} (hx : Keeps s x) (hy : Keeps s y) : Keeps s (if c then x else y) := by
  split
  · exact hx
  · exact hy

section Schedule

variable (s : State)

theorem modSched_keeps (f : Sched → Sched) : Keeps s (modSched f s) := .of_same
theorem putExceptions_keeps (l : List Exc) : Keeps s (putExceptions l s) := .of_same
theorem putBooking_keeps (n : Nat) (b : Option Booking) : Keeps s (putBooking n b s) := .of_same
theorem emptyBooking_keeps (n : Nat) : Keeps s (emptyBooking n s) := (putBooking_keeps ..).trans (putExceptions_keeps ..)
theorem clearUnlocked_keeps : Keeps s (clearUnlocked s) := .of_same

theorem writeExceptions_keeps (l : List Exc) : Keeps s (writeExceptions l s) := by
  unfold writeExceptions
  split
  · exact .refl s
  · exact askOwn_keeps ..

theorem retireBooking_keeps (n : Nat) : Keeps s (retireBooking n s) :=
  (emptyBooking_keeps ..).trans ((askOwn_keeps ..).trans (writeExceptions_keeps ..))

theorem retireIfPast_keeps (c : HallClock) (n : Nat) : Keeps s (retireIfPast c s n) := by
  unfold retireIfPast
  split
  · split
    · exact retireBooking_keeps ..
    · exact .refl s
  · exact .refl s

theorem foldl_keeps {α : Type} {f : State → α → State} (h : ∀ x a, Keeps x (f x a)) (l : List α) (x : State) :
    Keeps x (l.foldl f x) := by
  induction l generalizing x with
  | nil => exact .refl x
  | cons a l ih => exact (h x a).trans (ih _)

theorem retirePast_keeps (c : HallClock) : Keeps s (retirePast c s) :=
  (foldl_keeps (fun x n => retireIfPast_keeps x c n) ..).trans ((putExceptions_keeps ..).trans (writeExceptions_keeps ..))

theorem prewarmActions_keeps : Keeps s (prewarmActions s) := by
  unfold prewarmActions
  split
  · exact .refl s
  · split
    · exact .refl s
    · refine .trans ?_ (notify_keeps ..)
      split
      · split
        · exact (raise_keeps ..).trans (modSched_keeps ..)
        · exact .refl s
      · exact .refl s

theorem runningRaise_keeps (r : Bool) (o : Occ) (bk : Booking) : Keeps s (runningRaise r o bk s) := by
  unfold runningRaise
  split
  · exact (raise_keeps ..).trans (modSched_keeps ..)
  · exact .refl s

theorem bookedMode_keeps (bk : Booking) : Keeps s (bookedMode bk s) := by
  unfold bookedMode
  split
  · exact .of_same rfl rfl rfl rfl rfl rfl rfl rfl rfl rfl
  · exact .refl s

theorem clearPresenter_keeps : Keeps s (clearPresenter s) :=
  (modSel_keeps s _).trans ((clearNudges_keeps _).trans (computation_keeps _))

theorem runningEffects_keeps (r : Bool) (o : Occ) (bk : Booking) : Keeps s (runningEffects r o bk s) :=
  (runningRaise_keeps ..).trans ((bookedMode_keeps ..).trans ((scheduleRequest_keeps ..).trans
    ((clearUnlocked_keeps _).trans (clearPresenter_keeps _))))

theorem runningNotice_keeps : Keeps s (runningNotice s) := by
  unfold runningNotice
  split
  · exact notify_keeps ..
  · exact .refl s

theorem runningActions_keeps (r l : Bool) : Keeps s (runningActions r l s) := by
  unfold runningActions
  split
  · exact .refl s
  · split
    · exact .refl s
    · split
      · exact modSched_keeps ..
      · exact (runningEffects_keeps ..).trans ((modSched_keeps ..).trans (runningNotice_keeps _))

theorem enterRunning_keeps (n : Nat) (bk : Booking) (d : Date) (l : Bool) : Keeps s (enterRunning n bk d l s) := by
  unfold enterRunning
  exact (modSched_keeps ..).trans (runningActions_keeps ..)

theorem enterPrewarm_keeps (n : Nat) (bk : Booking) (d : Date) : Keeps s (enterPrewarm n bk d s) :=
  (modSched_keeps ..).trans (prewarmActions_keeps _)

theorem enterGrace_keeps : Keeps s (enterGrace s) := by
  unfold enterGrace
  split
  · exact .refl s
  · dsimp only
    split
    · exact modSched_keeps ..
    · exact (modSched_keeps ..).trans ((clearUnlocked_keeps _).trans (notify_keeps ..))

theorem retireEnded_keeps (o : Occ) : Keeps s (retireEnded o s) := by
  unfold retireEnded
  split
  · exact ite_keeps (retireBooking_keeps ..) (.refl s)
  · exact .refl s

theorem endNotice_keeps (o : Occ) : Keeps s (endNotice o s) := by
  unfold endNotice
  split
  · exact .refl s
  · exact notify_keeps ..

theorem endActive_keeps : Keeps s (endActive s) := by
  unfold endActive
  split
  · exact .refl s
  · exact (modSched_keeps ..).trans ((retireEnded_keeps ..).trans (endNotice_keeps ..))

theorem scheduleDrop_keeps : Keeps s (scheduleDrop s) := by
  unfold scheduleDrop
  split
  · exact .refl s
  · exact drop_keeps ..

theorem evalRunningEnds_keeps (c : HallClock) : Keeps s (evalRunningEnds c s) := by
  unfold evalRunningEnds
  split
  · split
    · split
      · exact enterGrace_keeps s
      · exact endActive_keeps s
    · exact .refl s
  · exact .refl s

theorem evalNextInGrace_keeps (c : HallClock) : Keeps s (evalNextInGrace c s) := by
  unfold evalNextInGrace
  split
  · exact endActive_keeps s
  · exact .refl s

theorem evalRunningBegins_keeps (c : HallClock) (e : Bool) : Keeps s (evalRunningBegins c e s) := by
  unfold evalRunningBegins
  split
  · exact .refl s
  · split
    · exact enterRunning_keeps ..
    · exact .refl s

theorem evalPrewarmBegins_keeps (c : HallClock) : Keeps s (evalPrewarmBegins c s) := by
  unfold evalPrewarmBegins
  split
  · exact .refl s
  · split
    · exact enterPrewarm_keeps ..
    · exact .refl s

theorem judgeRecords_keeps (c : HallClock) (e : Bool) : Keeps s (judgeRecords c e s) := by
  have h2 : Keeps s (if graceOver c (evalRunningEnds c s) then endActive (evalRunningEnds c s) else evalRunningEnds c s) := by
    refine (evalRunningEnds_keeps s c).trans ?_
    split
    · exact endActive_keeps _
    · exact .refl _
  have h3 := h2.trans ((evalNextInGrace_keeps _ c).trans ((evalRunningBegins_keeps _ c e).trans (evalPrewarmBegins_keeps _ c)))
  unfold judgeRecords
  dsimp only
  split
  · simp only [‹graceOver c _ = true›, if_true] at h3
    exact h3.trans (scheduleDrop_keeps _)
  · simp only [‹¬ graceOver c _ = true›] at h3
    exact h3

theorem evaluate_keeps (e : Bool) : Keeps s (evaluate e s) := by
  unfold evaluate
  split
  · exact .refl s
  · exact withLock_keeps ((retirePast_keeps ..).trans (judgeRecords_keeps ..))

theorem releaseFlag_keeps : Keeps s (releaseFlag s) := by
  unfold releaseFlag
  split
  · exact clearUnlocked_keeps s
  · exact .refl s

theorem dropActive_keeps (c : HallClock) : Keeps s (dropActive c s) := by
  unfold dropActive
  split
  · exact .refl s
  · exact (releaseFlag_keeps s).trans ((modSched_keeps ..).trans (retireIfPast_keeps ..))

theorem keepUpcoming_keeps (c : HallClock) : Keeps s (keepUpcoming c s) := by
  unfold keepUpcoming
  split
  · split
    · exact .refl s
    · exact (modSched_keeps ..).trans (retireIfPast_keeps ..)
  · exact .refl s

theorem enterAtSet_keeps (c : HallClock) (l : List (Nat × Booking)) : Keeps s (enterAtSet c l s) := by
  unfold enterAtSet
  split
  · split
    · exact (endActive_keeps s).trans (enterRunning_keeps ..)
    · exact .refl s
  · exact .refl s

theorem deriveRecords_keeps (c : HallClock) : Keeps s (deriveRecords c s) := by
  have h (x : State) (l : List (Nat × Booking)) : Keeps x (evalPrewarmBegins c (keepUpcoming c (enterAtSet c l x))) :=
    (enterAtSet_keeps ..).trans ((keepUpcoming_keeps ..).trans (evalPrewarmBegins_keeps ..))
  unfold deriveRecords
  dsimp only
  split
  · exact (dropActive_keeps s c).trans ((h ..).trans (scheduleDrop_keeps _))
  · exact h ..

theorem setClock_keeps (c : HallClock) : Keeps s (setClock c s) :=
  withLock_keeps ((modSched_keeps ..).trans ((retirePast_keeps ..).trans (deriveRecords_keeps ..)))

theorem endClock_keeps : Keeps s (endClock s) := by
  refine withLock_keeps ?_
  have h := (releaseFlag_keeps s).trans (modSched_keeps _ fun y =>
    { y with clock := none, minuteDue := false, endDue := false, active := none, upcoming := none, lastEnded := none })
  dsimp only
  split
  · exact h.trans (scheduleDrop_keeps _)
  · exact h

theorem retakeActions_keeps : Keeps s (retakeActions s) := by
  refine .trans ?_ (prewarmActions_keeps _)
  split
  · exact runningActions_keeps ..
  · exact .refl s

theorem idleOff_keeps : Keeps s (idleOff s) := (drop_keeps ..).trans ((clearUnlocked_keeps _).trans (modSched_keeps ..))

theorem minuteEdgePasses_keeps : Keeps s (minuteEdgePasses s) := (modSched_keeps ..).trans (evaluate_keeps ..)

theorem extendTo_keeps (o : Occ) (e : Nat) : Keeps s (extendTo o e s) :=
  .trans (withLock_keeps (modSched_keeps ..)) (runningNotice_keeps _)

theorem endRunning_keeps (o : Occ) (m : Nat) : Keeps s (endRunning o m s) := by
  refine withLock_keeps ?_
  have h := (modSched_keeps s fun y => { y with active := some { o with stop := m } }).trans (enterGrace_keeps _)
  dsimp only
  split
  · exact h.trans ((endActive_keeps _).trans (scheduleDrop_keeps _))
  · exact h

theorem endGraceOf_keeps (n : Nat) : Keeps s (endGraceOf n s) := by
  unfold endGraceOf
  split
  · split
    · exact (modSched_keeps ..).trans ((endNotice_keeps ..).trans (scheduleDrop_keeps _))
    · exact .refl s
  · exact .refl s

end Schedule

end Sys2Proof.Upkeep

/-! PROOFS. What every step keeps (O57 to O60): each event, each command and each frame hands on the invariants, and so does a step. -/

namespace Sys2Proof.Upkeep

open Sys2Proof Sys2Proof.Machine

set_option Elab.async false

/-! ## What a whole event hands on -/

theorem faultCond_congr {s t : State} (hlamp : t.lamp = s.lamp) (hpins : t.pins = s.pins) (hwork : t.work = s.work)
    (hheat : t.heat = s.heat) (hgeo : t.geo = s.geo) (hunsaved : t.store.unsaved = s.store.unsaved)
    (hdeaf : t.comms.deaf = s.comms.deaf) (hclock : t.sched.clock.isNone = s.sched.clock.isNone) (f : FaultId) :
    faultCond t f = faultCond s f := by
  cases f <;> simp [faultCond, lampRec, bay, stageOf, hlamp, hpins, hwork, hheat, hgeo, hunsaved, hdeaf, hclock]

/-- A change that reaches nothing that the invariants read leaves them all. -/
theorem Stays.of_same {s t : State} (hidle : idleSound s → idleSound t) (hlamp : t.lamp = s.lamp := by simp)
    (hnotices : t.notices = s.notices := by simp) (hfaults : t.faults = s.faults := by simp)
    (hattempts : t.lock.attempts = s.lock.attempts := by simp) (herrors : t.comms.errCount = s.comms.errCount := by simp)
    (hmode : t.mode = s.mode := by simp) (hgeo : t.geo = s.geo := by simp) (hpins : t.pins = s.pins := by simp)
    (hwork : t.work = s.work := by simp) (hheat : t.heat = s.heat := by simp)
    (hunsaved : t.store.unsaved = s.store.unsaved := by simp) (hdeaf : t.comms.deaf = s.comms.deaf := by simp)
    (hclock : t.sched.clock.isNone = s.sched.clock.isNone := by simp) (hactive : t.sched.active = s.sched.active := by simp) :
    Stays s t where
  toKeeps := .of_same hlamp hnotices hfaults hattempts herrors (by rw [hmode]) (by rw [hgeo]) (by rw [hgeo]) (by rw [hgeo])
    (by rw [hgeo])
  faults h f := by
    rw [hfaults, faultCond_congr hlamp hpins hwork hheat hgeo hunsaved hdeaf hclock f]
    exact h f
  modes := by
    have hrun : runningBooking t = runningBooking s := runningBooking_of hactive hwork
    simp only [modesSound_iff, bayModeSound, hotCeiling, facilityCeiling, bay, bayMode, hlamp, hmode, hwork, hheat, hrun]
    exact id
  idle := hidle

/-- A change of the counters of events and uptime, of the queue and of the ports. -/
theorem Stays.of_same_blocks {s t : State} (hlamp : t.lamp = s.lamp := by simp)
    (hnotices : t.notices = s.notices := by simp) (hfaults : t.faults = s.faults := by simp)
    (hlock : t.lock = s.lock := by simp) (herrors : t.comms.errCount = s.comms.errCount := by simp)
    (hmode : t.mode = s.mode := by simp) (hgeo : t.geo = s.geo := by simp) (hpins : t.pins = s.pins := by simp)
    (hwork : t.work = s.work := by simp) (hheat : t.heat = s.heat := by simp) (hstore : t.store = s.store := by simp)
    (hdeaf : t.comms.deaf = s.comms.deaf := by simp) (hsched : t.sched = s.sched := by simp) (hsel : t.sel = s.sel := by simp) :
    Stays s t :=
  .of_same (by simp only [idleSound, hlamp, hsched, hsel]; exact id) hlamp hnotices hfaults (by rw [hlock]) herrors hmode hgeo hpins
    hwork hheat (by rw [hstore]) hdeaf (by rw [hsched]) (by rw [hsched])

theorem nextEvent_stays (s : State) : Stays s (nextEvent s) := .of_same_blocks

theorem modChan_stays {p : CmdPort} {f : Channel → Channel} {s : State} : Stays s (modChan p f s) := by
  cases p <;> exact .of_same_blocks rfl rfl rfl rfl rfl rfl rfl rfl rfl rfl rfl rfl rfl rfl

theorem happen_stays {f : State → State} {s : State} (h : Keeps (nextEvent s) (f (nextEvent s))) : Stays s (happen f s) :=
  ((nextEvent_stays s).toKeeps.trans h).settled

theorem ifDue_stays {due : State → Bool} {f : State → State} {s : State}
    (h : due s = true → Keeps (nextEvent s) (f (nextEvent s))) : Stays s (ifDue due f s) := by
  unfold ifDue
  split
  · exact happen_stays (h ‹_›)
  · exact .refl s

/-! ## The events that follow another at once -/

theorem strikeSucceeds_keeps {b : Bay} {s : State} (h : (bay s b).st = .striking) : Keeps s (strikeSucceeds b s) :=
  .trans (leavesStriking_keeps b h (by simp)) ((changeRecord_keeps ..).trans (askOwn_keeps ..))

theorem strikeDue_striking {s : State} {b : Bay} (h : strikeDue s b = true) : (bay s b).st = .striking := by
  simp only [strikeDue, Bool.and_eq_true, beq_iff_eq] at h
  exact h.1

theorem levelChanges_keeps (s : State) : Keeps s (levelChanges s) := by
  have h (l : Thermal) : Keeps s (heatNotice (setLevel l s)) :=
    .trans (t := setLevel l s) (.of_same rfl rfl rfl rfl rfl rfl rfl rfl rfl rfl) (notify_keeps ..)
  unfold levelChanges
  split
  · exact (h _).trans ((forceOut_keeps ..).trans ((forceOut_keeps ..).trans (drop_keeps ..)))
  · exact h _
  · exact .refl s

theorem hallChanges_keeps (s : State) : Keeps s (hallChanges s) := by
  unfold hallChanges
  exact .trans (t := { s with heat := { s.heat with hot := !s.heat.hot, atLeast35 := 0, below32 := 0 } })
    (.of_same rfl rfl rfl rfl rfl rfl rfl rfl rfl rfl) (notify_keeps ..)

theorem wearCarries_keeps (b : Bay) (s : State) : Keeps s (wearCarries b s) :=
  (changeRecord_keeps ..).trans (dropExhausted_keeps ..)

/-- A change of a bay's part of the Mode Unit that keeps its debts. -/
theorem modBayMode_keeps (b : Bay) {f : BayMode → BayMode} {s : State}
    (h : debtsSound (bayMode s b) → debtsSound (f (bayMode s b))) : Keeps s (modBayMode b f s) :=
  { Keeps.of_same (s := s) (t := s) with
    debts := fun hs c => by
      simp only [bayMode, modBayMode_mode, PerBay.get_set]
      split
      · exact h (hs b)
      · exact hs c }

theorem fallDue_debts {m : BayMode} (h : debtsSound m) : debtsSound m.fallDue := by
  obtain ⟨hd, hc, hor⟩ := h
  unfold BayMode.fallDue
  split
  · refine ⟨hd, ?_, ?_⟩ <;> dsimp only <;> omega
  · refine ⟨?_, hc, .inr ?_⟩
    · simp only [satAdd]; omega
    · dsimp only; omega

theorem runDone_debts {m : BayMode} (h : debtsSound m) : debtsSound m.runDone := by
  obtain ⟨hd, hc, hor⟩ := h
  unfold BayMode.runDone
  split
  · refine ⟨?_, hc, ?_⟩ <;> dsimp only <;> omega
  · refine ⟨hd, ?_, .inl ?_⟩
    · simp only [satAdd]; omega
    · dsimp only; omega

theorem confirmTilt_keeps (s : State) : Keeps s (confirmTilt s) := by
  unfold confirmTilt
  split
  · exact .of_same
  · exact .refl s

theorem tiltInvalidBegins_keeps (s : State) : Keeps s (tiltInvalidBegins s) := .of_same rfl rfl rfl rfl rfl rfl rfl rfl rfl rfl

theorem sensorFaultChanges_keeps (s : State) : Keeps s (sensorFaultChanges s) := .of_same rfl rfl rfl rfl rfl rfl rfl rfl rfl rfl

section FollowUps

variable (s : State) (b : Bay)

theorem fuSensor_stays : Stays s (fuSensor s) := ifDue_stays fun _ => sensorFaultChanges_keeps _
theorem fuLevel_stays : Stays s (fuLevel s) := ifDue_stays fun _ => levelChanges_keeps _
theorem fuHall_stays : Stays s (fuHall s) := ifDue_stays fun _ => hallChanges_keeps _
theorem fuCarry_stays : Stays s (fuCarry b s) := ifDue_stays fun _ => wearCarries_keeps ..
theorem fuUnsaved_stays : Stays s (fuUnsaved b s) := (fuCarry_stays s b).trans (ifDue_stays fun _ => askOwn_keeps ..)
theorem fuEco_stays : Stays s (fuEco b s) := ifDue_stays fun _ => modBayMode_keeps b id
theorem fuConditioning_stays : Stays s (fuConditioning b s) := ifDue_stays fun _ => modBayMode_keeps b fallDue_debts
theorem fuFullRun_stays : Stays s (fuFullRun b s) := ifDue_stays fun _ => modBayMode_keeps b runDone_debts
theorem fuSwitchLock_stays : Stays s (fuSwitchLock s) := ifDue_stays fun _ => switchLocks_keeps _
theorem fuLoss_stays : Stays s (fuLoss s) := ifDue_stays fun _ => signalLost_keeps _
theorem fuClass_stays : Stays s (fuClass s) := ifDue_stays fun _ => classChanged_keeps _
theorem fuNoSignalLock_stays : Stays s (fuNoSignalLock s) := ifDue_stays fun _ => noSignalLocks_keeps _
theorem fuDwellLock_stays : Stays s (fuDwellLock s) := ifDue_stays fun _ => dwellLocks_keeps _
theorem fuTilt_stays : Stays s (fuTilt s) := ifDue_stays fun _ => tiltInvalidBegins_keeps _
theorem fuConfirm_stays : Stays s (fuConfirm s) := ifDue_stays fun _ => confirmTilt_keeps _
theorem fuGrant_stays : Stays s (fuGrant s) := ifDue_stays fun _ => grantIgniter_keeps _
theorem fuStrike_stays : Stays s (fuStrike b s) := ifDue_stays fun h => strikeSucceeds_keeps (strikeDue_striking h)

theorem completeCounts_stays : Stays s (completeCounts s) :=
  (fuSensor_stays s).trans ((fuLevel_stays _).trans ((fuHall_stays _).trans ((fuCarry_stays ..).trans ((fuCarry_stays ..).trans
    ((fuEco_stays ..).trans ((fuEco_stays ..).trans ((fuConditioning_stays ..).trans ((fuConditioning_stays ..).trans
      ((fuFullRun_stays ..).trans (fuFullRun_stays ..))))))))))

theorem completeStrikes_stays : Stays s (completeStrikes s) := (fuStrike_stays ..).trans (fuStrike_stays ..)

theorem completeCore_stays : Stays s (completeCore s) :=
  (completeCounts_stays s).trans ((fuTilt_stays _).trans ((fuConfirm_stays _).trans (completeStrikes_stays _)))

theorem completePicture_stays : Stays s (completePicture s) :=
  (fuSwitchLock_stays s).trans ((fuLoss_stays _).trans ((fuClass_stays _).trans ((fuNoSignalLock_stays _).trans (fuDwellLock_stays _))))

theorem complete_stays : Stays s (complete s) :=
  (completeCore_stays s).trans ((completePicture_stays _).trans ((fuGrant_stays _).trans (completeStrikes_stays _)))

theorem completeUnsaved_stays : Stays s (completeUnsaved s) := (fuUnsaved_stays ..).trans (fuUnsaved_stays ..)

theorem ready_stays : Stays s (ready s) := (completeCore_stays s).trans (nextEvent_stays _)

end FollowUps

theorem act_stays {f : State → State} {s t : State} (h : ∀ x, Keeps x (f x)) (ht : act f s = .next t) : Stays s t := by
  cases ht
  exact (complete_stays s).trans (happen_stays (h _))

theorem actLoose_stays {f : State → State} {s t : State} (h : ∀ x, Keeps x (f x)) (ht : actLoose f s = .next t) : Stays s t := by
  cases ht
  exact (completeCore_stays s).trans (happen_stays (h _))

theorem onTime_stays {due : State → Bool} {f : State → State} {s t : State} (ht : onTime due f s = .next t)
    (h : ∀ x, due x = true → Keeps (nextEvent x) (f (nextEvent x))) : Stays s t := by
  cases ht
  exact (complete_stays s).trans (ifDue_stays (h _))

theorem onTimeLoose_stays {due : State → Bool} {f : State → State} {s t : State} (ht : onTimeLoose due f s = .next t)
    (h : ∀ x, due x = true → Keeps (nextEvent x) (f (nextEvent x))) : Stays s t := by
  cases ht
  exact (completeCore_stays s).trans (ifDue_stays (h _))

/-! ## The events of the lamps -/

theorem timerEnded_st {s : State} {b : Bay} {st : BaySt} (h : timerEnded s b st = true) : (bay s b).st = st := by
  simp only [timerEnded, Bool.and_eq_true, beq_iff_eq] at h
  exact h.1

theorem litAsserted_keeps (b : Bay) (s : State) : Keeps s (litAsserted b s) := by
  have h : Keeps s (setLit b true s) := .of_same
  unfold litAsserted
  dsimp only
  split
  · exact h.trans (strikeSucceeds_keeps ‹_›)
  · exact h

/-- A bay that gives up the igniter may have its record changed before it leaves Striking (R4, R29). -/
theorem leavesStriking_later_keeps {b : Bay} {f : BayCtl → BayCtl} {s x : State} (hs : (bay s b).st = .striking)
    (hx : x.lamp = (leaveStriking b s).lamp) (hk : Keeps (leaveStriking b s) x) (h : (f (bay x b)).st ≠ .striking) :
    Keeps s (modBay b f x) := by
  have hbay (c : Bay) : bay x c = bay (leaveStriking b s) c := by simp only [bay, hx]
  have hi : Keeps s (modBay b f (leaveStriking b s)) := leavesStriking_keeps b hs (by rwa [hbay] at h)
  refine ⟨fun hs => igniter_same ?_ (fun c => ?_) (hi.igniter hs), hk.notices, hk.latch, hk.attempts, hk.errors, hk.debts, hk.nudges,
    hk.tilts⟩
  · simp only [modBay_lamp, hx]
  · simp only [bay_modBay, hbay]

theorem strikeFails_keeps {b : Bay} {s : State} (h : (bay s b).st = .striking) : Keeps s (strikeFails b s) := by
  have hk : Keeps (leaveStriking b s) (askOwn (.lamp b) (changeRecord b strikeLost (leaveStriking b s))) :=
    (changeRecord_keeps ..).trans (askOwn_keeps ..)
  unfold strikeFails
  dsimp only
  split
  · exact (leavesStriking_later_keeps h (by simp) hk (by simp)).trans ((lampNotice_keeps ..).trans (leaveWanted_keeps ..))
  · exact (leavesStriking_later_keeps h (by simp) hk (by simp)).trans (dropExhausted_keeps ..)

theorem warmUpEnds_keeps {b : Bay} {s : State} (h : (bay s b).st ≠ .striking) : Keeps s (warmUpEnds b s) := by
  unfold warmUpEnds
  split
  · exact .trans (modBay_keeps b (by simp [h])) (lampNotice_keeps ..)
  · exact extinguish_keeps h

theorem lampLoss_keeps {b : Bay} {s : State} (h : (bay s b).st ≠ .striking) : Keeps s (lampLoss b s) := by
  have h1 : Keeps s (modBay b (fun y => { y with lampLost := some s.uptime }) (extinguish b s)) :=
    (extinguish_keeps h).trans (modBay_keeps b (by rfl))
  unfold lampLoss
  dsimp only
  refine .trans ?_ (modBay_keeps b (by rfl))
  split
  · exact h1.trans ((modBay_keeps b (by rfl)).trans (leaveWanted_keeps ..))
  · split
    · exact h1
    · exact h1.trans (leaveWanted_keeps ..)

theorem litDrops_keeps (b : Bay) (s : State) : Keeps s (litDrops b s) := by
  have h : Keeps s (setLit b false s) := .of_same
  unfold litDrops
  dsimp only
  split
  · rename_i hb
    exact h.trans (lampLoss_keeps fun e => by simp [e, BaySt.burning] at hb)
  · exact h

theorem coolingEnds_keeps {b : Bay} {s : State} (h : (bay s b).st ≠ .striking) : Keeps s (coolingEnds b s) :=
  modBay_keeps b (by simp [h])

theorem enterDark_keeps {b : Bay} {s : State} (h : (bay s b).st ≠ .striking) : Keeps s (enterDark b s) :=
  .trans (modBay_keeps b (by simp [h])) (lampNotice_keeps ..)

theorem doorOpens_keeps (b : Bay) (s : State) : Keeps s (doorOpens b s) := by
  have h : Keeps s (setDoor b true s) := .of_same
  unfold doorOpens
  split
  · exact .refl s
  · exact h.trans ((modBay_keeps b (by rfl)).trans (outByCause_keeps ..))

theorem doorCloses_keeps (b : Bay) (s : State) : Keeps s (doorCloses b s) := by
  have h : Keeps s (setDoor b false s) := .of_same
  unfold doorCloses
  split
  · exact h.trans (modBay_keeps b (by rfl))
  · exact .refl s

theorem ballastAsserts_keeps (b : Bay) (s : State) : Keeps s (ballastAsserts b s) := by
  have h : Keeps s (setBallast b true s) := .of_same
  unfold ballastAsserts
  split
  · exact .refl s
  · exact h.trans (outByCause_keeps ..)

theorem setBallast_keeps (b : Bay) (v : Bool) (s : State) : Keeps s (setBallast b v s) := .of_same

theorem spacingEnds_keeps (s : State) : Keeps s (spacingEnds s) :=
  .of_lamps (igniter_same rfl fun _ => Iff.rfl) rfl rfl rfl rfl rfl rfl

theorem lossBarEnds_keeps (b : Bay) (s : State) : Keeps s (lossBarEnds b s) :=
  .trans (modBay_keeps b (by rfl)) (fillShortfall_keeps _)

/-! ## The events of the counts, the heat and the picture -/

theorem noteTop_keeps (b : Bay) (s : State) : Keeps s (noteTop b s) := by
  unfold noteTop
  split
  · exact modBay_keeps b (by rfl)
  · exact .refl s

theorem countWear_keeps (b : Bay) (s : State) : Keeps s (countWear b s) := by
  unfold countWear
  split
  · exact (noteTop_keeps b s).trans (.of_same rfl rfl rfl rfl rfl rfl rfl rfl rfl rfl)
  · exact .refl s

theorem tick_debts {m : BayMode} (h : debtsSound m) : debtsSound m.tick := by
  unfold BayMode.tick
  split <;> exact h

theorem countMode_keeps (b : Bay) (s : State) : Keeps s (countMode b s) := by
  unfold countMode
  split
  · exact modBayMode_keeps b tick_debts
  · exact .refl s

theorem litSecondPasses_keeps (s : State) : Keeps s (litSecondPasses s) :=
  (countWear_keeps .bayA s).trans ((countWear_keeps .bayB _).trans ((countMode_keeps .bayA _).trans ((countMode_keeps .bayB _).trans
    (.of_same rfl rfl rfl rfl rfl rfl rfl rfl rfl rfl))))

theorem convert_keeps (x y : Int) (s : State) : Keeps s (convert x y s) := .of_same rfl rfl rfl rfl rfl rfl rfl rfl rfl rfl
theorem tachPulses_keeps (s : State) : Keeps s (tachPulses s) := .of_same rfl rfl rfl rfl rfl rfl rfl rfl rfl rfl
theorem fanStalls_keeps (s : State) : Keeps s (fanStalls s) := .of_same rfl rfl rfl rfl rfl rfl rfl rfl rfl rfl

theorem tiltReads_keeps (r : Option Int) (s : State) : Keeps s (tiltReads r s) :=
  { Keeps.of_same (s := s) (t := s) with
    tilts := by
      rintro ⟨hring, hrun⟩
      refine ⟨by simp [tiltReads, hring], ?_⟩
      simp only [tiltReads, satAdd]
      split <;> omega }

theorem cadenceTilt_rest (s : State) :
    (cadenceTilt s).vAdj = s.geo.vAdj ∧ (cadenceTilt s).hAdj = s.geo.hAdj ∧ (cadenceTilt s).ring = s.geo.ring ∧
      (cadenceTilt s).invalidRun = s.geo.invalidRun := by
  unfold cadenceTilt tiltImmediate stabilise
  split
  · exact ⟨rfl, rfl, rfl, rfl⟩
  · split
    · split <;> exact ⟨rfl, rfl, rfl, rfl⟩
    · split
      · exact ⟨rfl, rfl, rfl, rfl⟩
      · split
        · exact ⟨rfl, rfl, rfl, rfl⟩
        · split <;> exact ⟨rfl, rfl, rfl, rfl⟩

theorem cadence_keeps (s : State) : Keeps s (cadence s) := by
  have h : Keeps s { s with cadenceDone := s.cadenceDone + 1, geo := cadenceTilt s } :=
    .of_same rfl rfl rfl rfl rfl rfl (cadenceTilt_rest s).1 (cadenceTilt_rest s).2.1 (cadenceTilt_rest s).2.2.1
      (cadenceTilt_rest s).2.2.2
  unfold cadence
  dsimp only
  split
  · exact h
  · exact h.trans .of_same

theorem warpAccepts_keeps (s : State) : Keeps s (warpAccepts s) := by
  unfold warpAccepts
  split
  · exact .refl s
  · dsimp only
    split <;> exact .of_same rfl rfl rfl rfl rfl rfl rfl rfl rfl rfl

theorem warpWindowEnds_keeps (s : State) : Keeps s (warpWindowEnds s) := .of_same rfl rfl rfl rfl rfl rfl rfl rfl rfl rfl

/-! ## The resets -/

theorem askOwn_foldl_keeps (l : List RecKey) (s : State) : Keeps s (writeBacks l s) :=
  foldl_keeps (fun x k => askOwn_keeps k x) l s

theorem handFallback_keeps (s : State) : Keeps s (handFallback s) :=
  (modSel_keeps s _).trans ((judgeLoss_keeps ..).trans (computation_keeps _))

theorem powerNotice_keeps (b : Bay) (s : State) : Keeps s (powerNotice b s) := by
  unfold powerNotice
  split
  · exact lampNotice_keeps ..
  · exact .refl s

theorem bayAtPower_idle (r : Option LampRecord) : (bayAtPower r).st ≠ .striking := by
  unfold bayAtPower
  split
  · simp [BayCtl.fresh]
  · split <;> simp [BayCtl.fresh]

theorem clear_get (f : FaultId) : FaultTable.clear.get f = .clear := by cases f <;> simp [FaultTable.clear, FaultTable.get]

theorem poweredState_keeps (inp : PowerOnInputs) (w : Records) (l : List RecKey) (s : State) : Keeps s (poweredState inp w l s) where
  igniter _ b := ⟨fun h => (by cases h), fun h => absurd h (by simp only [bay, poweredState, PerBay.get_make]; exact bayAtPower_idle _)⟩
  notices _ := ⟨Nat.zero_le _, .nil⟩
  latch _ f _ := by
    show FaultTable.clear.get f ≠ .latched
    rw [clear_get]
    decide
  attempts _ := le_refl 5
  errors _ := Nat.zero_le _
  debts _ b := by cases b <;> exact ⟨Nat.zero_le _, Nat.zero_le _, .inl rfl⟩
  nudges _ := show nudgeSound 0 ∧ nudgeSound 0 by simp [nudgeSound]
  tilts _ := ⟨rfl, Nat.zero_le _⟩

theorem powerUp_stays (inp : PowerOnInputs) (s : State) : Stays s (powerUp inp s) :=
  Keeps.settled ((poweredState_keeps ..).trans ((askOwn_foldl_keeps ..).trans ((handFallback_keeps _).trans
    ((powerNotice_keeps ..).trans (powerNotice_keeps ..)))))

end Sys2Proof.Upkeep

/-! PROOFS. What every step keeps (O57 to O60): RESTART, the commands, the two ports and the step itself. -/

namespace Sys2Proof.Upkeep

open Sys2Proof Sys2Proof.Machine

set_option Elab.async false

/-! ## RESTART -/

section Restart

variable (s : State)

theorem stateAfter_ne_striking (st : BaySt) (lit maint : Bool) : stateAfter st lit maint ≠ .striking := by
  cases st <;> cases lit <;> cases maint <;> simp [stateAfter]

theorem restartBay_keeps (b : Bay) : Keeps s (restartBay b s) := by
  have h : Keeps s (modBay b (fun y =>
      { y with st := stateAfter (bay s b).st (s.pins.lit.get b) s.lock.maint
               timer := timerAfter s (stateAfter (bay s b).st (s.pins.lit.get b) s.lock.maint)
               causeMark := false, stamp := none
               burnSince := if (bay s b).st = .striking then s.uptime else y.burnSince }) (strikingEnds b s)) := by
    unfold strikingEnds
    split
    · exact leavesStriking_keeps b ‹_› (stateAfter_ne_striking _ _ _)
    · exact modBay_keeps b ⟨fun e => absurd e (stateAfter_ne_striking _ _ _), fun e => absurd e ‹_›⟩
  unfold restartBay
  dsimp only
  split
  · exact h.trans (leaveBurning_keeps ..)
  · exact h

theorem restartDemand_keeps : Keeps s (restartDemand s) := .of_lamps (igniter_same rfl fun _ => Iff.rfl) rfl rfl rfl rfl rfl rfl

theorem restartCause_keeps (b : Bay) : Keeps s (restartCause b s) := by
  unfold restartCause
  split
  · exact .trans (modBay_keeps b (by rfl)) (outByCause_keeps ..)
  · exact .refl s

theorem restartNotice_keeps (b : Bay) : Keeps s (restartNotice b s) := by
  unfold restartNotice
  split
  · exact lampNotice_keeps ..
  · exact .refl s

theorem restartLamps_keeps : Keeps s (restartLamps s) :=
  (restartBay_keeps s .bayA).trans ((restartBay_keeps _ .bayB).trans ((restartDemand_keeps _).trans ((restartNotice_keeps ..).trans
    ((restartNotice_keeps ..).trans ((restartCause_keeps ..).trans (restartCause_keeps ..))))))

theorem restartMode_keeps : Keeps s (restartMode s) :=
  { Keeps.of_same (s := s) (t := s) with debts := fun h b => by cases b <;> exact h _ }

theorem restartGeo_keeps : Keeps s (restartGeo s) :=
  { Keeps.of_same (s := s) (t := s) with nudges := fun _ => show nudgeSound 0 ∧ nudgeSound 0 by simp [nudgeSound] }

theorem emptyQueue_keeps : Keeps s (emptyQueue s) :=
  { Keeps.of_same (s := s) (t := s) with notices := fun _ => ⟨Nat.zero_le _, .nil⟩ }

theorem restartLine_keeps : Keeps s (restartLine s) :=
  { Keeps.of_same (s := s) (t := s) with errors := fun _ => Nat.zero_le _ }

theorem restartHeat_keeps : Keeps s (restartHeat s) := .of_same rfl rfl rfl rfl rfl rfl rfl rfl rfl rfl
theorem restartFan_keeps : Keeps s (restartFan s) := .of_same rfl rfl rfl rfl rfl rfl rfl rfl rfl rfl
theorem restartSel_keeps : Keeps s (restartSel s) := .of_same rfl rfl rfl rfl rfl rfl rfl rfl rfl rfl
theorem holdStore_keeps : Keeps s (holdStore s) := .of_same rfl rfl rfl rfl rfl rfl rfl rfl rfl rfl

theorem releaseStore_keeps : Keeps s (releaseStore s) :=
  .trans (t := { s with store := { s.store with busy := none } }) (.of_same rfl rfl rfl rfl rfl rfl rfl rfl rfl rfl)
    (startWrite_keeps _)

theorem restartFilters_keeps : Keeps s (restartFilters s) := by
  have h (w : Records) (st : Store) : Keeps s { s with work := w, store := st } := .of_same rfl rfl rfl rfl rfl rfl rfl rfl rfl rfl
  exact (h _ _).trans (askOwn_foldl_keeps ..)

theorem restartBlocks_keeps : Keeps s (restartBlocks s) :=
  (emptyQueue_keeps s).trans ((restartHeat_keeps _).trans ((restartMode_keeps _).trans ((restartLamps_keeps _).trans
    ((restartFan_keeps _).trans ((restartSel_keeps _).trans ((restartGeo_keeps _).trans ((handFallback_keeps _).trans
      ((clearUnlocked_keeps _).trans ((restartLine_keeps _).trans (restartFilters_keeps _))))))))))

theorem restartSchedule_keeps : Keeps s (restartSchedule s) :=
  (modSched_keeps s _).trans ((evaluate_keeps ..).trans (retakeActions_keeps _))

theorem rejudgeFaults_keeps : Keeps s (rejudgeFaults s) :=
  { Keeps.of_same (s := s) (t := s) with
    notices := foldl_put_sound faultNotice _
    latch := fun _ f _ => by
      simp only [rejudgeFaults, FaultTable.get_make]
      split <;> simp }

theorem restartAll_keeps : Keeps s (restartAll s) :=
  (holdStore_keeps s).trans ((restartBlocks_keeps _).trans ((syncMode_keeps _).trans ((restartSchedule_keeps _).trans
    ((follow_keeps _).trans ((rejudgeFaults_keeps _).trans (releaseStore_keeps _))))))

end Restart

/-! ## Answers -/

theorem transmit_stays (p : CmdPort) (cs : List Char) (s : State) : Stays s (transmit p cs s) := modChan_stays

theorem sendReply_stays (p : CmdPort) (s : State) : Stays s (sendReply p s) := by
  unfold sendReply
  split
  · exact modChan_stays.trans (transmit_stays ..)
  · exact .refl s

theorem sendIfReady_stays (p : CmdPort) (s : State) : Stays s (sendIfReady p s) := by
  unfold sendIfReady
  split
  · exact sendReply_stays ..
  · exact .refl s

theorem answer_stays {snd : Sender} {a : Answer} {s : State} (h : Stays s a.st) : Stays s (answer snd a) := by
  unfold answer
  split
  · exact h
  · exact h.trans (modChan_stays.trans (sendIfReady_stays ..))

section Answers

variable {snd : Sender} {s : State}

theorem no_stays (r : String) : Stays s (no r s).st := .refl s
theorem noWith_stays (r w : String) : Stays s (noWith r w s).st := .refl s
theorem tell_stays (l : List String) : Stays s (tell s l).st := .refl s

theorem yes_stays {x : State} {f : State → List String} {n : Nat} (h : Keeps s x) : Stays s (yes x f n).st := h.settled

theorem ite_stays {c : Prop} [Decidable c] {x y : Answer} (hx : Stays s x.st) (hy : Stays s y.st) :
    Stays s (if c then x else y).st := by
  split
  · exact hx
  · exact hy

/-- A check that refuses leaves the state, and one that passes goes on. -/
theorem no_or_stays {c : Prop} [Decidable c] {r : String} {x : Answer} (hx : Stays s x.st) : Stays s (if c then no r s else x).st :=
  ite_stays (no_stays _) hx

theorem gate_stays {c : Cls} {ok : Bool} {k : State → Answer} (h : Stays s (k s).st) : Stays s (gate snd c ok s k).st :=
  no_or_stays (no_or_stays (no_or_stays h))

theorem gate_no_stays {c : Cls} {ok : Bool} {r : String} : Stays s (gate snd c ok s (fun x => no r x)).st := gate_stays (no_stays _)

theorem bookGate_stays {k : State → Answer} (h : Stays s (k s).st) : Stays s (bookGate snd s k).st := no_or_stays (no_or_stays h)

theorem recordGate_stays {α : Type} {form : Option α} {m : Bool} {k : α → Answer} (h : ∀ a, Stays s (k a).st) :
    Stays s (recordGate snd form m s k).st := by
  unfold recordGate
  refine no_or_stays ?_
  split
  · exact no_stays _
  · exact no_or_stays (h _)

theorem query_stays {args : List String} {f : State → List String} : Stays s (query args s f).st := ite_stays (tell_stays _) (no_stays _)

/-! ## The commands -/

variable {args : List String}

theorem putSetting_stays {k : SettingName} {f : Settings → Settings} {e : State → State} (h : ∀ x, Keeps x (e x)) :
    Stays s (putSetting snd k f e s).st := by
  unfold putSetting
  refine ite_stays (yes_stays (.refl s)) (yes_stays (withLock_keeps (.trans ?_ (h _))))
  exact .trans (t := { s with work := { s.work with settings := f s.work.settings } })
    (.of_same rfl rfl rfl rfl rfl rfl rfl rfl rfl rfl) (ask_keeps ..)

theorem cmdSetting_stays {α : Type} {k : SettingName} {c : Cls} {parse : String → Option α} {f : α → Settings → Settings}
    {e : State → State} (h : ∀ x, Keeps x (e x)) : Stays s (cmdSetting snd k c parse f e args s).st := by
  unfold cmdSetting
  split
  · exact tell_stays _
  · split
    · exact gate_stays (putSetting_stays h)
    · exact gate_no_stays
  · exact gate_no_stays

theorem idleChange_keeps (x : State) : Keeps x (idleChange x) := ite_keeps (idleOff_keeps x) (.refl x)

theorem cmdAddress_stays : Stays s (cmdAddress snd args s).st := by
  have h : Stays s (cmdSetting snd .address .facility (parseClamped 1 62) (fun v x => { x with address := v }) id args s).st :=
    cmdSetting_stays .refl
  unfold cmdAddress
  exact ite_stays h h

theorem lampsOn_stays : Stays s (lampsOn snd s).st :=
  yes_stays (.trans (raise_keeps ..) ((settle_keeps _).trans (fuGrant_stays _).toKeeps))

theorem cmdLampon_stays : Stays s (cmdLampon snd args s).st :=
  no_or_stays (no_or_stays (no_or_stays (no_or_stays (no_or_stays (no_or_stays lampsOn_stays)))))

theorem lampsOff_keeps : Keeps s (lampsOff snd s) := by
  unfold lampsOff
  exact ite_keeps ((drop_keeps ..).trans (clearUnlocked_keeps _)) (drop_keeps ..)

theorem cmdLampoff_stays : Stays s (cmdLampoff snd args s).st := gate_stays (yes_stays lampsOff_keeps)

theorem fresh_debts (e : Option LampMode) : debtsSound { BayMode.fresh with effective := e } :=
  ⟨Nat.zero_le _, Nat.zero_le _, .inl rfl⟩

theorem newRecord_keeps {b : Bay} {i : String} {n : Nat} (h : (bay s b).st ≠ .striking) : Keeps s (newRecord snd b i n s) := by
  refine .trans ?_ (ask_keeps ..)
  refine (setLampRec_keeps b _ s).trans (.trans (modBayMode_keeps b fun _ => fresh_debts _) (.trans (modBay_keeps b (by rfl))
    (.trans (enterDark_keeps ?_) (fillShortfall_keeps _))))
  rw [bay_modBay, if_pos rfl]
  exact h

theorem goodNotice_keeps (b : Bay) (old : Option Stage) (x : State) : Keeps x (goodNotice b old x) :=
  ite_keeps (.refl x) (notify_keeps ..)

theorem cmdInstall_stays : Stays s (cmdInstall snd args s).st := by
  refine recordGate_stays fun a => ?_
  split
  · exact yes_stays (newRecord_keeps (by simp [*]))
  · exact no_stays _

theorem cmdReplace_stays : Stays s (cmdReplace snd args s).st := by
  refine recordGate_stays fun a => no_or_stays ?_
  split
  · rename_i h
    exact yes_stays (.trans (newRecord_keeps (by rcases h.1 with h | h <;> simp [h])) (goodNotice_keeps ..))
  · exact no_stays _

theorem takeLamp_keeps {b : Bay} (h : (bay s b).st ≠ .striking) : Keeps s (takeLamp b s) := by
  refine (setLampRec_keeps b none s).trans (.trans (modBayMode_keeps b fun _ => fresh_debts _) (.trans (modBay_keeps b ?_)
    (.trans (lampNotice_keeps ..) (leaveWanted_keeps ..))))
  exact ⟨fun e => (by cases e), fun e => absurd e h⟩

theorem cmdRemove_stays : Stays s (cmdRemove snd args s).st := by
  refine recordGate_stays fun b => no_or_stays ?_
  split
  · exact no_stays _
  · rename_i h
    exact yes_stays (.trans (takeLamp_keeps fun e => h (by rw [e]; rfl)) (ask_keeps ..))

theorem reviveLamp_keeps {b : Bay} (h : (bay s b).st ≠ .striking) : Keeps s (reviveLamp b s) :=
  (setLampRec_keeps ..).trans (.trans (modBay_keeps b ⟨fun e => (by cases e), fun e => absurd e h⟩) (fillShortfall_keeps _))

theorem cmdRevive_stays : Stays s (cmdRevive snd args s).st := by
  refine recordGate_stays fun b => no_or_stays ?_
  split
  · exact yes_stays (.trans (reviveLamp_keeps (by simp [*])) (ask_keeps ..))
  · exact no_stays _

theorem cmdLampinfo_stays : Stays s (cmdLampinfo snd args s).st := by
  unfold cmdLampinfo
  split
  · exact tell_stays _
  · exact no_stays _

theorem cmdMode_stays : Stays s (cmdMode snd args s).st := by
  unfold cmdMode
  split
  · exact gate_stays (yes_stays (.of_same rfl rfl rfl rfl rfl rfl rfl rfl rfl rfl))
  · exact gate_no_stays

theorem setTemp_keeps (m : Option LampMode) : Keeps s (setTemp m s) := .of_same rfl rfl rfl rfl rfl rfl rfl rfl rfl rfl
theorem setCeiling_keeps (m : LampMode) : Keeps s (setCeiling m s) := .of_same rfl rfl rfl rfl rfl rfl rfl rfl rfl rfl

theorem cmdCeilingPersist_stays : Stays s (cmdCeilingPersist snd args s).st := by
  unfold cmdCeilingPersist
  refine no_or_stays ?_
  split
  · exact no_stays _
  · exact ite_stays (yes_stays (.refl s)) (no_or_stays (yes_stays ((setCeiling_keeps _).trans (ask_keeps ..))))

theorem cmdCeilingTemp_stays : Stays s (cmdCeilingTemp snd args s).st := by
  unfold cmdCeilingTemp
  refine no_or_stays ?_
  split
  · exact no_stays _
  · exact yes_stays (setTemp_keeps _)

theorem cmdCeilingCleartemp_stays : Stays s (cmdCeilingCleartemp snd s).st := no_or_stays (yes_stays (setTemp_keeps _))

theorem putProfile_keeps (n : Nat) (p : Option Profile) : Keeps s (putProfile n p s) := .of_same rfl rfl rfl rfl rfl rfl rfl rfl rfl rfl

theorem changeProfile_keeps (n : Nat) (p : Option Profile) : Keeps s (changeProfile snd n p s) :=
  (putProfile_keeps n p).trans ((ask_keeps ..).trans (tableChange_keeps ..))

theorem storeProfile_stays (n : Nat) (p : Profile) : Stays s (storeProfile snd n p s).st := by
  unfold storeProfile
  split
  · exact noWith_stays ..
  · exact ite_stays (yes_stays (.refl s)) (yes_stays (changeProfile_keeps ..))

theorem cmdProfile_stays : Stays s (cmdProfile snd args s).st := by
  unfold cmdProfile
  split
  · exact gate_stays (storeProfile_stays ..)
  · exact gate_no_stays

theorem cmdUnprofile_stays : Stays s (cmdUnprofile snd args s).st := by
  unfold cmdUnprofile
  split
  · exact gate_stays (no_or_stays (no_or_stays (yes_stays (changeProfile_keeps ..))))
  · exact gate_no_stays

theorem storeTrim_stays (n : Nat) (v h : Int) : Stays s (storeTrim snd n v h s).st := by
  unfold storeTrim
  dsimp only
  split
  · exact no_stays _
  · exact ite_stays (yes_stays (.refl s)) (yes_stays ((putProfile_keeps ..).trans ((ask_keeps ..).trans (trimChange_keeps ..))))

theorem cmdTrim_stays : Stays s (cmdTrim snd args s).st := by
  unfold cmdTrim
  split
  · exact gate_stays (storeTrim_stays ..)
  · exact gate_no_stays

theorem cmdProfinfo_stays : Stays s (cmdProfinfo snd args s).st := by
  unfold cmdProfinfo
  split
  · exact tell_stays _
  · split
    · exact no_or_stays (tell_stays _)
    · exact no_stays _

theorem requestSource_stays (p : VPort) (n : Option Nat) : Stays s (requestSource snd p n s).st :=
  no_or_stays (yes_stays (takeRequest_keeps ..))

theorem switchTo_stays (t : Target) : Stays s (switchTo snd t s).st := by
  unfold switchTo
  split
  · exact requestSource_stays ..
  · split
    · exact requestSource_stays ..
    · exact no_stays _

theorem cmdSource_stays : Stays s (cmdSource snd args s).st := by
  unfold cmdSource
  split
  · exact tell_stays _
  · split
    · exact gate_stays (switchTo_stays _)
    · exact gate_no_stays
  · exact gate_no_stays

theorem cmdMute_stays (on : Bool) : Stays s (cmdMute on snd s).st := no_or_stays (no_or_stays (yes_stays (modSel_keeps ..)))

theorem clamp_nudge (x : Int) : nudgeSound (clampInt (-10) 10 x) := by
  unfold nudgeSound clampInt
  omega

theorem nudgeBy_keeps (dv dh : Int) : Keeps s (nudgeBy dv dh s) :=
  .trans (t := { s with geo := { s.geo with
      vAdj := clampInt (-10) 10 (s.geo.vAdj + dv), hAdj := clampInt (-10) 10 (s.geo.hAdj + dh) } })
    { Keeps.of_same (s := s) (t := s) with nudges := fun _ => ⟨clamp_nudge _, clamp_nudge _⟩ } (computation_keeps _)

theorem cmdNudge_stays : Stays s (cmdNudge snd args s).st := by
  unfold cmdNudge
  split
  · exact gate_stays (yes_stays (nudgeBy_keeps ..))
  · exact gate_no_stays

theorem setLimits_keeps (v h : Nat) : Keeps s (setLimits v h s) := .of_same rfl rfl rfl rfl rfl rfl rfl rfl rfl rfl

theorem cmdLimits_stays : Stays s (cmdLimits snd args s).st := by
  unfold cmdLimits
  refine no_or_stays ?_
  split
  · exact no_stays _
  · exact ite_stays (yes_stays (computation_keeps s)) (yes_stays ((setLimits_keeps ..).trans
      ((ask_keeps ..).trans (computation_keeps _))))

theorem cmdSetclock_stays : Stays s (cmdSetclock snd args s).st := by
  unfold cmdSetclock
  split
  · exact gate_stays (yes_stays (setClock_keeps ..))
  · exact gate_no_stays

theorem judgeBooking_stays {n : Nat} {bk : Booking} {k : State → Answer} (h : Stays s (k s).st) :
    Stays s (judgeBooking n bk s k).st := by
  unfold judgeBooking
  refine no_or_stays (no_or_stays ?_)
  split
  · exact noWith_stays ..
  · exact h

theorem addBooking_stays (bk : Booking) : Stays s (addBooking snd bk s).st := by
  unfold addBooking
  split
  · exact no_stays _
  · exact judgeBooking_stays (yes_stays ((putBooking_keeps ..).trans ((ask_keeps ..).trans (evaluate_keeps ..))))

theorem cmdBook_stays : Stays s (cmdBook snd args s).st := by
  refine bookGate_stays ?_
  split
  · exact no_stays _
  · exact addBooking_stays _

theorem storeBooking_keeps (n : Nat) (bk : Booking) : Keeps s (storeBooking snd n bk s) :=
  (putBooking_keeps ..).trans ((putExceptions_keeps ..).trans ((ask_keeps ..).trans (ask_keeps ..)))

theorem changeBooking_stays (n : Nat) (o b : Option Booking) : Stays s (changeBooking snd n o b s).st := by
  unfold changeBooking
  split
  · exact no_or_stays (judgeBooking_stays (ite_stays (yes_stays (evaluate_keeps ..))
      (yes_stays ((storeBooking_keeps ..).trans (evaluate_keeps ..)))))
  · exact no_stays _

theorem cmdRebook_stays : Stays s (cmdRebook snd args s).st := by
  refine bookGate_stays ?_
  split
  · exact no_stays _
  · exact changeBooking_stays ..

theorem cmdUnbook_stays : Stays s (cmdUnbook snd args s).st := by
  refine bookGate_stays ?_
  split
  · exact no_stays _
  · exact no_or_stays (no_or_stays (yes_stays ((endGraceOf_keeps ..).trans ((emptyBooking_keeps ..).trans
      ((ask_keeps ..).trans (ask_keeps ..))))))

theorem addSkip_stays (n : Nat) (d : Date) (bk : Booking) : Stays s (addSkip snd n d bk s).st :=
  no_or_stays (no_or_stays (no_or_stays (no_or_stays (no_or_stays (no_or_stays
    (yes_stays ((putExceptions_keeps ..).trans (ask_keeps ..))))))))

theorem cmdSkip_stays : Stays s (cmdSkip snd args s).st := by
  refine bookGate_stays ?_
  split
  · exact no_stays _
  · split
    · exact no_stays _
    · exact addSkip_stays ..

theorem removeSkip_stays (n : Nat) (d : Date) : Stays s (removeSkip snd n d s).st := by
  unfold removeSkip
  refine no_or_stays ?_
  split
  · exact noWith_stays ..
  · exact yes_stays ((putExceptions_keeps ..).trans ((ask_keeps ..).trans (evaluate_keeps ..)))

theorem cmdUnskip_stays : Stays s (cmdUnskip snd args s).st := by
  refine bookGate_stays ?_
  split
  · exact no_stays _
  · exact removeSkip_stays ..

theorem cmdBookinfo_stays : Stays s (cmdBookinfo snd args s).st := by
  unfold cmdBookinfo
  split
  · exact no_stays _
  · split
    · exact no_stays _
    · exact tell_stays _

theorem extendBy_stays (m : Nat) : Stays s (extendBy m s).st := by
  unfold extendBy
  split
  · exact no_stays _
  · exact no_stays _
  · dsimp only
    refine no_or_stays ?_
    split
    · exact noWith_stays ..
    · exact yes_stays (extendTo_keeps ..)

theorem cmdExtend_stays : Stays s (cmdExtend snd args s).st := by
  unfold cmdExtend
  split
  · exact gate_stays (extendBy_stays _)
  · exact gate_no_stays

theorem endPhase_stays : Stays s (endPhase s).st := by
  unfold endPhase
  split
  · exact no_stays _
  · exact no_stays _
  · exact ite_stays (yes_stays ((endActive_keeps s).trans (scheduleDrop_keeps _))) (yes_stays (endRunning_keeps ..))

theorem cmdEndnow_stays : Stays s (cmdEndnow snd args s).st := gate_stays endPhase_stays

theorem cmdRelock_stays : Stays s (cmdRelock snd args s).st :=
  no_or_stays (no_or_stays (no_or_stays (yes_stays (clearUnlocked_keeps s))))

end Answers

end Sys2Proof.Upkeep

/-! PROOFS. What every step keeps (O57 to O60): the commands of the locks and of the part as a whole, the two ports, and the step. -/

namespace Sys2Proof.Upkeep

open Sys2Proof Sys2Proof.Machine

set_option Elab.async false

/-! ## The commands of the Lock Unit -/

section Locks

variable {snd : Sender} {s : State} {args : List String}

theorem mismatch_stays : Stays s (mismatch s).st :=
  { Stays.refl s with attempts := fun h => le_trans (Nat.sub_le _ 1) h }

theorem tryUnlock_stays (digits : String) : Stays s (tryUnlock digits s).st := by
  have h (u : UnlockedBy) : Keeps s (unlockBy u s) := .of_same rfl rfl rfl rfl rfl rfl rfl rfl rfl rfl
  unfold tryUnlock
  refine no_or_stays ?_
  split
  · exact yes_stays (h _)
  · exact mismatch_stays

theorem cmdUnlock_stays : Stays s (cmdUnlock snd args s).st := by
  unfold cmdUnlock
  refine no_or_stays ?_
  split
  · exact no_stays _
  · exact no_or_stays (tryUnlock_stays _)

theorem restoreAttempts_keeps : Keeps s (restoreAttempts s) :=
  { Keeps.of_same (s := s) (t := s) with attempts := fun _ => le_refl 5 }

theorem cmdAttempts_stays : Stays s (cmdAttempts snd args s).st := gate_stays (no_or_stays (yes_stays restoreAttempts_keeps))

theorem putCode_keeps (n : Nat) (c : Option Code) : Keeps s (putCode n c s) := .of_same rfl rfl rfl rfl rfl rfl rfl rfl rfl rfl

theorem storeCode_stays (n : Nat) (c : Code) : Stays s (storeCode snd n c s).st := by
  unfold storeCode
  refine no_or_stays ?_
  split
  · exact noWith_stays ..
  · exact ite_stays (noWith_stays ..) (yes_stays ((putCode_keeps ..).trans (ask_keeps ..)))

theorem cmdSetcode_stays : Stays s (cmdSetcode snd args s).st := by
  unfold cmdSetcode
  split
  · exact gate_stays (storeCode_stays ..)
  · exact gate_no_stays

theorem cmdDelcode_stays : Stays s (cmdDelcode snd args s).st := by
  unfold cmdDelcode
  split
  · exact gate_stays (no_or_stays (no_or_stays (no_or_stays (yes_stays ((putCode_keeps ..).trans (ask_keeps ..))))))
  · exact gate_no_stays

theorem putMaster_keeps (m : Option String) : Keeps s (putMaster m s) := .of_same rfl rfl rfl rfl rfl rfl rfl rfl rfl rfl

theorem storeMaster_stays (old new : Option String) : Stays s (storeMaster snd old new s).st := by
  unfold storeMaster
  refine no_or_stays (no_or_stays (ite_stays mismatch_stays ?_))
  split
  · exact noWith_stays ..
  · exact yes_stays ((putMaster_keeps _).trans (ask_keeps ..))

theorem cmdSetmaster_stays : Stays s (cmdSetmaster snd args s).st := by
  unfold cmdSetmaster
  split
  · exact gate_stays (storeMaster_stays ..)
  · exact gate_no_stays

theorem modLock_keeps (l : LockUnit) (h : l.attempts = s.lock.attempts) : Keeps s { s with lock := l } :=
  .of_same rfl rfl rfl h rfl rfl rfl rfl rfl rfl

theorem cmdFreeze_stays : Stays s (cmdFreeze snd args s).st := gate_stays (yes_stays (modLock_keeps _ rfl))

theorem setMaint_keeps (v : Bool) : Keeps s { s with lock := { s.lock with maint := v } } := modLock_keeps _ rfl

theorem enterMaint_keeps : Keeps s (enterMaint s) :=
  withLock_keeps ((setMaint_keeps true).trans ((clearUnlocked_keeps _).trans (drop_keeps ..)))

theorem cmdMaintOn_stays : Stays s (cmdMaintOn snd s).st :=
  no_or_stays (no_or_stays (ite_stays (yes_stays (.refl s)) (yes_stays enterMaint_keeps)))

theorem leaveMaint_keeps : Keeps s (leaveMaint s) := .trans (withLock_keeps (setMaint_keeps false)) (retakeActions_keeps _)

theorem cmdMaintOff_stays : Stays s (cmdMaintOff snd s).st :=
  no_or_stays (ite_stays (yes_stays leaveMaint_keeps) (yes_stays (.refl s)))

/-! ## The commands of the line, the faults and the part as a whole -/

theorem storeFilter_stays (n : Nat) (f : Filter) : Stays s (storeFilter snd n f s).st := by
  have h (w : Records) : Keeps s { s with work := w } := .of_same rfl rfl rfl rfl rfl rfl rfl rfl rfl rfl
  exact no_or_stays (ite_stays (yes_stays (.refl s)) (yes_stays ((h _).trans (ask_keeps ..))))

theorem cmdFilter_stays : Stays s (cmdFilter snd args s).st := by
  unfold cmdFilter
  split
  · exact gate_stays (storeFilter_stays ..)
  · exact gate_no_stays

theorem storeMask_stays (n : Nat) (v : Byte) : Stays s (storeMask snd n v s).st := by
  have h (w : Records) : Keeps s { s with work := w } := .of_same rfl rfl rfl rfl rfl rfl rfl rfl rfl rfl
  exact ite_stays (yes_stays (.refl s)) (yes_stays ((h _).trans (ask_keeps ..)))

theorem cmdMask_stays : Stays s (cmdMask snd args s).st := by
  unfold cmdMask
  split
  · exact gate_stays (storeMask_stays ..)
  · exact gate_no_stays

theorem cmdSettingQuery_stays : Stays s (cmdSettingQuery snd args s).st := by
  unfold cmdSettingQuery
  split
  · split
    · exact tell_stays _
    · exact no_stays _
  · exact no_stays _

theorem clearLatched_keeps (l : List FaultId) : Keeps s (clearLatched l s) :=
  { Keeps.of_same (s := s) (t := s) with
    latch := fun h f hf => by
      simp only [clearLatched, FaultTable.get_make]
      split
      · simp
      · exact h f hf }

theorem cmdClearfault_stays : Stays s (cmdClearfault snd args s).st := by
  unfold cmdClearfault
  split
  · exact gate_stays (yes_stays (clearLatched_keeps _))
  · exact gate_no_stays

theorem cmdStatus_stays : Stays s (cmdStatus snd args s).st := ite_stays { Stays.refl s with } (no_stays _)

theorem cmdRestart_stays : Stays s (cmdRestart snd args s).st :=
  gate_stays (ite_stays (.of_same_blocks rfl rfl rfl rfl rfl rfl rfl rfl rfl rfl rfl rfl rfl rfl) (yes_stays (restartAll_keeps s)))

/-! ## The table of verbs -/

theorem cmdPlan_stays : Stays s (cmdPlan snd args s).st := cmdSetting_stays .refl
theorem cmdDefmode_stays : Stays s (cmdDefmode snd args s).st := cmdSetting_stays .refl
theorem cmdCondint_stays : Stays s (cmdCondint snd args s).st := cmdSetting_stays .refl
theorem cmdAutoscan_stays : Stays s (cmdAutoscan snd args s).st := cmdSetting_stays .refl
theorem cmdPrewarm_stays : Stays s (cmdPrewarm snd args s).st := cmdSetting_stays .refl
theorem cmdGrace_stays : Stays s (cmdGrace snd args s).st := cmdSetting_stays .refl
theorem cmdMount_stays : Stays s (cmdMount snd args s).st :=
  cmdSetting_stays fun x => (setImmediate_keeps x).trans (computation_keeps _)
theorem cmdIdle_stays : Stays s (cmdIdle snd args s).st := cmdSetting_stays idleChange_keeps
theorem cmdIdlelock_stays : Stays s (cmdIdlelock snd args s).st := cmdSetting_stays clearUnlocked_keeps

end Locks

/-- Whatever the verb and its arguments, a command leaves the state sound. -/
theorem commandOf_stays (snd : Sender) (verb : String) (args : List String) (s : State) : Stays s (commandOf snd verb args s).st := by
  unfold commandOf
  split
  · exact cmdRestart_stays
  · exact cmdLampon_stays
  · exact cmdLampoff_stays
  · exact cmdInstall_stays
  · exact cmdReplace_stays
  · exact cmdRemove_stays
  · exact cmdRevive_stays
  · exact cmdLampinfo_stays
  · exact cmdMode_stays
  · exact query_stays
  · exact query_stays
  · exact query_stays
  · exact cmdProfile_stays
  · exact cmdUnprofile_stays
  · exact cmdTrim_stays
  · exact cmdProfinfo_stays
  · exact cmdSource_stays
  · exact cmdNudge_stays
  · exact cmdLimits_stays
  · exact query_stays
  · exact cmdSetclock_stays
  · exact query_stays
  · exact cmdBook_stays
  · exact cmdRebook_stays
  · exact cmdUnbook_stays
  · exact cmdSkip_stays
  · exact cmdUnskip_stays
  · exact cmdBookinfo_stays
  · exact query_stays
  · exact cmdExtend_stays
  · exact cmdEndnow_stays
  · exact query_stays
  · exact cmdRelock_stays
  · exact cmdUnlock_stays
  · exact cmdAttempts_stays
  · exact cmdSetcode_stays
  · exact cmdDelcode_stays
  · exact cmdSetmaster_stays
  · exact cmdFreeze_stays
  · exact query_stays
  · exact cmdFilter_stays
  · exact cmdMask_stays
  · exact query_stays
  · exact cmdClearfault_stays
  · exact query_stays
  · exact cmdStatus_stays
  · split
    · exact cmdMute_stays _
    · exact cmdMute_stays _
    · exact no_or_stays (no_stays _)
  · split
    · exact cmdMaintOn_stays
    · exact cmdMaintOff_stays
    · exact no_or_stays (no_stays _)
  · split
    · exact cmdCeilingCleartemp_stays
    · exact cmdCeilingPersist_stays
    · exact cmdCeilingTemp_stays
    · exact no_or_stays (no_stays _)
  · split
    · exact cmdSettingQuery_stays
    · rename_i w ws
      rcases parseSetting w with _ | k
      · exact no_stays _
      · cases k with
        | address => exact cmdAddress_stays
        | plan => exact cmdPlan_stays
        | mount => exact cmdMount_stays
        | defmode => exact cmdDefmode_stays
        | condint => exact cmdCondint_stays
        | autoscan => exact cmdAutoscan_stays
        | prewarm => exact cmdPrewarm_stays
        | grace => exact cmdGrace_stays
        | idle => exact cmdIdle_stays
        | idlelock => exact cmdIdlelock_stays
  · exact no_stays _

/-! ## Taking a command -/

theorem judge_stays {words : List String} {cmd : State → Answer} {s : State} (h : Stays s (cmd s).st) :
    Stays s (judge words cmd s).st := no_or_stays h

theorem runBody_stays (snd : Sender) (words : List String) (s : State) : Stays s (runBody snd words s).st := by
  unfold runBody
  split
  · exact no_stays _
  · exact ite_stays (judge_stays (commandOf_stays ..)) (no_stays _)

theorem run_stays {snd : Sender} {words : List String} {cmd : State → Answer} {s t : State}
    (ht : run snd words cmd s = .next t) (h : ∀ x, Stays x (cmd x).st) : Stays s t := by
  cases ht
  refine (ready_stays s).trans ?_
  unfold takeOn
  split
  · exact .refl _
  · split
    · exact modChan_stays
    · exact answer_stays (judge_stays (h _))

theorem takeBody_stays (snd : Sender) (words : List String) (s : State) : Stays s (takeBody snd words s) := by
  unfold takeBody
  split
  · exact modChan_stays
  · exact answer_stays (runBody_stays ..)

/-! ## The two ports -/

section Ports

variable (s : State)

theorem modChan_keeps (p : CmdPort) (f : Channel → Channel) : Keeps s (modChan p f s) := modChan_stays.toKeeps

theorem setRx_keeps (p : CmdPort) (rx : Option (List Char)) : Keeps s (setRx p rx s) := modChan_keeps ..

theorem heard_keeps (p : CmdPort) : Keeps s (heard p s) := modChan_keeps ..

theorem takeBody_keeps (snd : Sender) (words : List String) : Keeps s (takeBody snd words s) := (takeBody_stays ..).toKeeps

theorem lineTake_keeps (f : Frame) : Keeps s (lineTake f s) := by
  unfold lineTake
  split
  · exact .refl s
  · exact ite_keeps (.refl s) (ite_keeps (ite_keeps (takeBody_keeps ..) (.refl s)) (ite_keeps (takeBody_keeps ..) (.refl s)))

theorem lecternTake_keeps (f : Frame) : Keeps s (lecternTake f s) := ite_keeps (takeBody_keeps ..) (.refl s)

theorem enterDeaf_keeps : Keeps s (enterDeaf s) := .of_same rfl rfl rfl rfl rfl rfl rfl rfl rfl rfl

theorem countBad_keeps : Keeps s (countBad s) := by
  have h : Keeps s { s with comms := { s.comms with errCount := satAdd 255 s.comms.errCount 8 } } :=
    { Keeps.of_same (s := s) (t := s) with errors := fun _ => Nat.min_le_left .. }
  exact ite_keeps (h.trans (enterDeaf_keeps _)) h

theorem countGood_keeps : Keeps s (countGood s) :=
  { Keeps.of_same (s := s) (t := s) with errors := fun h => le_trans (Nat.sub_le _ 1) h }

theorem lineBad_keeps : Keeps s (lineBad s) := (setRx_keeps ..).trans (countBad_keeps _)

theorem lineStart_keeps (c : Char) : Keeps s (lineStart c s) := by
  have h : Keeps s (if s.comms.line.rx.isSome then lineBad s else s) := ite_keeps (lineBad_keeps s) (.refl s)
  exact ite_keeps h (h.trans (setRx_keeps ..))

theorem lineClose_keeps (cs : List Char) : Keeps s (lineClose cs s) := by
  unfold lineClose
  split
  · exact (setRx_keeps ..).trans ((countGood_keeps _).trans (lineTake_keeps ..))
  · exact lineBad_keeps s

theorem lineMore_keeps (c : Char) (cs : List Char) : Keeps s (lineMore c cs s) :=
  ite_keeps (lineClose_keeps ..) (ite_keeps (lineBad_keeps s) (setRx_keeps ..))

theorem lineJudge_keeps (c : Char) : Keeps s (lineJudge c s) := by
  refine ite_keeps (lineStart_keeps ..) ?_
  split
  · exact lineMore_keeps ..
  · exact .refl s

theorem lineChar_keeps (c : Char) : Keeps s (lineChar c s) :=
  ite_keeps (.refl s) (ite_keeps (heard_keeps ..)
    ((ite_keeps (lineBad_keeps s) (.refl s)).trans ((heard_keeps ..).trans (lineJudge_keeps ..))))

theorem lineChars_keeps (cs : List Char) : Keeps s (lineChars cs s) := by
  induction cs generalizing s with
  | nil => exact .refl s
  | cons c cs ih => exact (lineChar_keeps s c).trans (ih _)

theorem lecternMore_keeps (c : Char) (cs : List Char) : Keeps s (lecternMore c cs s) := by
  refine ite_keeps ?_ (ite_keeps (setRx_keeps ..) (setRx_keeps ..))
  split
  · exact (setRx_keeps ..).trans (lecternTake_keeps ..)
  · exact setRx_keeps ..

theorem lecternJudge_keeps (c : Char) : Keeps s (lecternJudge c s) := by
  refine ite_keeps (setRx_keeps ..) ?_
  split
  · exact lecternMore_keeps ..
  · exact .refl s

theorem lecternChar_keeps (c : Char) : Keeps s (lecternChar c s) :=
  (ite_keeps (setRx_keeps ..) (.refl s)).trans ((heard_keeps ..).trans (lecternJudge_keeps ..))

theorem lecternChars_keeps (cs : List Char) : Keeps s (lecternChars cs s) := by
  induction cs generalizing s with
  | nil => exact .refl s
  | cons c cs ih => exact (lecternChar_keeps s c).trans (ih _)

theorem lineBadFrame_keeps (start : Option Char) : Keeps s (lineBadFrame start s) := by
  have h : Keeps s (lineBad (heard .line s)) := (heard_keeps ..).trans (lineBad_keeps _)
  refine ite_keeps (.refl s) (ite_keeps (heard_keeps ..) ?_)
  dsimp only
  split
  · exact ite_keeps (h.trans (setRx_keeps ..)) h
  · exact h

theorem badFrame_keeps (cause : BadCause) : Keeps s (badFrame cause s) := by
  unfold badFrame
  split
  · exact lineBadFrame_keeps ..
  · exact lineBadFrame_keeps ..
  · exact lineBadFrame_keeps ..
  · exact lineBadFrame_keeps ..
  · exact (heard_keeps ..).trans (setRx_keeps ..)

theorem deafEnds_keeps : Keeps s (deafEnds s) :=
  { Keeps.of_same (s := s) (t := s) with errors := fun _ => Nat.zero_le _ }

theorem drainList_keeps (p : CmdPort) (l : List (Sender × List String)) : Keeps s (drainList p l s) := by
  induction l generalizing s with
  | nil => exact modChan_keeps ..
  | cons m l ih =>
    refine ite_keeps (modChan_keeps ..) ((ready_stays s).toKeeps.trans (.trans ?_ (ih _)))
    exact (answer_stays (runBody_stays ..)).toKeeps

theorem drain_keeps (p : CmdPort) : Keeps s (drain p s) := ite_keeps (.refl s) (ite_keeps (.refl s) (drainList_keeps ..))

theorem serve_keeps (p : CmdPort) : Keeps s (serve p s) := (sendIfReady_stays ..).toKeeps.trans (drain_keeps ..)

theorem recordWrite_keeps (j : WriteJob) (ok : Bool) : Keeps s (recordWrite j ok s) :=
  ite_keeps (.of_same rfl rfl rfl rfl rfl rfl rfl rfl rfl rfl) (.of_same rfl rfl rfl rfl rfl rfl rfl rfl rfl rfl)

theorem afterWrite_keeps : Keeps s (afterWrite s) := by
  have h : Keeps s { s with comms := { s.comms with restartBy := none } } := .of_same rfl rfl rfl rfl rfl rfl rfl rfl rfl rfl
  unfold afterWrite
  split
  · exact h.trans (answer_stays (yes_stays (restartAll_keeps _))).toKeeps
  · exact startWrite_keeps s

theorem writeEnds_keeps (ok : Bool) : Keeps s (writeEnds ok s) := by
  unfold writeEnds
  split
  · exact .refl s
  · exact (recordWrite_keeps ..).trans ((foldl_keeps (fun _ _ => modChan_keeps ..) ..).trans ((afterWrite_keeps _).trans
      ((settle_keeps _).trans ((serve_keeps ..).trans (serve_keeps ..)))))

theorem noticeSends_keeps : Keeps s (noticeSends s) := by
  unfold noticeSends
  split
  · rename_i n _
    have h : Keeps s { s with notices := { s.notices with queue := s.notices.queue.erase n } } :=
      { Keeps.of_same (s := s) (t := s) with
        notices := fun hs => ⟨le_trans List.length_erase_le hs.1, hs.2.sublist List.erase_sublist⟩ }
    exact h.trans (transmit_stays ..).toKeeps
  · exact .refl s

end Ports

end Sys2Proof.Upkeep

/-! PROOFS. What every step keeps: O57 to O60. -/

namespace Sys2Proof.Upkeep

open Sys2Proof Sys2Proof.Machine

set_option Elab.async false

/-! ## The step -/

theorem Stays.of_next {s t u : State} (h : (.next u : Result) = .next t) (hu : Stays s u) :
    Stays s t := by
  cases h
  exact hu

/-- Every command and every event of the table leaves the state sound. -/
theorem exec_stays {i : Instr} {s t : State} (h : exec i s = .next t) : Stays s t := by
  cases i with
  | powerOn _ => exact .of_next h (powerUp_stays ..)
  | restart _ _ => exact run_stays h fun _ => cmdRestart_stays
  | lineFrame _ => exact actLoose_stays (fun _ => lineChars_keeps ..) h
  | badFrame _ => exact act_stays (fun _ => badFrame_keeps ..) h
  | interCharacterGap => exact onTime_stays h fun _ _ => lineBad_keeps _
  | lineDeafEnd => exact onTimeLoose_stays h fun _ _ => (deafEnds_keeps _).trans ((settle_keeps _).trans (serve_keeps ..))
  | lecternFrame _ => exact actLoose_stays (fun _ => lecternChars_keeps ..) h
  | noticeSend => exact onTime_stays h fun _ _ => noticeSends_keeps _
  | storeWriteDone _ => exact actLoose_stays (fun _ => writeEnds_keeps ..) h
  | lampon _ _ => exact run_stays h fun _ => cmdLampon_stays
  | lampoff _ _ => exact run_stays h fun _ => cmdLampoff_stays
  | settingPlan _ _ => exact run_stays h fun _ => cmdPlan_stays
  | igniterGrant => exact .of_next h (fuGrant_stays ..)
  | strikeSuccess _ => exact act_stays (fun _ => litAsserted_keeps ..) h
  | strikeWindowEnd _ => exact onTime_stays h fun _ hd => strikeFails_keeps (timerEnded_st hd)
  | warmUpEnd _ => exact onTime_stays h fun _ hd => warmUpEnds_keeps (by simp [timerEnded_st hd])
  | litSenseDrop _ => exact act_stays (fun _ => litDrops_keeps ..) h
  | coolingEnd _ => exact onTime_stays h fun _ hd => coolingEnds_keeps (by simp [timerEnded_st hd])
  | restEnd _ => exact onTime_stays h fun _ hd => enterDark_keeps (by simp [timerEnded_st hd])
  | strikeHoldoffEnd _ => exact onTime_stays h fun _ _ => .refl _
  | doorOpen _ => exact actLoose_stays (fun _ => doorOpens_keeps ..) h
  | doorClose _ => exact act_stays (fun _ => doorCloses_keeps ..) h
  | ballastFaultAsserted _ => exact actLoose_stays (fun _ => ballastAsserts_keeps ..) h
  | ballastFaultReleased _ => exact act_stays (fun _ => setBallast_keeps ..) h
  | spacingEnd => exact onTime_stays h fun _ _ => spacingEnds_keeps _
  | strikeListExpiry _ => exact onTime_stays h fun _ _ => modBay_keeps _ (by rfl)
  | lossBarEnd _ => exact onTime_stays h fun _ _ => lossBarEnds_keeps ..
  | lampLostExpiry _ => exact onTime_stays h fun _ _ => modBay_keeps _ (by rfl)
  | litSecond => exact (completeUnsaved_stays s).trans (onTime_stays h fun _ _ => litSecondPasses_keeps _)
  | wearCarry _ => exact .of_next h (fuCarry_stays ..)
  | unsavedWrite _ => exact .of_next h (fuUnsaved_stays ..)
  | install _ _ => exact run_stays h fun _ => cmdInstall_stays
  | replace _ _ => exact run_stays h fun _ => cmdReplace_stays
  | remove _ _ => exact run_stays h fun _ => cmdRemove_stays
  | revive _ _ => exact run_stays h fun _ => cmdRevive_stays
  | lampinfo _ _ => exact run_stays h fun _ => cmdLampinfo_stays
  | mode _ _ => exact run_stays h fun _ => cmdMode_stays
  | settingDefmode _ _ => exact run_stays h fun _ => cmdDefmode_stays
  | ceilingPersist _ _ => exact run_stays h fun _ => cmdCeilingPersist_stays
  | ceilingTemp _ _ => exact run_stays h fun _ => cmdCeilingTemp_stays
  | ceilingCleartemp _ => exact run_stays h fun _ => cmdCeilingCleartemp_stays
  | ecoMinute _ => exact .of_next h (fuEco_stays ..)
  | conditioningDue _ => exact .of_next h (fuConditioning_stays ..)
  | settingCondint _ _ => exact run_stays h fun _ => cmdCondint_stays
  | fullRunComplete _ => exact .of_next h (fuFullRun_stays ..)
  | modeinfo _ _ => exact run_stays h fun _ => query_stays
  | thermistorConversion _ _ => exact actLoose_stays (fun _ => convert_keeps ..) h
  | housingSensorFault => exact .of_next h (fuSensor_stays ..)
  | thermalLevelChange => exact .of_next h (fuLevel_stays ..)
  | hotHallChange => exact .of_next h (fuHall_stays ..)
  | tachPulse => exact act_stays (fun _ => tachPulses_keeps ..) h
  | fanStall => exact onTime_stays h fun _ _ => fanStalls_keeps _
  | heatinfo _ _ => exact run_stays h fun _ => query_stays
  | portSample _ => exact act_stays (fun _ => samplesTaken_keeps ..) h
  | portinfo _ _ => exact run_stays h fun _ => query_stays
  | profile _ _ => exact run_stays h fun _ => cmdProfile_stays
  | unprofile _ _ => exact run_stays h fun _ => cmdUnprofile_stays
  | trim _ _ => exact run_stays h fun _ => cmdTrim_stays
  | profinfo _ _ => exact run_stays h fun _ => cmdProfinfo_stays
  | profinfoTable _ => exact run_stays h fun _ => tell_stays _
  | source _ _ => exact run_stays h fun _ => cmdSource_stays
  | switchLock => exact .of_next h (fuSwitchLock_stays ..)
  | switchTimeout => exact onTime_stays h fun _ _ => switchTimesOut_keeps _
  | signalLoss => exact .of_next h (fuLoss_stays ..)
  | classChange => exact .of_next h (fuClass_stays ..)
  | classChangeTimerEnd => exact onTime_stays h fun _ _ => modSel_keeps ..
  | nosignalLock => exact .of_next h (fuNoSignalLock_stays ..)
  | scanStart => exact onTime_stays h fun _ _ => scanBegins_keeps _
  | dwellLock => exact .of_next h (fuDwellLock_stays ..)
  | dwellEnd => exact onTime_stays h fun _ _ => dwellEnds_keeps _
  | settingAutoscan _ _ => exact run_stays h fun _ => cmdAutoscan_stays
  | muteOn _ => exact run_stays h fun _ => cmdMute_stays _
  | muteOff _ => exact run_stays h fun _ => cmdMute_stays _
  | sourceQuery _ => exact run_stays h fun _ => tell_stays _
  | tiltRead _ => exact act_stays (fun _ => tiltReads_keeps ..) h
  | tiltInvalid => exact .of_next h (fuTilt_stays ..)
  | cadenceComputation => exact onTime_stays h fun _ _ => cadence_keeps _
  | autoTiltConfirm => exact .of_next h (fuConfirm_stays ..)
  | warpReady => exact act_stays (fun _ => warpAccepts_keeps ..) h
  | warpReplyWindowEnd => exact onTime_stays h fun _ _ => warpWindowEnds_keeps _
  | nudge _ _ => exact run_stays h fun _ => cmdNudge_stays
  | limits _ _ => exact run_stays h fun _ => cmdLimits_stays
  | settingMount _ _ => exact run_stays h fun _ => cmdMount_stays
  | geoinfo _ _ => exact run_stays h fun _ => query_stays
  | minuteEdge => exact onTimeLoose_stays h fun _ _ => minuteEdgePasses_keeps _
  | clockEnd => exact onTimeLoose_stays h fun _ _ => endClock_keeps _
  | setclock _ _ => exact run_stays h fun _ => cmdSetclock_stays
  | clock _ _ => exact run_stays h fun _ => query_stays
  | settingPrewarm _ _ => exact run_stays h fun _ => cmdPrewarm_stays
  | settingGrace _ _ => exact run_stays h fun _ => cmdGrace_stays
  | book _ _ => exact run_stays h fun _ => cmdBook_stays
  | rebook _ _ => exact run_stays h fun _ => cmdRebook_stays
  | unbook _ _ => exact run_stays h fun _ => cmdUnbook_stays
  | skip _ _ => exact run_stays h fun _ => cmdSkip_stays
  | unskip _ _ => exact run_stays h fun _ => cmdUnskip_stays
  | bookinfo _ _ => exact run_stays h fun _ => cmdBookinfo_stays
  | booklist _ _ => exact run_stays h fun _ => query_stays
  | extend _ _ => exact run_stays h fun _ => cmdExtend_stays
  | endnow _ _ => exact run_stays h fun _ => cmdEndnow_stays
  | idleAutoOff => exact onTimeLoose_stays h fun _ _ => idleOff_keeps _
  | settingIdle _ _ => exact run_stays h fun _ => cmdIdle_stays
  | occinfo _ _ => exact run_stays h fun _ => query_stays
  | settingIdlelock _ _ => exact run_stays h fun _ => cmdIdlelock_stays
  | relock _ _ => exact run_stays h fun _ => cmdRelock_stays
  | unlock _ _ => exact run_stays h fun _ => cmdUnlock_stays
  | attempts _ _ => exact run_stays h fun _ => cmdAttempts_stays
  | setcode _ _ => exact run_stays h fun _ => cmdSetcode_stays
  | delcode _ _ => exact run_stays h fun _ => cmdDelcode_stays
  | setmaster _ _ => exact run_stays h fun _ => cmdSetmaster_stays
  | freeze _ _ => exact run_stays h fun _ => cmdFreeze_stays
  | maintOn _ => exact run_stays h fun _ => cmdMaintOn_stays
  | maintOff _ => exact run_stays h fun _ => cmdMaintOff_stays
  | lockinfo _ _ => exact run_stays h fun _ => query_stays
  | filter _ _ => exact run_stays h fun _ => cmdFilter_stays
  | mask _ _ => exact run_stays h fun _ => cmdMask_stays
  | lineinfo _ _ => exact run_stays h fun _ => query_stays
  | settingAddress _ _ => exact run_stays h fun _ => cmdAddress_stays
  | settingQuery _ _ => exact run_stays h fun _ => cmdSettingQuery_stays
  | clearfault _ _ => exact run_stays h fun _ => cmdClearfault_stays
  | faults _ _ => exact run_stays h fun _ => query_stays
  | status _ _ => exact run_stays h fun _ => cmdStatus_stays
  | replySend _ => exact onTimeLoose_stays h fun _ _ => serve_keeps ..

theorem clockSecond_stays (s : State) : Stays s (clockSecond s) := by
  have hidle (x : Sched) (ha : x.active = s.sched.active) (hu : x.upcoming = s.sched.upcoming) (hi : x.idle = s.sched.idle) :
      idleSound s → idleSound { s with sched := x } := by
    simp only [idleSound, ha, hu, hi]
    exact id
  unfold clockSecond
  split
  · exact .refl s
  · rename_i c hc
    have hset : s.sched.clock.isNone = false := by rw [hc]; rfl
    split
    · exact .of_same (hidle _ rfl rfl rfl) rfl rfl rfl rfl rfl rfl rfl rfl rfl rfl rfl rfl hset.symm rfl
    · split
      · exact .of_same (hidle _ rfl rfl rfl) rfl rfl rfl rfl rfl rfl rfl rfl rfl rfl rfl rfl hset.symm rfl
      · exact .of_same (hidle _ rfl rfl rfl) rfl rfl rfl rfl rfl rfl rfl rfl rfl rfl rfl rfl rfl rfl

/-- The idle timer moves only where nothing keeps it at 0 (R151). -/
theorem idleSecond_stays (s : State) : Stays s (idleSecond s) := by
  unfold idleSecond
  split
  · rename_i h
    simp only [idleRuns, Bool.and_eq_true, Option.isNone_iff_eq_none, decide_eq_true_eq, Bool.or_eq_true, beq_iff_eq] at h
    obtain ⟨⟨⟨hactive, hupcoming⟩, hcount⟩, hsel⟩ := h
    refine .of_same (fun _ hstill => ?_)
    rcases hstill with h0 | h0 | h0 | h0
    · exact absurd h0 hcount.ne'
    · exact absurd hactive h0
    · exact absurd hupcoming h0
    · rcases hsel with e | e <;> exact absurd (h0.symm.trans e) (by decide)
  · exact .refl s

theorem tick_stays (s : State) : Stays s (tick s) := by
  have h : Stays s { s with uptime := s.uptime + 1 } := .of_same_blocks rfl rfl rfl rfl rfl rfl rfl rfl rfl rfl rfl rfl rfl rfl
  unfold tick
  dsimp only
  split
  · exact h.trans ((clockSecond_stays _).trans (idleSecond_stays _))
  · exact h

theorem choose_stays (s : State) (l : List Instr) : Stays s (choose s l) := by
  unfold choose
  split
  · exact .refl s
  · exact .of_same_blocks
  · exact .of_same_blocks

theorem idle_stays (s : State) : Stays s (idle s) := by
  unfold idle
  split
  · exact tick_stays s
  · exact choose_stays ..

theorem setPending_stays (s : State) (l : List Instr) : Stays s { s with pending := l } :=
  .of_same_blocks rfl rfl rfl rfl rfl rfl rfl rfl rfl rfl rfl rfl rfl rfl

theorem step_stays {s t : State} (h : step s = .next t) : Stays s t := by
  unfold step at h
  split at h
  · exact (setPending_stays s _).trans (exec_stays h)
  · exact .of_next h (idle_stays s)

/-- Settles O57: each step is made of parts that keep every advisory entry unlatched, and ends by settling, which moves the Fault Table
to its conditions and evaluates the Mode Unit and the fan. -/
theorem faultsAndModesStayTrue : Obligations.FaultsAndModesStayTrue :=
  fun _ _ hf hm h => ⟨(step_stays h).faults hf, (step_stays h).modes hm⟩

/-- Settles O58: a bay enters Striking by the grant of a free igniter only, and leaves it as it gives the igniter up. -/
theorem igniterStaysExclusive : Obligations.IgniterStaysExclusive := by
  intro s t hs h
  have ht := (step_stays h).igniter hs
  refine ⟨ht, fun ⟨ha, hb⟩ => ?_⟩
  have hab := ((ht .bayA).2 ha).symm.trans ((ht .bayB).2 hb)
  cases hab

/-- Settles O59: only the placing of a notice lengthens the queue, and `put_sound` says that it keeps it sound. -/
theorem noticeQueueStaysSound : Obligations.NoticeQueueStaysSound := fun _ _ hs h => (step_stays h).notices hs

/-- Settles O60: each counter is kept in its range by every part of a step, and the idle timer by the settling that ends it. -/
theorem countersStayInRange : Obligations.CountersStayInRange := by
  intro s t hs h
  rw [countsSound_iff] at *
  obtain ⟨hattempts, herrors, hdebts, hv, hh, hring, hrun, hidle⟩ := hs
  have hst := step_stays h
  exact ⟨hst.attempts hattempts, hst.errors herrors, hst.debts hdebts, (hst.nudges ⟨hv, hh⟩).1, (hst.nudges ⟨hv, hh⟩).2,
    (hst.tilts ⟨hring, hrun⟩).1, (hst.tilts ⟨hring, hrun⟩).2, hst.idle hidle⟩

end Sys2Proof.Upkeep

/-! PROOFS. What a step is, what passes with no command waiting, and what power-on leaves of the lamps (O1 to O4, O6). -/

namespace Sys2Proof.Steps

open Sys2Proof Sys2Proof.Machine Sys2Proof.Upkeep

set_option Elab.async false

/-! ## The step -/

/-- Settles O1: a step is a match on the queue. -/
theorem frontCommandRuns : Obligations.FrontCommandRuns := fun _ _ _ => rfl

theorem exec_next (i : Instr) (s : State) : ∃ t, exec i s = .next t := by
  cases i <;> exact ⟨_, rfl⟩

/-- Settles O2: each meaning ends in a next state, and so does the idle step. -/
theorem everyStepGoesOn : Obligations.EveryStepGoesOn := by
  intro s
  unfold step
  split
  · exact exec_next ..
  · exact ⟨_, rfl⟩

/-! ## The reset state -/

theorem reset_faultsSound : faultsSound State.reset := by
  intro f
  have hclear : State.reset.faults.get f = .clear := clear_get f
  have hcond : faultCond State.reset f = false := by
    cases f
    case strikeFailed b | lampFailed b | lampLost b | ballastFault b | doorOpen b | lampLow b | lampExhausted b => cases b <;> rfl
    all_goals rfl
  simp [hclear, hcond]

theorem reset_modesSound : modesSound State.reset := by
  rw [modesSound_iff]
  refine ⟨fun b => ?_, rfl⟩
  cases b <;> simp [bayModeSound, State.reset, bay, bayMode, PerBay.get, PerBay.both, BayCtl.fresh, BayMode.fresh]

theorem reset_noticesSound : noticesSound State.reset := ⟨by decide, by decide⟩

theorem reset_igniterSound : igniterSound State.reset := fun b => by cases b <;> decide

theorem reset_countsSound : countsSound State.reset := by
  rw [countsSound_iff]
  exact ⟨by decide, by decide, fun b => by cases b <;> exact ⟨by decide, by decide, .inl rfl⟩, ⟨by decide, by decide⟩,
    ⟨by decide, by decide⟩, rfl, by decide, fun _ => rfl⟩

/-- Settles O4: each block of the reset state is read off its definition. -/
theorem shippedReset : Obligations.ShippedReset :=
  ⟨fun b => by cases b <;> rfl, rfl, rfl, rfl, rfl, rfl, rfl, rfl, rfl, rfl, rfl, rfl, rfl, rfl, rfl, rfl, rfl, rfl, rfl, rfl, rfl,
    rfl, rfl, rfl, rfl, clear_get, reset_faultsSound, reset_modesSound, reset_noticesSound, reset_igniterSound, reset_countsSound⟩

/-! ## The empty queue -/

theorem step_empty {s : State} (h : s.pending = []) : step s = .next (idle s) := by
  unfold step
  rw [h]

theorem getD_mod_mem {α : Type} (l : List α) (d : α) (k : Nat) (h : l ≠ []) : l.getD (k % l.length) d ∈ l := by
  have hlt : k % l.length < l.length := Nat.mod_lt _ (List.length_pos_iff.2 h)
  rw [List.getD_eq_getElem _ _ hlt]
  exact List.getElem_mem hlt

theorem choose_spec {s : State} {l : List Instr} (h : l ≠ []) : ∃ i n, i ∈ l ∧ choose s l = { s with pending := [i], choices := n } := by
  match l, h with
  | [i], _ => exact ⟨i, s.choices, by simp, rfl⟩
  | i :: j :: l, h => exact ⟨_, s.choices + 1, getD_mod_mem _ i _ h, rfl⟩

theorem idle_of_due {s : State} (h : dueEvents s ≠ []) : idle s = choose s (dueEvents s) := by
  rw [idle, if_neg (by simpa using h)]

theorem idle_of_none {s : State} (h : dueEvents s = []) : idle s = tick s := by rw [idle, h]; rfl

theorem clockSecond_rest (s : State) :
    clockSecond s = { s with sched := (clockSecond s).sched } ∧ (clockSecond s).sched.active = s.sched.active ∧
      (clockSecond s).sched.upcoming = s.sched.upcoming ∧ (clockSecond s).sched.lastEnded = s.sched.lastEnded ∧
      (clockSecond s).sched.idle = s.sched.idle := by
  unfold clockSecond
  split
  · exact ⟨rfl, rfl, rfl, rfl, rfl⟩
  · split
    · exact ⟨rfl, rfl, rfl, rfl, rfl⟩
    · split <;> exact ⟨rfl, rfl, rfl, rfl, rfl⟩

theorem clockSecond_none {s : State} (h : s.sched.clock = none) : clockSecond s = s := by rw [clockSecond, h]

theorem clockSecond_within {s : State} {c : HallClock} (h : s.sched.clock = some c) (hc : c.secs + 1 < 86400) :
    (clockSecond s).sched.clock = some ⟨c.date, c.secs + 1⟩ ∧
      (clockSecond s).sched.minuteDue = (s.sched.minuteDue || (c.secs + 1) % 60 == 0) := by
  simp only [clockSecond, h, if_pos hc]
  exact ⟨rfl, rfl⟩

theorem clockSecond_midnight {s : State} {c : HallClock} (h : s.sched.clock = some c) (hc : 86400 ≤ c.secs + 1) (hd : c.date < 36524) :
    (clockSecond s).sched.clock = some ⟨c.date + 1, 0⟩ ∧ (clockSecond s).sched.minuteDue = true := by
  have hd : c.date < lastDate := hd
  simp only [clockSecond, h, if_neg (Nat.not_lt.2 hc), if_pos hd]
  exact ⟨rfl, rfl⟩

theorem clockSecond_end {s : State} {c : HallClock} (h : s.sched.clock = some c) (hc : 86400 ≤ c.secs + 1) (hd : 36524 ≤ c.date) :
    (clockSecond s).sched.clock = some c ∧ (clockSecond s).sched.endDue = true := by
  have hd : ¬c.date < lastDate := Nat.not_lt.2 hd
  simp only [clockSecond, h, if_neg (Nat.not_lt.2 hc), if_neg hd]
  exact ⟨h, rfl⟩

theorem idleRuns_iff (s : State) :
    idleRuns s = true ↔ s.sched.active = none ∧ s.sched.upcoming = none ∧ 0 < s.lamp.count ∧
      (s.sel.st = .noSignal ∨ s.sel.st = .scanning) := by
  simp [idleRuns, and_assoc]

theorem idleSecond_spec (s : State) :
    idleSecond s = { s with sched := { s.sched with
      idle := if idleRuns s then min (s.work.settings.idle * 60) (s.sched.idle + 1) else s.sched.idle } } := by
  unfold idleSecond
  split <;> simp_all [modSched, idleLimit]

theorem tick_within {s : State} (h : (s.uptime + 1) % 1000 ≠ 0) : tick s = { s with uptime := s.uptime + 1 }  :=
  if_neg h

theorem tick_second {s : State} (h : (s.uptime + 1) % 1000 = 0) :
    tick s = idleSecond (clockSecond { s with uptime := s.uptime + 1 })  :=
  if_pos h

/-- Settles O3: the clock moves first, and leaves the idle timer to the idle second. -/
theorem emptyQueueGoesOn : Obligations.EmptyQueueGoesOn := by
  intro s hs
  rw [step_empty hs]
  refine ⟨fun h => ?_, fun h hu => ?_, fun h hu => ⟨_, rfl, ?_⟩⟩
  · obtain ⟨i, n, hi, hn⟩ := choose_spec (s := s) h
    exact ⟨i, n, hi, by rw [idle_of_due h, hn]⟩
  · rw [idle_of_none h, tick_within hu]
  · rw [idle_of_none h, tick_second hu, idleSecond_spec]
    have hrest := clockSecond_rest { s with uptime := s.uptime + 1 }
    generalize hx : clockSecond { s with uptime := s.uptime + 1 } = x at hrest ⊢
    obtain ⟨heq, hactive, hupcoming, hlast, hidle⟩ := hrest
    refine ⟨by rw [heq], hactive, hupcoming, hlast, ?_, fun hc => ?_, fun c hc => ⟨fun hin => ?_, fun hend hd => ?_, fun hend hd => ?_⟩⟩
    · have hruns := idleRuns_iff x
      rw [hactive, hupcoming, heq] at hruns
      rw [hidle, heq]
      exact if_congr hruns rfl rfl
    · subst hx
      exact (congrArg (·.sched.clock) (clockSecond_none (s := { s with uptime := s.uptime + 1 }) hc)).trans hc
    · rw [← hx]
      exact clockSecond_within hc hin
    · rw [← hx]
      exact clockSecond_midnight hc hend hd
    · rw [← hx]
      exact clockSecond_end hc hend hd

/-! ## Power-on -/

section PowerOn

variable (l : List RecKey) (s : State)

@[simp] theorem writeBacks_lamp : (writeBacks l s).lamp = s.lamp := by
  induction l generalizing s with
  | nil => rfl
  | cons k l ih => exact (ih _).trans (askOwn_lamp ..)

@[simp] theorem writeBacks_work : (writeBacks l s).work = s.work := by
  induction l generalizing s with
  | nil => rfl
  | cons k l ih => exact (ih _).trans (askOwn_work ..)

@[simp] theorem writeBacks_uptime : (writeBacks l s).uptime = s.uptime := by
  induction l generalizing s with
  | nil => rfl
  | cons k l ih => exact (ih _).trans (askOwn_uptime ..)

@[simp] theorem handFallback_lamp : (handFallback s).lamp = s.lamp := by simp [handFallback]
@[simp] theorem handFallback_work : (handFallback s).work = s.work := by simp [handFallback]
@[simp] theorem handFallback_uptime : (handFallback s).uptime = s.uptime := by simp [handFallback]

theorem powerNotice_rest (b : Bay) :
    (powerNotice b s).lamp = s.lamp ∧ (powerNotice b s).work = s.work ∧ (powerNotice b s).uptime = s.uptime := by
  unfold powerNotice
  split <;> simp

end PowerOn

/-- The state of power-on before it settles. -/
def powered (inp : PowerOnInputs) (s : State) : State :=
  let r := restored inp s.store.stored
  powerNotice .bayB (powerNotice .bayA (handFallback (writeBacks r.2.2 (poweredState inp r.1 r.2.1 s))))

theorem powerUp_eq (inp : PowerOnInputs) (s : State) : powerUp inp s = settle (powered inp s) := rfl

theorem powered_lamp (inp : PowerOnInputs) (s : State) :
    (powered inp s).lamp = { State.reset.lamp with bays := .make (fun b => bayAtPower ((powered inp s).work.lamps.get b)) } := by
  simp only [powered, powerNotice_rest, handFallback_lamp, handFallback_work, writeBacks_lamp, writeBacks_work]
  rfl

theorem powered_uptime (inp : PowerOnInputs) (s : State) : (powered inp s).uptime = 0 := by
  simp only [powered, powerNotice_rest, handFallback_uptime, writeBacks_uptime]
  rfl

theorem bay_powered (inp : PowerOnInputs) (s : State) (b : Bay) :
    bay (powered inp s) b = bayAtPower (lampRec (powered inp s) b) := by
  rw [bay, powered_lamp, PerBay.get_make]
  rfl

theorem newStamp_of_unwanted {s : State} {b : Bay} (h : s.lamp.wanted.get b = false) : newStamp s b = none := by
  simp [newStamp, strikeReady, h]

/-- A bay that is not wanted waits for nothing. -/
theorem stamp_settle_of_unwanted {s : State} {b : Bay} (h : s.lamp.wanted.get b = false) :
    bay (settle s) b = { bay s b with stamp := none } := by
  have hw : (syncIdle (syncScan (syncFan (syncMode s)))).lamp = s.lamp := by simp
  have hstamp := newStamp_of_unwanted (s := syncIdle (syncScan (syncFan (syncMode s)))) (b := b) (by rw [hw, h])
  simp [settle_eq, bay, hstamp]

theorem bay_powerUp (inp : PowerOnInputs) (s : State) (b : Bay) :
    bay (powerUp inp s) b = { bayAtPower (lampRec (powerUp inp s) b) with stamp := none } := by
  have hw : (powered inp s).lamp.wanted.get b = false := by rw [powered_lamp]; cases b <;> rfl
  rw [powerUp_eq, stamp_settle_of_unwanted hw, bay_powered]
  simp [lampRec]

theorem bayAtPower_rest (r : Option LampRecord) :
    (bayAtPower r).strikes = [] ∧ (bayAtPower r).doorFlag = .clear ∧ (bayAtPower r).lastExt = none ∧ (bayAtPower r).lastLoss = none ∧
      (bayAtPower r).lossBar = none ∧ (bayAtPower r).causeMark = false := by
  unfold bayAtPower
  split
  · exact ⟨rfl, rfl, rfl, rfl, rfl, rfl⟩
  · split <;> exact ⟨rfl, rfl, rfl, rfl, rfl, rfl⟩

/-- Settles O6: settling can only stamp a wanted bay, and none is wanted. -/
theorem powerOnBayStates : Obligations.PowerOnBayStates := by
  intro inp s
  refine ⟨powerUp inp s, rfl, ?_, fun b => ?_, ?_, ?_, ?_, ?_⟩
  · rw [powerUp_eq, settle_uptime, powered_uptime]
  · rw [bay_powerUp]
    obtain ⟨hstrikes, hdoor, hext, hloss, hbar, hmark⟩ := bayAtPower_rest (lampRec (powerUp inp s) b)
    refine ⟨fun h => ?_, fun r h hf => ?_, fun r h hf => ?_, hstrikes, hdoor, hext, hloss, hbar, rfl, hmark, ?_⟩
    · rw [h]
      rfl
    · rw [h]
      simp [bayAtPower, hf, BayCtl.fresh]
    · rw [h]
      simp [bayAtPower, hf, BayCtl.fresh, holdoff, second]
    · rw [powerUp_eq, settle_wanted, powered_lamp]
      cases b <;> rfl
  · rw [powerUp_eq, settle_count, powered_lamp]
    rfl
  · rw [powerUp_eq, settle_origin, powered_lamp]
    rfl
  · rw [powerUp_eq, settle_igniter, powered_lamp]
    rfl
  · rw [powerUp_eq, settle_spacing, powered_lamp]
    rfl

/-! ## The effective modes -/

/-- Settles O24: `settle_modesSound` says it of every override at once. -/
theorem effectiveModeByOverride : Obligations.EffectiveModeByOverride := by
  intro x b
  obtain ⟨hmodes, hfan⟩ := (modesSound_iff _).1 (settle_modesSound x)
  obtain ⟨hoff, hshut, hburn, -⟩ := hmodes b
  refine ⟨hoff, hshut, fun hb hs => ⟨fun ho => ?_, fun ho => ?_, fun ho => ?_⟩, hfan⟩
  · have h := hburn hb hs
    rwa [ho] at h
  · have h := hburn hb hs
    rwa [ho] at h
  · have h := hburn hb hs
    rwa [ho] at h

end Sys2Proof.Steps

/-! PROOFS. The events of the lamp bays (O7 to O13): grants, strikes, timers, losses, doors and ballasts. -/

namespace Sys2Proof.Lamps

open Sys2Proof Sys2Proof.Machine Sys2Proof.Upkeep Sys2Proof.Steps

set_option Elab.async false

/-! ## The grant -/

theorem lexLess_asymm {l m : List Nat} (h : lexLess l m = true) : lexLess m l = false := by
  induction l generalizing m with
  | nil => cases m <;> simp_all [lexLess]
  | cons x l ih =>
    cases m with
    | nil => simp [lexLess] at h
    | cons y m =>
      simp only [lexLess] at h ⊢
      rcases lt_trichotomy x y with hxy | hxy | hxy
      · rw [if_neg (by omega), if_pos hxy]
      · subst hxy
        simp only [lt_irrefl, if_false] at h ⊢
        exact ih h
      · rw [if_neg (by omega), if_pos hxy] at h
        cases h

theorem lexLess_self (l : List Nat) : lexLess l l = false := by
  by_contra h
  rw [Bool.not_eq_false] at h
  exact absurd (h.symm.trans (lexLess_asymm h)) (by decide)

/-- What the choice of a bay says of the one it leaves. -/
theorem pickBay_first {ok : Bay → Bool} {rank : Bay → List Nat} {b : Bay} (h : pickBay ok rank = some b) :
    (ok b.other = false ∨ lexLess (rank b.other) (rank b) = false) ∧
      (ok .bayA = true → rank .bayA = rank .bayB → b = .bayA) := by
  unfold pickBay at h
  split at h
  · split at h
    · cases h
      rename_i hless
      refine ⟨.inr (lexLess_asymm hless), fun _ heq => ?_⟩
      rw [heq, lexLess_self] at hless
      cases hless
    · cases h
      exact ⟨.inr (eq_false_of_ne_true ‹_›), fun _ _ => rfl⟩
  · cases h
    exact ⟨.inl ‹_›, fun _ _ => rfl⟩
  · cases h
    rename_i ha _
    exact ⟨.inl ha, fun ha' => absurd (ha.symm.trans ha') (by decide)⟩
  · cases h

theorem spacing_passed {s : State} {b : Bay} (h : spacingForbids s b = false) (t : Nat) (ht : s.lamp.spacing = some (t, b.other)) :
    t ≤ s.uptime := by
  have hne : (b != b.other) = true := by cases b <;> rfl
  simpa [spacingForbids, ht, hne] using h

theorem grantee_pick {s : State} {b : Bay} (h : grantee s = some b) : pickBay (grantable s) (stampRank s) = some b := by
  unfold grantee at h
  rwa [(grantee_some h).1] at h

/-- Settles O7: the arbiter's choice is `pickBay` over the grantable bays. -/
theorem igniterGrantStrikes : Obligations.IgniterGrantStrikes := by
  intro s b h
  have hok := (grantee_some h).2
  obtain ⟨hfirst, htie⟩ := pickBay_first (grantee_pick h)
  have hgrant : grantIgniter (nextEvent s) = enterStriking b (nextEvent s) := by
    have hg : grantee (nextEvent s) = some b := h
    rw [grantIgniter, hg]
  simp only [grantable, Bool.and_eq_true, Bool.not_eq_true'] at hok
  obtain ⟨⟨hready, hstamp⟩, hspace⟩ := hok
  refine ⟨goesTo_follow (due := fun x => (grantee x).isSome) (f := grantIgniter) (by rw [h]; rfl) rfl ?_, (grantee_some h).1, hready,
    hstamp, spacing_passed hspace, hfirst, fun ha _ => htie ha⟩
  rw [hgrant]
  exact essence_ext rfl rfl rfl rfl rfl rfl rfl rfl rfl rfl rfl rfl rfl
    (by cases b <;> rfl) rfl rfl rfl (syncScan_sel_congr rfl rfl rfl rfl rfl)

/-! ## A strike that succeeds -/

/-- A changed record that is then written: the notice of a change of stage does not matter to the essence. -/
theorem essence_askOwn_changeRecord (k : RecKey) (b : Bay) (f : LampRecord → LampRecord) (s : State) :
    essence (askOwn k (changeRecord b f s)) =
      essence (askOwn k { s with work := { s.work with lamps := s.work.lamps.set b ((lampRec s b).map f) } }) := by
  obtain ⟨n, hn⟩ := changeRecord_eq b f s
  rw [hn]
  exact essence_askOwn_congr rfl

/-- Settles O8: outside Striking the event only sets the input. -/
theorem strikeSucceedsIntoWarming : Obligations.StrikeSucceedsIntoWarming := by
  intro s b hq
  refine ⟨fun h => goesTo_act hq rfl ?_, fun h => goesTo_act hq rfl ?_⟩
  · have hs : litAsserted b (nextEvent s) = strikeSucceeds b (setLit b true (nextEvent s)) := if_pos h
    rw [hs, strikeSucceeds, essence_askOwn_changeRecord]
    exact essence_askOwn_congr rfl
  · have hs : litAsserted b (nextEvent s) = setLit b true (nextEvent s) := if_neg h
    rw [hs]
    exact essence_congr rfl rfl rfl rfl rfl

/-! ## The choice of bays -/

theorem inUse_iff (st : BaySt) : st.inUse = true ↔ st = .striking ∨ st = .warming ∨ st = .lit := by cases st <;> simp [BaySt.inUse]

/-- A ranking that agrees with an order of the two bays picks the one that comes first in it. -/
theorem pickBay_iff {ok : Bay → Bool} {rank : Bay → List Nat} {b : Bay} (first : Bay → Bay → Prop)
    (hfirst : ok .bayA = true → ok .bayB = true → ((first .bayB .bayA ↔ lexLess (rank .bayB) (rank .bayA) = true) ∧
      (first .bayA .bayB ↔ ¬lexLess (rank .bayB) (rank .bayA) = true))) (hb : ok b = true) :
    pickBay ok rank = some b ↔ ok b.other = false ∨ first b b.other := by
  unfold pickBay
  cases b with
  | bayA =>
    rw [hb]
    cases ho : ok .bayB with
    | true =>
      have h := hfirst hb ho
      simp only [Bay.other, ho, h.2]
      split <;> simp [*]
    | false => simp [Bay.other, ho]
  | bayB =>
    rw [hb]
    cases ho : ok .bayA with
    | true =>
      have h := hfirst ho hb
      simp only [Bay.other, ho, h.1]
      split <;> simp [*]
    | false => simp [Bay.other, ho]

theorem lexLess_cons (x y : Nat) (l m : List Nat) :
    lexLess (x :: l) (y :: m) = true ↔ x < y ∨ (x = y ∧ lexLess l m = true) := by
  rw [lexLess]
  split
  · simp [*]
  · split
    · simp only [Bool.false_eq_true, false_iff, not_or, not_and]
      omega
    · have hxy : x = y := by omega
      simp [hxy]

theorem keepRank_eq (s : State) (b : Bay) :
    keepRank s b = [2 - (if (bay s b).st = .lit then 2 else if (bay s b).st = .warming then 1 else 0), perMille s b] := by
  unfold keepRank
  cases (bay s b).st <;> rfl

/-- Of two bays in use the ranking of step 1 of R13 picks the one that comes first. -/
theorem comesFirst_inUse {s : State} (ha : (bay s .bayA).st.inUse = true) (hb : (bay s .bayB).st.inUse = true) :
    (comesFirst s .bayB .bayA ↔ lexLess (keepRank s .bayB) (keepRank s .bayA) = true) ∧
      (comesFirst s .bayA .bayB ↔ ¬lexLess (keepRank s .bayB) (keepRank s .bayA) = true) := by
  simp only [comesFirst, ha, hb, and_self, if_true, keepRank_eq, lexLess_cons]
  generalize hla : (if (bay s .bayA).st = .lit then 2 else if (bay s .bayA).st = .warming then 1 else 0) = la
  generalize hlb : (if (bay s .bayB).st = .lit then 2 else if (bay s .bayB).st = .warming then 1 else 0) = lb
  have hla2 : la ≤ 2 := by subst hla; split <;> [omega; split <;> omega]
  have hlb2 : lb ≤ 2 := by subst hlb; split <;> [omega; split <;> omega]
  simp only [lexLess, reduceCtorEq, and_false, or_false, and_true, Bool.false_eq_true]
  constructor <;> constructor <;> intro h <;> omega

/-- Of two bays not in use the ranking of steps 2 and 3 of R13 picks the one that comes first. -/
theorem comesFirst_idle {s : State} (ha : (bay s .bayA).st.inUse = false) (hb : (bay s .bayB).st.inUse = false) :
    (comesFirst s .bayB .bayA ↔ lexLess (chooseRank s .bayB) (chooseRank s .bayA) = true) ∧
      (comesFirst s .bayA .bayB ↔ ¬lexLess (chooseRank s .bayB) (chooseRank s .bayA) = true) := by
  simp only [comesFirst, ha, hb, and_self, Bool.false_eq_true, if_false, chooseRank, lexLess_cons]
  generalize (if (bay s .bayA).causeMark = true then 1 else 0) = ma
  generalize (if (bay s .bayB).causeMark = true then 1 else 0) = mb
  generalize (if (bay s .bayA).st = .dark then 0 else 1) = da
  generalize (if (bay s .bayB).st = .dark then 0 else 1) = db
  simp only [lexLess, reduceCtorEq, and_false, or_false, and_true, Bool.false_eq_true]
  constructor <;> constructor <;> intro h <;> omega

theorem comesFirst_of_inUse {s : State} {b c : Bay} (hb : (bay s b).st.inUse = true) (hc : (bay s c).st.inUse = false) :
    comesFirst s b c ∧ ¬comesFirst s c b := by
  simp [comesFirst, hb, hc]

theorem pickBay_none_iff {ok : Bay → Bool} {rank : Bay → List Nat} {b : Bay} :
    pickBay ok rank = none ↔ ok b = false ∧ ok b.other = false := by
  unfold pickBay
  cases b <;> cases ha : ok .bayA <;> cases hb : ok .bayB <;> simp only [Bay.other, ha, hb] <;> grind

/-- The bay that R13 chooses for a count of 1. -/
theorem chooseBay_iff {s : State} {b : Bay} (hb : eligible s b = true) :
    chooseBay s = some b ↔ eligible s b.other = false ∨ comesFirst s b b.other := by
  unfold chooseBay
  cases hu : (bay s b).st.inUse with
  | true =>
    have hpick := pickBay_iff (ok := fun b => eligible s b && (bay s b).st.inUse) (rank := keepRank s) (comesFirst s)
      (fun ha hb => comesFirst_inUse (Bool.and_eq_true_iff.1 ha).2 (Bool.and_eq_true_iff.1 hb).2) (b := b) (by simp [hb, hu])
    have hor : (eligible s b.other && (bay s b.other).st.inUse) = false ∨ comesFirst s b b.other ↔
        eligible s b.other = false ∨ comesFirst s b b.other := by
      cases ho : (bay s b.other).st.inUse with
      | true => simp
      | false => simp [(comesFirst_of_inUse hu ho).1]
    rw [← hor, ← hpick]
    split
    · simp [*]
    · rename_i hnone
      have h := (pickBay_none_iff (b := b)).1 hnone
      simp [hb, hu] at h
  | false =>
    cases ho : (eligible s b.other && (bay s b.other).st.inUse) with
    | true =>
      obtain ⟨hoe, hou⟩ := Bool.and_eq_true_iff.1 ho
      have hother : pickBay (fun b => eligible s b && (bay s b).st.inUse) (keepRank s) = some b.other := by
        cases b <;> simp_all [pickBay, Bay.other]
      simp only [hother, hoe, (comesFirst_of_inUse hou hu).2]
      cases b <;> simp [Bay.other]
    | false =>
      rw [(pickBay_none_iff (b := b)).2 ⟨by simp [hu], ho⟩]
      have hidle (c : Bay) (h : eligible s c = true) : (bay s c).st.inUse = false := by
        cases b <;> cases c <;> simp_all [Bay.other]
      exact pickBay_iff (comesFirst s) (fun ha hb => comesFirst_idle (hidle _ ha) (hidle _ hb)) hb

theorem chooseBay_eligible {s : State} {b : Bay} (h : chooseBay s = some b) : eligible s b = true := by
  unfold chooseBay at h
  split at h
  · rename_i c hc
    cases h
    have hok := pickBay_ok hc
    simp only [Bool.and_eq_true] at hok
    exact hok.1
  · exact pickBay_ok h

/-- The wanted set that the model forms is the one that R13 and R14 call for. -/
theorem chosenSet_right (s : State) : rightChoice s (chosenSet s) := by
  refine ⟨fun b h => ?_, fun h => ?_, fun h b => ?_, fun h b hb => ?_⟩
  · unfold chosenSet at h
    split at h
    · cases b <;> cases h
    · split at h
      · rename_i c hc
        rw [PerBay.get_set] at h
        split at h
        · subst_vars
          exact chooseBay_eligible hc
        · cases b <;> cases h
      · cases b <;> cases h
    · rwa [PerBay.get_make] at h
  · simp only [chosenSet, h]
  · unfold chosenSet
    split
    · omega
    · omega
    · rw [PerBay.get_make]
  · rw [← chooseBay_iff hb]
    simp only [chosenSet, h]
    split
    · rename_i c hc
      rw [PerBay.get_set, hc]
      split
      · simp_all
      · cases b <;> cases c <;> simp_all [PerBay.get, PerBay.both]
    · rename_i hc
      rw [hc]
      cases b <;> simp [PerBay.get, PerBay.both]

/-- The right choice looks at the demand, the eligible bays and the order of the two. -/
theorem rightChoice_congr {s x : State} {w : PerBay Bool} (hcount : x.lamp.count = s.lamp.count)
    (heligible : ∀ b, eligible x b = eligible s b) (hst : ∀ b, (bay x b).st = (bay s b).st)
    (hmark : ∀ b, (bay x b).causeMark = (bay s b).causeMark) (hdark : ∀ b, darkEntry x b = darkEntry s b)
    (hper : ∀ b, perMille x b = perMille s b) : rightChoice x w ↔ rightChoice s w := by
  simp only [rightChoice, comesFirst, hcount, heligible, hst, hmark, hdark, hper]

/-! ## A bay that leaves the wanted set -/

theorem leaveWanted_wanted (b : Bay) (s : State) :
    (leaveWanted b s).lamp.wanted =
      if s.lamp.wanted.get b = true then
        if s.lamp.count = 0 then s.lamp.wanted.set b false
        else chosenSet { s with lamp := { s.lamp with wanted := s.lamp.wanted.set b false } }
      else s.lamp.wanted := by
  unfold leaveWanted
  split
  · dsimp only
    split
    · rfl
    · exact (formWanted_rest _).2.2.1
  · rfl

/-- A bay that leaves the wanted set and may not be chosen again is not wanted. -/
theorem leaveWanted_unwanted {b : Bay} {s : State} (h : (lampUsable s b && barClear s b) = false) :
    (leaveWanted b s).lamp.wanted.get b = false := by
  rw [leaveWanted_wanted]
  split
  · split
    · simp
    · by_contra hw
      have he := (chosenSet_right _).1 b ((Bool.not_eq_false _).mp hw)
      have hw' : (s.lamp.wanted.set b false).get b = false := by simp
      simp only [eligible, hw', Bool.false_and, Bool.false_or] at he
      exact absurd (h.symm.trans he) (by decide)
  · exact eq_false_of_ne_true ‹_›

theorem sameBesideLamps_of_blocks {s x : State} (h1 : x.pending = s.pending := by simp) (h2 : x.uptime = s.uptime := by simp)
    (h3 : x.choices = s.choices := by simp) (h4 : x.secondsDone = s.secondsDone := by simp)
    (h5 : x.cadenceDone = s.cadenceDone := by simp) (h6 : x.pins = s.pins := by simp)
    (h7 : ({ x.work with lamps := s.work.lamps } : Records) = s.work := by simp) (h10 : x.ports = s.ports := by simp)
    (h11 : x.geo = s.geo := by simp) (h12 : x.lock = s.lock := by simp) (h13 : x.comms = s.comms := by simp)
    (h15 : x.mode = s.mode := by simp) (h16 : x.heat = s.heat := by simp) (h17 : x.sched = s.sched := by simp)
    (h18 : x.sel = s.sel := by simp) : sameBesideLamps s x :=
  sameBesideLamps_of h1 h2 h3 h4 h5 h6 h7 h10 h11 h12 h13 h15 h16 h17 h18

/-! ## A strike that fails -/

/-- The state in which a failed strike is counted and the igniter free, before the bay rests or is Failed (R4, R29). -/
def strikeCounted (b : Bay) (s : State) : State := askOwn (.lamp b) (changeRecord b strikeLost (leaveStriking b s))

theorem strikeFails_eq (b : Bay) (s : State) :
    strikeFails b s = if recordFailed (strikeCounted b s) b then enterFailed b (strikeCounted b s)
      else dropExhausted b (modBay b (fun y => { y with st := .rest, timer := some (s.uptime + shortRest) }) (strikeCounted b s)) := rfl

@[simp] theorem strikeCounted_lamp (b : Bay) (s : State) : (strikeCounted b s).lamp = (leaveStriking b s).lamp := by
  simp [strikeCounted]

@[simp] theorem strikeCounted_work (b : Bay) (s : State) :
    (strikeCounted b s).work = { s.work with lamps := s.work.lamps.set b ((lampRec s b).map strikeLost) } := by
  simp only [strikeCounted, askOwn_work, changeRecord_lamps]
  rfl

theorem dropExhausted_rest (b : Bay) (s : State) :
    (dropExhausted b s).lamp.count = s.lamp.count ∧ (dropExhausted b s).lamp.igniter = s.lamp.igniter ∧
      (dropExhausted b s).lamp.spacing = s.lamp.spacing := by
  unfold dropExhausted
  split
  · simp [leaveWanted_rest]
  · exact ⟨rfl, rfl, rfl⟩

theorem bay_dropExhausted {b : Bay} {s : State} (h : (bay s b).st ≠ .lit) : bay (dropExhausted b s) b = bay s b := by
  unfold dropExhausted
  split
  · exact bay_leaveWanted b b s h
  · rfl

theorem strikeFails_rest (b : Bay) (s : State) :
    (strikeFails b s).lamp.count = s.lamp.count ∧ (strikeFails b s).lamp.igniter = none ∧
      (strikeFails b s).lamp.spacing = some (s.uptime + 5000, b) ∧
      (strikeFails b s).work = { s.work with lamps := s.work.lamps.set b ((lampRec s b).map strikeLost) } := by
  rw [strikeFails_eq]
  split
  · simp [enterFailed, leaveWanted_rest, leaveStriking, spacingTime, second]
  · simp [dropExhausted_rest, leaveStriking, spacingTime, second]

theorem strikeFails_failed {b : Bay} {s : State} {r : LampRecord} (hr : lampRec (strikeFails b s) b = some r) (hf : r.failed = true) :
    (bay (strikeFails b s) b).st = .failed ∧ (bay (strikeFails b s) b).lastExt = (bay s b).lastExt ∧
      (strikeFails b s).lamp.wanted.get b = false := by
  have hrec : lampRec (strikeCounted b s) b = some r := by
    rw [← hr]
    simp [lampRec, strikeFails_rest]
  have h : recordFailed (strikeCounted b s) b = true := by rw [recordFailed, hrec]; exact hf
  have hbay := bay_leaveWanted b b (lampNotice b .failed (modBay b (fun y => { y with st := .failed, timer := none, doorFlag := .clear })
    (strikeCounted b s))) (by simp [bay, modBay_lamp])
  rw [strikeFails_eq, if_pos h, enterFailed]
  refine ⟨?_, ?_, leaveWanted_unwanted ?_⟩
  · rw [hbay]; simp [bay]
  · rw [hbay]; simp [bay, leaveStriking]
  · have husable : lampUsable (strikeCounted b s) b = false := by rw [lampUsable, hrec]; simp [hf]
    rw [show lampUsable (lampNotice b .failed (modBay b _ (strikeCounted b s))) b = lampUsable (strikeCounted b s) b from rfl, husable]
    rfl

theorem strikeFails_rests {b : Bay} {s : State} {r : LampRecord} (hr : lampRec (strikeFails b s) b = some r) (hf : r.failed = false) :
    (bay (strikeFails b s) b).st = .rest ∧ (bay (strikeFails b s) b).timer = some (s.uptime + 30000) := by
  have hrec : lampRec (strikeCounted b s) b = some r := by
    rw [← hr]
    simp [lampRec, strikeFails_rest]
  have h : ¬recordFailed (strikeCounted b s) b = true := by rw [recordFailed, hrec]; simp [hf]
  rw [strikeFails_eq, if_neg h, bay_dropExhausted (by simp)]
  simp [shortRest, second]

theorem strikeFails_lastExt (b : Bay) (s : State) : (bay (strikeFails b s) b).lastExt = (bay s b).lastExt := by
  rw [strikeFails_eq]
  split
  · rw [enterFailed, bay_leaveWanted _ _ _ (by simp [bay])]
    simp [bay, leaveStriking]
  · rw [bay_dropExhausted (by simp)]
    simp [bay, leaveStriking]

theorem strikeFails_beside (b : Bay) (s : State) : sameBesideLamps s (strikeFails b s) := by
  rw [strikeFails_eq]
  unfold strikeCounted enterFailed
  split
  · exact sameBesideLamps_of_blocks (h7 := by simp [changeRecord_lamps, leaveStriking])
  · exact sameBesideLamps_of_blocks (h7 := by simp [changeRecord_lamps, leaveStriking])

theorem sameBesideLamps_nextEvent {s x : State} (h : sameBesideLamps (nextEvent s) x) : sameBesideLamps s x :=
  h.trans (essence_nextEvent s)

/-- Settles O9: the strike is counted first, and then the record says whether the bay rests. -/
theorem strikeWindowFails : Obligations.StrikeWindowFails := by
  intro s b hq hdue
  obtain ⟨hcount, higniter, hspacing, hwork⟩ := strikeFails_rest b (nextEvent s)
  refine ⟨_, onTime_of_due hq hdue, by simpa using higniter, by simpa using hspacing, (settle_work _).trans hwork, fun r hr hf => ?_,
    fun r hr hf => ?_, ?_, by simpa using hcount, sameBesideLamps_settle (sameBesideLamps_nextEvent (strikeFails_beside ..))⟩
  · have h := strikeFails_failed (s := nextEvent s) (by simpa [lampRec] using hr) hf
    simpa using ⟨h.1, h.2.2⟩
  · have h := strikeFails_rests (s := nextEvent s) (by simpa [lampRec] using hr) hf
    simpa using h
  · obtain ⟨st, h⟩ := bay_settle (strikeFails b (nextEvent s)) b
    rw [h]
    exact strikeFails_lastExt ..

/-! ## The timers of a bay -/

theorem writeServes_iff (s : State) (b : Bay) : writeServes s b = true ↔ (bay s b).topAt = some s.uptime ∧ s.wear.get b = 0 := by
  simp [writeServes]

theorem writeServes_enterCooling (s : State) (b : Bay) : writeServes (enterCooling b s) b = writeServes s b := by
  simp [writeServes, enterCooling]

theorem extinguish_served {s : State} {b : Bay} (h : writeServes s b = true) :
    extinguish b s = modBay b (fun y => { y with lastExt := some s.uptime }) (enterCooling b s) := by
  rw [extinguish, leaveBurning, writeServes_enterCooling, if_pos h]
  rfl

theorem extinguish_unserved {s : State} {b : Bay} (h : ¬writeServes s b = true) :
    extinguish b s = askOwn (.lamp b) (modBay b (fun y => { y with lastExt := some s.uptime }) (enterCooling b s)) := by
  rw [extinguish, leaveBurning, writeServes_enterCooling, if_neg h]
  rfl

theorem modBay_modBay (b : Bay) (f g : BayCtl → BayCtl) (s : State) : modBay b f (modBay b g s) = modBay b (f ∘ g) s := by
  cases b <;> rfl

/-- Settles O10: a warm-up of a bay that is not wanted ends by the extinguish of R6. -/
theorem bayTimersEnd : Obligations.BayTimersEnd := by
  intro s b hq
  have hserves := writeServes_iff (nextEvent s) b
  refine ⟨fun hd hw => goesTo_time hq hd rfl ?_, fun hd hw => ⟨fun hn => goesTo_time hq hd rfl ?_, fun hn => goesTo_time hq hd rfl ?_⟩,
    fun hd => goesTo_time hq hd rfl ?_, fun hd => goesTo_time hq hd rfl ?_⟩
  · have h : warmUpEnds b (nextEvent s) = _ := if_pos hw
    rw [h, essence_lampNotice]
    exact essence_congr rfl rfl rfl rfl rfl
  · have h : warmUpEnds b (nextEvent s) = _ := if_neg (by simp [hw])
    rw [h, extinguish_unserved (fun e => hn (hserves.1 e)), enterCooling, modBay_modBay]
    exact essence_askOwn_congr rfl
  · have h : warmUpEnds b (nextEvent s) = _ := if_neg (by simp [hw])
    rw [h, extinguish_served (hserves.2 hn), enterCooling, modBay_modBay]
    exact essence_congr rfl rfl rfl rfl rfl
  · exact essence_congr rfl rfl rfl rfl rfl
  · rw [enterDark, essence_lampNotice]
    exact essence_congr rfl rfl rfl rfl rfl

/-! ## The loss of a lamp -/

/-- A bay just after its lamp is lost, before the demand fails over (R10). -/
def justLost (b : Bay) (s : State) : State := modBay b (fun y => { y with lampLost := some s.uptime }) (extinguish b s)

theorem bay_justLost (b : Bay) (s : State) :
    bay (justLost b s) b = { bay s b with
      st := .cooling, timer := some (s.uptime + 90000), lastExt := some s.uptime, lampLost := some s.uptime } := by
  rw [justLost, bay_modBay_self, bay_extinguish, if_pos rfl]
  rfl

theorem lampLoss_eq (b : Bay) (s : State) :
    lampLoss b s = modBay b (fun y => { y with lastLoss := some s.uptime })
      (if lossRecent s b then leaveWanted b (modBay b (fun y => { y with lossBar := some (s.uptime + hour) }) (justLost b s))
       else if eligible (justLost b s) b then justLost b s else leaveWanted b (justLost b s)) := rfl

/-- What a loss makes of its bay (R10). -/
theorem bay_lampLoss (b : Bay) (s : State) :
    bay (lampLoss b s) b = { bay s b with
      st := .cooling, timer := some (s.uptime + 90000), lastExt := some s.uptime, lampLost := some s.uptime
      lastLoss := some s.uptime, lossBar := if lossRecent s b then some (s.uptime + 3600000) else (bay s b).lossBar } := by
  rw [lampLoss_eq, bay_modBay_self]
  split
  · rw [bay_leaveWanted _ _ _ (by simp [bay_justLost]), bay_modBay_self, bay_justLost]
    rfl
  · split
    · rw [bay_justLost]
    · rw [bay_leaveWanted _ _ _ (by simp [bay_justLost]), bay_justLost]

theorem lossRecent_iff (s : State) (b : Bay) :
    lossRecent s b = true ↔ ∃ x, (bay s b).lastLoss = some x ∧ s.uptime < x + 3600000 := by
  unfold lossRecent
  cases (bay s b).lastLoss with
  | none => simp
  | some x =>
    simp only [decide_eq_true_eq, Option.some.injEq, exists_eq_left']
    exact Iff.rfl

theorem lampLoss_barred {b : Bay} {s : State} (h : lossRecent s b = true) : (lampLoss b s).lamp.wanted.get b = false := by
  rw [lampLoss_eq, if_pos h]
  refine leaveWanted_unwanted ?_
  simp [barClear, hour, second, justLost]

theorem lampLoss_stays {b : Bay} {s : State} (h : ¬lossRecent s b = true) (hu : lampUsable s b = true) (hb : barClear s b = true) :
    (lampLoss b s).lamp.wanted = s.lamp.wanted := by
  have hbar : barClear (justLost b s) b = barClear s b := by simp [barClear, bay_justLost]; simp [justLost]
  have husable : lampUsable (justLost b s) b = lampUsable s b := by simp [lampUsable, lampRec, justLost]
  have heligible : eligible (justLost b s) b = true := by simp [eligible, hbar, husable, hu, hb]
  rw [lampLoss_eq, if_neg h, if_pos heligible]
  simp [justLost, extinguish_rest]

theorem lampLoss_count (b : Bay) (s : State) : (lampLoss b s).lamp.count = s.lamp.count := by
  rw [lampLoss_eq]
  split
  · simp [leaveWanted_rest, justLost, extinguish_rest]
  · split <;> simp [leaveWanted_rest, justLost, extinguish_rest]

theorem lampLoss_pins (b : Bay) (s : State) : (lampLoss b s).pins = s.pins := by
  rw [lampLoss_eq]
  split
  · simp [justLost]
  · split <;> simp [justLost]

theorem lampLoss_work (b : Bay) (s : State) : (lampLoss b s).work = s.work := by
  rw [lampLoss_eq]
  split
  · simp [justLost]
  · split <;> simp [justLost]

theorem lampLoss_beside (b : Bay) (s : State) : sameBesideLamps s (lampLoss b s) := by
  rw [lampLoss_eq]
  unfold justLost
  split
  · exact sameBesideLamps_of_blocks
  · split
    · exact sameBesideLamps_of_blocks
    · exact sameBesideLamps_of_blocks

theorem essence_pins (s : State) (p : Pins) : essence { s with pins := p } = { essence s with pins := p } := by
  have he : examRunning { s with pins := p } = examRunning s := rfl
  unfold essence syncScan
  rw [he]
  split <;> rfl

/-- An event that sets an input and else changes the lamps alone. -/
theorem sameBesideLamps_input {s y : State} {p : Pins} (h : sameBesideLamps { nextEvent s with pins := p } y) :
    sameBesideLamps s { settle y with pins := s.pins } := by
  have hl : ({ settle y with pins := s.pins } : State) = { settle y with pins := s.pins, lock := y.lock } := by rw [← settle_lock y]
  rw [hl]
  refine sameBesideLamps_settle_with (l := y.lock) ?_
  have hy := congrArg (fun z : State => { z with pins := s.pins }) h
  simp only [← essence_pins] at hy
  exact hy.trans (essence_nextEvent s)

/-- Settles O11: `bay_lampLoss` says what becomes of the bay. -/
theorem litSenseDropLosesLamp : Obligations.LitSenseDropLosesLamp := by
  intro s b hq
  refine ⟨fun hb => ⟨_, act_of_quiescent hq, ?_⟩, fun hb => goesTo_act hq rfl ?_⟩
  · generalize hx : setLit b false (nextEvent s) = x
    have hdrop : litDrops b (nextEvent s) = lampLoss b x := by
      rw [← hx]
      exact if_pos hb
    have hup : x.uptime = s.uptime := by subst hx; rfl
    have hbay : bay x b = bay s b := by subst hx; rfl
    have hlamp : x.lamp = s.lamp := by subst hx; rfl
    have hrecent := lossRecent_iff x b
    have hafter := bay_lampLoss b x
    obtain ⟨st, hst⟩ := bay_settle (lampLoss b x) b
    rw [hbay, hup] at hafter hrecent
    rw [hdrop, hst, hafter, settle_wanted]
    refine ⟨rfl, rfl, rfl, rfl, rfl, fun h => ⟨if_pos (hrecent.2 h), lampLoss_barred (hrecent.2 h)⟩, fun h => ?_, ?_, ?_, ?_, ?_⟩
    · have hnot : ¬lossRecent x b = true := fun e => by
        obtain ⟨y, hy, hlt⟩ := hrecent.1 e
        exact absurd (h y hy) (by omega)
      exact ⟨if_neg hnot, fun _ hu hb => (lampLoss_stays hnot (by subst hx; exact hu) (by subst hx; exact hb)).trans (by rw [hlamp])⟩
    · subst hx
      rw [settle_pins, lampLoss_pins]
      rfl
    · rw [settle_count, lampLoss_count, hlamp]
    · rw [settle_work, lampLoss_work]
      subst hx
      rfl
    · subst hx
      exact sameBesideLamps_input (lampLoss_beside ..)
  · have h : litDrops b (nextEvent s) = setLit b false (nextEvent s) := if_neg (by simpa [setLit, bay] using hb)
    rw [h]
    exact essence_congr rfl rfl rfl rfl rfl

/-! ## The times that run out -/

theorem strikeReady_congr {s t : State} {b : Bay} (hwanted : t.lamp.wanted = s.lamp.wanted) (hbay : bay t b = bay s b)
    (hpins : t.pins = s.pins) (hlevel : t.heat.level = s.heat.level) (hlock : lockLevel t = lockLevel s) (hwork : t.work = s.work)
    (hup : t.uptime = s.uptime) : strikeReady t b = strikeReady s b := by
  simp only [strikeReady, stageOf, lampRec, holdoffOver, hwanted, hbay, hpins, hlevel, hlock, hwork, hup]

theorem lockLevel_congr {s t : State} (hlock : t.lock = s.lock) (hactive : t.sched.active = s.sched.active) (hwork : t.work = s.work) :
    lockLevel t = lockLevel s := by
  simp only [lockLevel, runningBooking_of hactive hwork, hlock, hwork]

theorem syncIdle_active (s : State) : (syncIdle s).sched.active = s.sched.active := by
  unfold syncIdle
  split <;> simp

/-- Settling stamps the bays that meet the strike conditions (R2). -/
theorem stamp_settle (s : State) (b : Bay) : (bay (settle s) b).stamp = newStamp s b := by
  generalize hx : syncIdle (syncScan (syncFan (syncMode s))) = x
  have hlevel : x.heat.level = s.heat.level := by
    rw [← settle_level s, settle_eq, hx]
    simp
  have hactive : x.sched.active = s.sched.active := by subst hx; simp [syncIdle_active]
  have hlamp : x.lamp = s.lamp := by subst hx; simp
  have hready : strikeReady x b = strikeReady s b := by
    refine strikeReady_congr (by rw [hlamp]) (by simp only [bay, hlamp]) (by subst hx; simp) hlevel
      (lockLevel_congr (by subst hx; simp) hactive (by subst hx; simp)) (by subst hx; simp) (by subst hx; simp)
  have hnew : newStamp x b = newStamp s b := by
    simp only [newStamp, hready, bay, hlamp]
    subst hx
    simp
  rw [← hnew, settle_eq, hx]
  simp [bay]

theorem fillShortfall_none {s : State} (h : shortfall s = 0) : fillShortfall s = s := by rw [fillShortfall, if_pos h]

theorem lossBarEnds_bar (b : Bay) (s : State) : (bay (lossBarEnds b s) b).lossBar = none := by
  unfold lossBarEnds fillShortfall
  split
  · simp
  · unfold formWanted
    rw [bay_putWanted]
    split <;> simp

theorem modBay_congr {b : Bay} {f g : BayCtl → BayCtl} {s : State} (h : f (bay s b) = g (bay s b)) : modBay b f s = modBay b g s := by
  simp only [bay] at h
  simp only [modBay, h]

/-- Settles O13: a bay that meets the strike conditions takes its stamp as the state settles. -/
theorem lampTimesRunOut : Obligations.LampTimesRunOut := by
  intro s b hq
  refine ⟨fun hd => ⟨_, onTime_of_due hq hd, ?_, ?_⟩, fun x y hs hx => goesTo_time hq ?_ rfl ?_, fun x l hs hx => goesTo_time hq ?_ rfl ?_,
    fun x hs hx => ⟨⟨_, onTime_of_due hq ?_, ?_, ?_⟩, fun hn => goesTo_time hq ?_ rfl ?_⟩, fun x hs hx => goesTo_time hq ?_ rfl ?_⟩
  · simp only [holdoffDue, Bool.and_eq_true, Option.isNone_iff_eq_none] at hd
    have hready : strikeReady (id (nextEvent s)) b = true := hd.1
    rw [stamp_settle, newStamp, if_pos hready]
    simp only [id, bay_nextEvent, hd.2]
    rfl
  · simp
  · simpa [spacingDue, hs, reached] using hx
  · exact essence_congr rfl rfl rfl rfl rfl
  · simpa [strikeListDue, hs, reached, hour, second] using hx
  · have h : strikeListExpires b (nextEvent s) = modBay b (fun y => { y with strikes := l }) (nextEvent s) :=
      modBay_congr (by rw [bay_nextEvent, hs]; rfl)
    rw [h]
    exact essence_congr rfl rfl rfl rfl rfl
  · simpa [hs, reached] using hx
  · obtain ⟨st, h⟩ := bay_settle (lossBarEnds b (nextEvent s)) b
    rw [h]
    exact lossBarEnds_bar ..
  · refine sameBesideLamps_settle (sameBesideLamps_nextEvent ?_)
    unfold lossBarEnds
    exact sameBesideLamps_of_blocks
  · simpa [hs, reached] using hx
  · have h : lossBarEnds b (nextEvent s) = modBay b (fun y => { y with lossBar := none }) (nextEvent s) := fillShortfall_none hn
    rw [h]
    exact essence_congr rfl rfl rfl rfl rfl
  · simpa [lampLostDue, hs, reached, hour, second] using hx
  · exact essence_congr rfl rfl rfl rfl rfl

/-! ## Doors and ballasts -/

/-- What a forced cause makes of the bays, where the bay is in use (R9). -/
theorem bay_forceOut {b : Bay} {s : State} (h : (bay s b).st.inUse = true) (c : Bay) :
    ∃ e, bay (forceOut b s) c =
      if c = b then { bay s c with st := .cooling, timer := some (s.uptime + 90000), lastExt := e } else bay s c := by
  unfold forceOut
  split
  · refine ⟨(bay s c).lastExt, ?_⟩
    simp only [enterCooling, bay_modBay]
    rfl
  · exact ⟨some s.uptime, bay_extinguish b c s⟩
  · exact ⟨some s.uptime, bay_extinguish b c s⟩
  · rw [inUse_iff] at h
    tauto

theorem forceOut_rest (b : Bay) (s : State) :
    (forceOut b s).lamp.count = s.lamp.count ∧ (forceOut b s).lamp.wanted = s.lamp.wanted ∧
      ((bay s b).st = .striking → (forceOut b s).lamp.igniter = none ∧ (forceOut b s).lamp.spacing = some (s.uptime + 5000, b)) := by
  unfold forceOut
  split
  · simp [enterCooling, leaveStriking, spacingTime, second]
  · simp [extinguish_rest, *]
  · simp [extinguish_rest, *]
  · exact ⟨rfl, rfl, fun h => absurd h ‹_›⟩

/-- A bay that was wanted, just after a cause has put it out: in Cooling, marked and not wanted (R9, R15). -/
def causedOut (b : Bay) (s : State) : State :=
  modBay b (fun y => { y with st := .cooling, timer := some (s.uptime + 90000), causeMark := true })
    { s with lamp := { s.lamp with wanted := s.lamp.wanted.set b false } }

theorem bay_causedOut (b c : Bay) (s : State) :
    bay (causedOut b s) c =
      if c = b then { bay s c with st := .cooling, timer := some (s.uptime + 90000), causeMark := true } else bay s c :=
  bay_modBay b c _ _

/-- A bay that a cause puts out is marked where it was wanted, and the demand fails over to the right choice (R15). -/
def failsOver (b : Bay) (s t : State) : Prop :=
  ((bay s b).st.inUse = true ∧ s.lamp.wanted.get b = true →
    (bay t b).causeMark = true ∧ (s.lamp.count = 0 → t.lamp.wanted = s.lamp.wanted.set b false) ∧
      (s.lamp.count ≠ 0 → rightChoice (causedOut b s) t.lamp.wanted)) ∧
  ((bay s b).st.inUse = false ∨ s.lamp.wanted.get b = false →
    (bay t b).causeMark = (bay s b).causeMark ∧ t.lamp.wanted = s.lamp.wanted)

theorem outByCause_wanted {b : Bay} {s : State} (h : (bay s b).st.inUse = true) (hw : s.lamp.wanted.get b = true) :
    outByCause b s = leaveWanted b (modBay b (fun y => { y with causeMark := true }) (forceOut b s)) := by
  rw [outByCause, if_pos h, if_pos hw]

theorem outByCause_unwanted {b : Bay} {s : State} (h : (bay s b).st.inUse = true) (hw : s.lamp.wanted.get b = false) :
    outByCause b s = forceOut b s := by
  rw [outByCause, if_pos h, if_neg (by simp [hw])]

theorem outByCause_idle {b : Bay} {s : State} (h : (bay s b).st.inUse = false) : outByCause b s = s := by
  rw [outByCause, if_neg (by simp [h])]

/-- What a cause makes of its bay, where the bay is in use (R9). -/
theorem bay_outByCause {b : Bay} {s : State} (h : (bay s b).st.inUse = true) :
    ∃ e, bay (outByCause b s) b = { bay s b with
      st := .cooling, timer := some (s.uptime + 90000), lastExt := e, causeMark := (bay s b).causeMark || s.lamp.wanted.get b } := by
  obtain ⟨e, he⟩ := bay_forceOut h b
  rw [if_pos rfl] at he
  refine ⟨e, ?_⟩
  cases hw : s.lamp.wanted.get b with
  | true =>
    rw [outByCause_wanted h hw, bay_leaveWanted _ _ _ (by simp [he]), bay_modBay_self, he]
    simp
  | false =>
    rw [outByCause_unwanted h hw, he]
    simp

/-- The choice that a failover makes is the right one from the state just after the bay went out. -/
theorem failover_right {b : Bay} {s x : State} (h : (bay s b).st.inUse = true)
    (hx : x = modBay b (fun y => { y with causeMark := true }) (forceOut b s)) :
    rightChoice (causedOut b s) (chosenSet { x with lamp := { x.lamp with wanted := x.lamp.wanted.set b false } }) := by
  have hbay (c : Bay) : ∃ e, bay x c = { bay (causedOut b s) c with lastExt := e } := by
    obtain ⟨e, he⟩ := bay_forceOut h c
    refine ⟨(bay x c).lastExt, ?_⟩
    subst hx
    rw [bay_causedOut, bay_modBay, he]
    split <;> simp
  have hcount : x.lamp.count = s.lamp.count := by subst hx; exact (forceOut_rest b s).1
  have hwanted : x.lamp.wanted = s.lamp.wanted := by subst hx; exact (forceOut_rest b s).2.1
  have hwork : x.work = s.work := by subst hx; simp
  have hup : x.uptime = s.uptime := by subst hx; simp
  have hst (c : Bay) : (bay x c).st = (bay (causedOut b s) c).st := by obtain ⟨e, he⟩ := hbay c; rw [he]
  have hmark (c : Bay) : (bay x c).causeMark = (bay (causedOut b s) c).causeMark := by obtain ⟨e, he⟩ := hbay c; rw [he]
  have htimer (c : Bay) : (bay x c).timer = (bay (causedOut b s) c).timer := by obtain ⟨e, he⟩ := hbay c; rw [he]
  have hbar (c : Bay) : (bay x c).lossBar = (bay (causedOut b s) c).lossBar := by obtain ⟨e, he⟩ := hbay c; rw [he]
  have hw : (causedOut b s).work = x.work := hwork.symm
  have hu : (causedOut b s).uptime = x.uptime := hup.symm
  have hset : (causedOut b s).lamp.wanted = x.lamp.wanted.set b false := by rw [hwanted]; rfl
  refine (rightChoice_congr (s := causedOut b s) (x := { x with lamp := { x.lamp with wanted := x.lamp.wanted.set b false } }) hcount (fun c => ?_) hst hmark (fun c => ?_) (fun c => ?_)).1 (chosenSet_right _)
  · simp only [eligible, lampUsable, lampRec, barClear, hset, hw, hu, ← hst, ← hbar]
    rfl
  · simp only [darkEntry, hu, ← hst, ← htimer]
    rfl
  · simp only [perMille, lampRec, hw]

theorem outByCause_failsOver (b : Bay) (s : State) : failsOver b s (outByCause b s) := by
  refine ⟨fun ⟨h, hw⟩ => ?_, fun hor => ?_⟩
  · obtain ⟨e, he⟩ := bay_outByCause h
    refine ⟨by rw [he, hw, Bool.or_true], ?_⟩
    rw [outByCause_wanted h hw]
    generalize hx : modBay b (fun y => { y with causeMark := true }) (forceOut b s) = x
    have hcount : x.lamp.count = s.lamp.count := by subst hx; exact (forceOut_rest b s).1
    have hwanted : x.lamp.wanted = s.lamp.wanted := by subst hx; exact (forceOut_rest b s).2.1
    rw [leaveWanted_wanted, if_pos (by rw [hwanted, hw]), hcount]
    refine ⟨fun h0 => by rw [if_pos h0, hwanted], fun h0 => ?_⟩
    rw [if_neg h0]
    exact failover_right h hx.symm
  · cases h : (bay s b).st.inUse with
    | false => rw [outByCause_idle h]; exact ⟨rfl, rfl⟩
    | true =>
      have hw := hor.resolve_left (by simp [h])
      obtain ⟨e, he⟩ := bay_outByCause h
      refine ⟨by rw [he, hw, Bool.or_false], ?_⟩
      rw [outByCause_unwanted h hw, (forceOut_rest b s).2.1]

theorem outByCause_igniter {b : Bay} {s : State} (h : (bay s b).st = .striking) :
    (outByCause b s).lamp.igniter = none ∧ (outByCause b s).lamp.spacing = some (s.uptime + 5000, b) := by
  have hu : (bay s b).st.inUse = true := by rw [h]; rfl
  have hf := (forceOut_rest b s).2.2 h
  cases hw : s.lamp.wanted.get b with
  | true => rw [outByCause_wanted hu hw]; simpa [leaveWanted_rest] using hf
  | false => rwa [outByCause_unwanted hu hw]

theorem outByCause_work (b : Bay) (s : State) : (outByCause b s).work = s.work := by simp

/-- The right choice after a cause does not look at what the event that brings the cause has changed beside it. -/
theorem causedOut_congr {b : Bay} {s y : State} {w : PerBay Bool} (hlamp : ∀ c, (bay y c).st = (bay s c).st ∧
      (bay y c).timer = (bay s c).timer ∧ (bay y c).causeMark = (bay s c).causeMark ∧ (bay y c).lossBar = (bay s c).lossBar)
    (hcount : y.lamp.count = s.lamp.count) (hwanted : y.lamp.wanted = s.lamp.wanted) (hwork : y.work = s.work)
    (hup : y.uptime = s.uptime) : rightChoice (causedOut b y) w ↔ rightChoice (causedOut b s) w := by
  have hst (c : Bay) : (bay (causedOut b y) c).st = (bay (causedOut b s) c).st := by
    rw [bay_causedOut, bay_causedOut]; split <;> simp [hlamp]
  have hmark (c : Bay) : (bay (causedOut b y) c).causeMark = (bay (causedOut b s) c).causeMark := by
    rw [bay_causedOut, bay_causedOut]; split <;> simp [hlamp]
  have htimer (c : Bay) : (bay (causedOut b y) c).timer = (bay (causedOut b s) c).timer := by
    rw [bay_causedOut, bay_causedOut]; split <;> simp [hlamp, hup]
  have hbar (c : Bay) : (bay (causedOut b y) c).lossBar = (bay (causedOut b s) c).lossBar := by
    rw [bay_causedOut, bay_causedOut]; split <;> simp [hlamp]
  have hw : (causedOut b y).work = (causedOut b s).work := hwork
  have hu : (causedOut b y).uptime = (causedOut b s).uptime := hup
  have hset : (causedOut b y).lamp.wanted = (causedOut b s).lamp.wanted := by simp only [causedOut, modBay_lamp, hwanted]
  refine rightChoice_congr hcount (fun c => ?_) hst hmark (fun c => ?_) (fun c => ?_)
  · simp only [eligible, lampUsable, lampRec, barClear, hset, hw, hu, hst, hbar]
  · simp only [darkEntry, hu, hst, htimer]
  · simp only [perMille, lampRec, hw]

/-- The state in which a door has opened, before its bay goes out (R19). -/
def doorOpened (b : Bay) (s : State) : State :=
  modBay b (fun y => { y with doorFlag := .opened, doorFault := y.doorFault || y.st.inUse }) (setDoor b true s)

theorem doorOpens_eq {b : Bay} {s : State} (h : s.pins.door.get b = false) : doorOpens b s = outByCause b (doorOpened b s) := by
  have hopen (f : DoorFlag) : f.onOpen = .opened := by cases f <;> rfl
  rw [doorOpens, if_neg (by simp [h]), doorOpened]
  simp only [hopen]

theorem bay_doorOpened (b c : Bay) (s : State) :
    bay (doorOpened b s) c =
      if c = b then { bay s c with doorFlag := .opened, doorFault := (bay s c).doorFault || (bay s c).st.inUse } else bay s c :=
  bay_modBay b c _ _

theorem doorOpened_beside (b : Bay) (s : State) : sameBesideLamps
    { nextEvent s with pins := { s.pins with door := s.pins.door.set b true } } (outByCause b (doorOpened b (nextEvent s))) := by
  unfold doorOpened
  exact sameBesideLamps_of_blocks

theorem doorCloses_eq {b : Bay} {s : State} (h : s.pins.door.get b = true) :
    doorCloses b s = modBay b (fun y => { y with doorFlag := if y.doorFlag = .opened then .cycled else y.doorFlag, doorFault := false })
      (setDoor b false s) := by
  have hclose (f : DoorFlag) : f.onClose = if f = .opened then .cycled else f := by cases f <;> rfl
  rw [doorCloses, if_pos h]
  simp only [hclose]

theorem ballastAsserts_eq {b : Bay} {s : State} (h : s.pins.ballast.get b = false) :
    ballastAsserts b s = outByCause b (setBallast b true s) := by
  rw [ballastAsserts, if_neg (by simp [h])]

/-- The failover as the settled state shows it, from before the event. -/
theorem failsOver_settle {b : Bay} {s y : State} (hlamp : ∀ c, (bay y c).st = (bay s c).st ∧
      (bay y c).timer = (bay s c).timer ∧ (bay y c).causeMark = (bay s c).causeMark ∧ (bay y c).lossBar = (bay s c).lossBar)
    (hcount : y.lamp.count = s.lamp.count) (hwanted : y.lamp.wanted = s.lamp.wanted) (hwork : y.work = s.work)
    (hup : y.uptime = s.uptime) : failsOver b s (settle (outByCause b y)) := by
  obtain ⟨st, hst⟩ := bay_settle (outByCause b y) b
  have h := outByCause_failsOver b y
  unfold failsOver at h ⊢
  rw [hst, settle_wanted]
  obtain ⟨hsame, -, hmark, -⟩ := hlamp b
  rwa [hsame, hwanted, hcount, hmark, causedOut_congr hlamp hcount hwanted hwork hup] at h

theorem execDoorOpen_eq {s : State} {b : Bay} (hq : quiescent s = true) (hd : s.pins.door.get b = false) :
    exec (.doorOpen b) s = .next (settle (outByCause b (doorOpened b (nextEvent s)))) := by
  rw [← doorOpens_eq (s := nextEvent s) hd]
  exact actLoose_of_quiescent hq

theorem execBallast_eq {s : State} {b : Bay} (hq : quiescent s = true) (hd : s.pins.ballast.get b = false) :
    exec (.ballastFaultAsserted b) s = .next (settle (outByCause b (setBallast b true (nextEvent s)))) := by
  rw [← ballastAsserts_eq (s := nextEvent s) hd]
  exact actLoose_of_quiescent hq

/-- What a door or a ballast makes of its bay, in the settled state (R9). -/
theorem bay_settle_outByCause {b : Bay} {s : State} :
    ((bay s b).st.inUse = true → (bay (settle (outByCause b s)) b).st = .cooling ∧
      (bay (settle (outByCause b s)) b).timer = some (s.uptime + 90000)) ∧
    ((bay s b).st.inUse = false → (bay (settle (outByCause b s)) b).st = (bay s b).st) ∧
    (bay (settle (outByCause b s)) b).doorFlag = (bay s b).doorFlag ∧
    (bay (settle (outByCause b s)) b).doorFault = (bay s b).doorFault := by
  simp only [bay_settle_st, bay_settle_timer, bay_settle_doorFlag, bay_settle_doorFault]
  cases h : (bay s b).st.inUse with
  | true =>
    obtain ⟨e, he⟩ := bay_outByCause h
    rw [he]
    exact ⟨fun _ => ⟨rfl, rfl⟩, fun h => (by cases h), rfl, rfl⟩
  | false =>
    rw [outByCause_idle h]
    exact ⟨fun h => (by cases h), fun _ => rfl, rfl, rfl⟩

/-- Settles O12: both causes end in `outByCause`, from a state that differs in the input and the door's flags. -/
theorem lampDoorsAndBallast : Obligations.LampDoorsAndBallast := by
  intro s b hq
  refine ⟨fun hd => ⟨_, execDoorOpen_eq hq hd, ?_⟩, fun hd => goesTo_act hq rfl ?_, fun hd => ⟨_, execBallast_eq hq hd, ?_⟩,
    goesTo_act hq rfl (essence_congr rfl rfl rfl rfl rfl)⟩
  · have hb := bay_doorOpened b b (nextEvent s)
    rw [if_pos rfl, bay_nextEvent] at hb
    obtain ⟨hused, hidle, hflag, hfault⟩ := bay_settle_outByCause (b := b) (s := doorOpened b (nextEvent s))
    rw [hb] at hused hidle hflag hfault
    refine ⟨by rw [settle_pins, outByCause_pins]; rfl, hflag, fun hu => ⟨(hused hu).1, (hused hu).2, ?_⟩, fun hu => ⟨hidle hu, ?_⟩,
      fun hs => ?_, failsOver_settle (fun c => ?_) rfl rfl rfl rfl, by rw [settle_work, outByCause_work]; rfl,
      sameBesideLamps_input (doorOpened_beside b s)⟩
    · rw [hfault]
      simp [hu]
    · rw [hfault]
      simp [hu]
    · rw [settle_igniter, settle_spacing]
      exact outByCause_igniter (by rw [hb]; exact hs)
    · rw [bay_doorOpened, bay_nextEvent]
      split <;> simp
  · rw [doorCloses_eq (s := nextEvent s) hd]
    exact essence_congr rfl rfl rfl rfl rfl
  · obtain ⟨hused, hidle, -, -⟩ := bay_settle_outByCause (b := b) (s := setBallast b true (nextEvent s))
    refine ⟨by rw [settle_pins, outByCause_pins]; rfl, hused, hidle, fun hs => ?_,
      failsOver_settle (fun c => ⟨rfl, rfl, rfl, rfl⟩) rfl rfl rfl rfl, by rw [settle_work, outByCause_work]; rfl,
      sameBesideLamps_input (p := { s.pins with ballast := s.pins.ballast.set b true }) sameBesideLamps_of_blocks⟩
    rw [settle_igniter, settle_spacing]
    exact outByCause_igniter hs

end Sys2Proof.Lamps

/-! PROOFS. The counts of wear, conditioning and heat (O20, O25 to O28). -/

namespace Sys2Proof.Counts

open Sys2Proof Sys2Proof.Machine Sys2Proof.Upkeep Sys2Proof.Steps Sys2Proof.Lamps

set_option Elab.async false

/-! ## Lit seconds -/

section LitSeconds

variable (b c : Bay) (s : State)

theorem countWear_mode : (countWear b s).mode = s.mode := by
  unfold countWear
  split <;> simp

theorem countWear_rest : (countWear b s).secondsDone = s.secondsDone ∧ (countWear b s).heat = s.heat ∧
    (countWear b s).uptime = s.uptime ∧ (countWear b s).lamp.count = s.lamp.count := by
  unfold countWear noteTop
  split
  · split <;> exact ⟨rfl, rfl, rfl, rfl⟩
  · exact ⟨rfl, rfl, rfl, rfl⟩

/-- A lit second notes the boundary that fills the unsaved count (R36). -/
theorem bay_countWear : bay (countWear b s) c =
    if c = b ∧ burntThrough s b = true ∧ s.wear.get b = 599 then { bay s c with topAt := some (boundary s) } else bay s c := by
  unfold countWear
  split
  · have hn : bay { noteTop b s with
        work := { s.work with lamps := s.work.lamps.set b ((lampRec s b).map (fun r =>
          { r with litSeconds := satAdd litSecTop r.litSeconds 1, fraction := r.fraction + litWeight s b })) }
        wear := s.wear.set b (satAdd unsavedTop (s.wear.get b) 1) } c = bay (noteTop b s) c := rfl
    rw [hn, noteTop_eq]
    split
    · rw [bay_modBay]
      simp [*, boundary, second]
    · simp [*]
  · simp [*]

theorem lampRec_countWear : lampRec (countWear b s) c =
    if c = b ∧ burntThrough s b = true then (lampRec s c).map (fun r =>
      { r with litSeconds := min 4294967295 (r.litSeconds + 1), fraction := r.fraction + litWeight s c }) else lampRec s c := by
  unfold countWear
  split
  · simp only [lampRec, PerBay.get_set]
    split
    · subst_vars; simp [*]; rfl
    · simp [*]
  · simp [*]

theorem wear_countWear : (countWear b s).wear.get c =
    if c = b ∧ burntThrough s b = true then min 600 (s.wear.get c + 1) else s.wear.get c := by
  unfold countWear
  split
  · simp only [PerBay.get_set]
    split
    · subst_vars; simp [*]; rfl
    · simp [*]
  · simp [*]

theorem bay_countWear_rest : (bay (countWear b s) c).st = (bay s c).st ∧ (bay (countWear b s) c).burnSince = (bay s c).burnSince ∧
    (bay (countWear b s) c).litSince = (bay s c).litSince := by
  rw [bay_countWear]
  split <;> exact ⟨rfl, rfl, rfl⟩

theorem burntThrough_countWear : burntThrough (countWear b s) c = burntThrough s c := by
  simp only [burntThrough, boundary, (countWear_rest b s).1, bay_countWear_rest]
  rfl

theorem litThrough_countWear : litThrough (countWear b s) c = litThrough s c := by
  simp only [litThrough, boundary, (countWear_rest b s).1, bay_countWear_rest]
  rfl

theorem litWeight_countWear : litWeight (countWear b s) c = litWeight s c := by
  simp only [litWeight, bayMode, countWear_mode, (countWear_rest b s).2.1]

theorem bayMode_countMode : bayMode (countMode b s) c =
    if c = b ∧ litThrough s b = true then (bayMode s c).tick else bayMode s c := by
  unfold countMode
  split
  · simp only [bayMode, modBayMode_mode, PerBay.get_set]
    split
    · subst_vars; simp [*]
    · simp [*]
  · simp [*]

theorem countMode_rest : (countMode b s).lamp = s.lamp ∧ (countMode b s).work = s.work ∧ (countMode b s).wear = s.wear ∧
    (countMode b s).secondsDone = s.secondsDone := by
  unfold countMode
  split <;> exact ⟨rfl, rfl, rfl, rfl⟩

theorem litThrough_countMode : litThrough (countMode b s) c = litThrough s c := by
  simp only [litThrough, boundary, bay, countMode_rest]
  rfl

/-- What the lit seconds of a boundary make of a bay (R27, R36, R53). -/
theorem litSecondPasses_spec :
    bay (litSecondPasses s) c =
        (if burntThrough s c = true ∧ s.wear.get c = 599 then { bay s c with topAt := some (boundary s) } else bay s c) ∧
      lampRec (litSecondPasses s) c =
        (if burntThrough s c = true then (lampRec s c).map (fun r =>
          { r with litSeconds := min 4294967295 (r.litSeconds + 1), fraction := r.fraction + litWeight s c }) else lampRec s c) ∧
      (litSecondPasses s).wear.get c = (if burntThrough s c = true then min 600 (s.wear.get c + 1) else s.wear.get c) ∧
      bayMode (litSecondPasses s) c = (if litThrough s c = true then (bayMode s c).tick else bayMode s c) := by
  generalize hx : countWear .bayB (countWear .bayA s) = x
  have hp : litSecondPasses s = { countMode .bayB (countMode .bayA x) with secondsDone := s.secondsDone + 1 } := by subst hx; rfl
  have hlamp : (litSecondPasses s).lamp = x.lamp := by rw [hp]; simp [countMode_rest]
  have hwork : (litSecondPasses s).work = x.work := by rw [hp]; simp [countMode_rest]
  have hwear : (litSecondPasses s).wear = x.wear := by rw [hp]; simp [countMode_rest]
  have hmode : bayMode (litSecondPasses s) c = bayMode (countMode .bayB (countMode .bayA x)) c := by rw [hp]; rfl
  have hxm : bayMode x c = bayMode s c := by subst hx; simp only [bayMode, countWear_mode]
  refine ⟨?_, ?_, ?_, ?_⟩
  · rw [bay, hlamp, ← bay, ← hx, bay_countWear, burntThrough_countWear, wear_countWear, bay_countWear]
    cases c <;> simp [boundary, countWear_rest]
  · rw [lampRec, hwork, ← lampRec, ← hx, lampRec_countWear, burntThrough_countWear, lampRec_countWear, litWeight_countWear]
    cases c <;> simp
  · rw [hwear, ← hx, wear_countWear, burntThrough_countWear, wear_countWear]
    cases c <;> simp
  · rw [hmode, bayMode_countMode, litThrough_countMode, bayMode_countMode, hxm, ← hx]
    simp only [litThrough_countWear]
    cases c <;> simp

end LitSeconds

theorem tick_rest (m : BayMode) :
    m.tick.ecoMin = m.ecoMin ∧ m.tick.debt = m.debt ∧ m.tick.credit = m.credit ∧ m.tick.override = m.override ∧
      m.tick.ecoSec = (if m.effective = some .eco then m.ecoSec + 1 else m.ecoSec) ∧
      m.tick.run = (if m.effective = some .full then m.run + 1 else m.run) := by
  unfold BayMode.tick
  split <;> simp_all

theorem litWeight_eq (s : State) (b : Bay) : litWeight s b = match (bayMode s b).effective with
    | some .full => 4 + (if s.heat.level = .warn then 1 else 0)
    | some .standard => 3 + (if s.heat.level = .warn then 1 else 0)
    | some .eco => 2 + (if s.heat.level = .warn then 1 else 0)
    | none => (if s.heat.level = .warn then 1 else 0) := by
  unfold litWeight
  cases (bayMode s b).effective with
  | none => simp
  | some m => cases m <;> rfl

/-- What the evaluation of a bay's mode looks at (R52, R57, R59). -/
theorem nextEffective_congr {s t : State} {b : Bay} (hst : (bay t b).st = (bay s b).st)
    (hover : (bayMode t b).override = (bayMode s b).override) (hdebt : (bayMode t b).debt = (bayMode s b).debt)
    (hheat : t.heat = s.heat) (hrequested : t.mode.requested = s.mode.requested) (htemp : t.mode.temp = s.mode.temp)
    (hceiling : t.work.ceiling = s.work.ceiling) (hrun : runningBooking t = runningBooking s) :
    nextEffective t b = nextEffective s b := by
  have hthermal : thermalCeiling t = thermalCeiling s := by unfold thermalCeiling; rw [hheat]
  have hfacility : facilityCeiling t = facilityCeiling s := by unfold facilityCeiling; rw [htemp, hceiling]
  have hpostponed : postponed t b = postponed s b := by unfold postponed; rw [hdebt, hfacility, hrun]
  have hnext : nextOverride t b = nextOverride s b := by
    unfold nextOverride overrideMayStart overrideGoesOn
    rw [hst, hover, hdebt, hthermal, hfacility, hpostponed]
  unfold nextEffective modeUnder
  rw [hst, hnext, hthermal, hfacility, hrequested]

/-- A state whose lamp records, unsaved counts and bays' parts alone are changed. -/
def recounted (s : State) (lamps : PerBay (Option LampRecord)) (wear : PerBay Nat) (bays : PerBay BayCtl) (modes : PerBay BayMode)
    (n : Nat) : State :=
  { s with
    work := { s.work with lamps := lamps }, wear := wear, lamp := { s.lamp with bays := bays }
    mode := { s.mode with bays := modes }, secondsDone := n }

theorem countWear_recounts (b : Bay) (s : State) :
    ∃ l w y, countWear b s = recounted s l w y s.mode.bays s.secondsDone := by
  unfold countWear noteTop
  split
  · split <;> exact ⟨_, _, _, rfl⟩
  · exact ⟨s.work.lamps, s.wear, s.lamp.bays, rfl⟩

theorem countMode_recounts (b : Bay) (s : State) :
    ∃ m, countMode b s = recounted s s.work.lamps s.wear s.lamp.bays m s.secondsDone := by
  unfold countMode
  split
  · exact ⟨_, rfl⟩
  · exact ⟨s.mode.bays, rfl⟩

theorem litSecondPasses_recounts (s : State) : ∃ l w y m, litSecondPasses s = recounted s l w y m (s.secondsDone + 1) := by
  obtain ⟨l1, w1, y1, h1⟩ := countWear_recounts .bayA s
  obtain ⟨l2, w2, y2, h2⟩ := countWear_recounts .bayB (countWear .bayA s)
  obtain ⟨m3, h3⟩ := countMode_recounts .bayA (countWear .bayB (countWear .bayA s))
  obtain ⟨m4, h4⟩ := countMode_recounts .bayB (countMode .bayA (countWear .bayB (countWear .bayA s)))
  refine ⟨l2, w2, y2, m4, ?_⟩
  unfold litSecondPasses
  rw [h4, h3, h2, h1]
  rfl

theorem recounted_nextEffective {s : State} {l : PerBay (Option LampRecord)} {w : PerBay Nat} {y : PerBay BayCtl} {m : PerBay BayMode}
    {n : Nat} {b : Bay} (hst : (y.get b).st = (bay s b).st) (hover : (m.get b).override = (bayMode s b).override)
    (hdebt : (m.get b).debt = (bayMode s b).debt) : nextEffective (recounted s l w y m n) b = nextEffective s b :=
  nextEffective_congr hst hover hdebt rfl rfl rfl rfl rfl

/-- What a recount that has settled leaves beside what it counts. -/
theorem essence_recounted {s t : State} {l : PerBay (Option LampRecord)} {w : PerBay Nat} {y : PerBay BayCtl} {m : PerBay BayMode}
    {n : Nat} (ht : t = settle (recounted (nextEvent s) l w y m n)) (htop : ∀ b, ∃ x, y.get b = { bay s b with topAt := x }) :
    essence { t with work := { t.work with lamps := s.work.lamps }, wear := s.wear, mode := s.mode, secondsDone := s.secondsDone
                     lamp := { t.lamp with bays := .make (fun b => { bay t b with topAt := (bay s b).topAt }) } } = essence s := by
  have hbare (b : Bay) : BayCtl.bare { bay t b with topAt := (bay s b).topAt } = (bay s b).bare := by
    obtain ⟨st, hst⟩ := bay_settle (recounted (nextEvent s) l w y m n) b
    obtain ⟨x, hx⟩ := htop b
    have hy : bay (recounted (nextEvent s) l w y m n) b = y.get b := rfl
    rw [ht, hst, hy, hx]
    rfl
  have hwork : ({ t.work with lamps := s.work.lamps } : Records) = s.work := by rw [ht, settle_work]; rfl
  have hactive : t.sched.active = s.sched.active := by rw [ht, settle_active]; rfl
  have hup : t.uptime = s.uptime := by rw [ht, settle_uptime]; rfl
  have hsel : t.sel = (syncScan s).sel := by
    rw [ht, settle_sel]
    exact syncScan_sel_congr rfl rfl rfl rfl rfl
  have hlamp : ({ t.lamp with bays := .make (fun b => BayCtl.bare { bay t b with topAt := (bay s b).topAt }) } : LampCtl) =
      { s.lamp with bays := .make (fun b => (s.lamp.bays.get b).bare) } := by
    rw [LampCtl.mk.injEq]
    refine ⟨congrArg PerBay.make (funext hbare), ?_⟩
    rw [ht, settle_count, settle_origin, settle_wanted, settle_igniter, settle_spacing]
    exact ⟨rfl, rfl, rfl, rfl, rfl⟩
  have hheat : ({ t.heat with fan := .low, stallFrom := none } : Heat) = { s.heat with fan := .low, stallFrom := none } := by
    rw [ht]
    exact settle_heat_bare _
  have hsched : ({ t.sched with idle := 0 } : Sched) = { s.sched with idle := 0 } := by
    rw [ht]
    exact settle_sched_bare _
  rw [hwork]
  refine essence_ext ?_ hup ?_ rfl ?_ ?_ rfl ?_ rfl ?_ ?_ ?_ ?_ ?_ rfl hheat hsched (syncScan_sel_again hsel hup rfl rfl hactive)
  case refine_10 => simpa only [PerBay.get_make] using hlamp
  all_goals rw [ht]; simp [recounted]

/-- Settles O20. -/
theorem litSecondCounts : Obligations.LitSecondCounts := by
  intro s hq hd
  have hexec : exec .litSecond s = .next (settle (litSecondPasses (nextEvent s))) := by
    show onTime litSecondDue litSecondPasses (completeUnsaved s) = _
    rw [completeUnsaved_of_quiescent hq]
    exact onTime_of_due hq hd
  obtain ⟨l, w, y, m, hx⟩ := litSecondPasses_recounts (nextEvent s)
  refine ⟨_, hexec, ?_, fun b => ?_, ?_⟩
  · rw [settle_secondsDone, hx]
    rfl
  · obtain ⟨hbay, hrec, hwear, hmode⟩ := litSecondPasses_spec b (nextEvent s)
    have hnext : nextEffective (litSecondPasses (nextEvent s)) b = nextEffective s b := by
      rw [hx] at hbay hmode ⊢
      refine recounted_nextEffective ?_ ?_ ?_
      · exact (congrArg BayCtl.st hbay).trans (by split <;> rfl)
      · exact (congrArg BayMode.override hmode).trans (by split <;> [exact (tick_rest _).2.2.2.1; rfl])
      · exact (congrArg BayMode.debt hmode).trans (by split <;> [exact (tick_rest _).2.1; rfl])
    rw [litWeight_eq] at hrec
    generalize litSecondPasses (nextEvent s) = x at hbay hrec hwear hmode hnext ⊢
    have hcounters (m : BayMode) : (bayMode x b = m → (evalMode x b).ecoSec = m.ecoSec ∧ (evalMode x b).ecoMin = m.ecoMin ∧
      (evalMode x b).debt = m.debt ∧ (evalMode x b).credit = m.credit) := fun h => h ▸ ⟨rfl, rfl, rfl, rfl⟩
    obtain ⟨heco, hmin, hdebt, hcredit⟩ := hcounters _ hmode
    obtain ⟨st, hst⟩ := bay_settle x b
    refine ⟨?_, ?_, ?_, ?_, fun hl he hn => ?_, ?_, ?_, ?_⟩
    · rw [lampRec, settle_work]
      exact hrec
    · rw [settle_wear]
      exact hwear
    · rw [hst]
      show (bay x b).topAt = if (burntThrough (nextEvent s) b && s.wear.get b == 599) = true then
        some ((s.secondsDone + 1) * 1000) else (bay s b).topAt
      have hiff : (burntThrough (nextEvent s) b && s.wear.get b == 599) = true ↔
          burntThrough (nextEvent s) b = true ∧ (nextEvent s).wear.get b = 599 := by simp
      rw [hbay, if_congr hiff rfl rfl]
      split <;> rfl
    · rw [bayMode_settle, heco]
      show _ = if (litThrough (nextEvent s) b && (bayMode s b).effective == some .eco) = true then
        (bayMode s b).ecoSec + 1 else (bayMode s b).ecoSec
      cases litThrough (nextEvent s) b with
      | true =>
        rw [if_pos rfl, (tick_rest _).2.2.2.2.1, Bool.true_and]
        exact if_congr beq_iff_eq.symm rfl rfl
      | false => rfl
    · have hlit : (bay x b).st = .lit := by
        simp only [Bool.and_eq_true, beq_iff_eq] at hl
        rw [hbay]
        split <;> exact hl.1
      have hthrough : litThrough (nextEvent s) b = true := hl
      have hrun : (bayMode x b).run = (bayMode s b).run + 1 := by
        rw [hmode, if_pos hthrough, (tick_rest _).2.2.2.2.2]
        exact if_pos he
      rw [bayMode_settle, evalMode, hnext, hn]
      simp only [hlit, and_self, if_true, hrun]
    · rw [bayMode_settle, hmin]
      split <;> [exact (tick_rest _).1; rfl]
    · rw [bayMode_settle, hdebt]
      split <;> [exact (tick_rest _).2.1; rfl]
    · rw [bayMode_settle, hcredit]
      split <;> [exact (tick_rest _).2.2.1; rfl]
  · rw [hx]
    refine essence_recounted rfl fun b => ?_
    have hbay := (litSecondPasses_spec b (nextEvent s)).1
    rw [hx] at hbay
    have hy : y.get b = _ := hbay
    rw [hy]
    split
    · exact ⟨_, rfl⟩
    · exact ⟨_, rfl⟩

/-! ## Counters that carry -/

theorem dropExhausted_work (b : Bay) (s : State) : (dropExhausted b s).work = s.work := by simp

theorem wearCarries_work (b : Bay) (s : State) : (wearCarries b s).work =
    { s.work with lamps := s.work.lamps.set b ((lampRec s b).map (fun r => addWear 1 { r with fraction := r.fraction - 60 })) } := by
  rw [wearCarries, dropExhausted_work, changeRecord_lamps]

theorem wearCarries_beside (b : Bay) (s : State) : sameBesideLamps s (wearCarries b s) := by
  unfold wearCarries
  exact sameBesideLamps_of_blocks (h7 := by simp [changeRecord_lamps])

theorem carryDue_of {s : State} {b : Bay} {r : LampRecord} (h : lampRec s b = some r) (hf : 60 ≤ r.fraction) : carryDue s b = true := by
  simp [carryDue, h, hf]

theorem unsavedDue_of {s : State} {b : Bay} (h : 600 ≤ s.wear.get b) (hn : writeWaits s (.lamp b) = false) :
    (fun x => unsavedDue x b) s = true :=
   Bool.and_eq_true_iff.2 ⟨decide_eq_true h, by rw [hn]; rfl⟩

/-- The write that an unsaved count calls for, after a carry of its bay (R28, R36). -/
theorem goesTo_unsaved {s u : State} {b : Bay} (hu : fuCarry b s = u) (hw : 600 ≤ u.wear.get b)
    (hn : writeWaits u (.lamp b) = false) : goesTo (.unsavedWrite b) s (askOwn (.lamp b) u) := by
  have hexec : exec (.unsavedWrite b) s = .next (ifDue (fun x => unsavedDue x b) (askOwn (.lamp b)) u) := by rw [← hu]; rfl
  refine ⟨happen (askOwn (.lamp b)) u, ?_, ?_⟩
  · rw [hexec, ifDue_of_due (unsavedDue_of hw hn)]
  · rw [happen_essence]
    exact essence_askOwn_congr rfl

theorem conditioningIsDue_of {s : State} {b : Bay} (h0 : 0 < (bayMode s b).ecoMin)
    (hi : (if s.heat.hot = true then s.work.settings.condint / 2 else s.work.settings.condint) ≤ (bayMode s b).ecoMin) :
    (fun x => conditioningIsDue x b) s = true :=
  Bool.and_eq_true_iff.2 ⟨decide_eq_true h0, decide_eq_true hi⟩

theorem bayMode_nextEvent (s : State) (b : Bay) : bayMode (nextEvent s) b = bayMode s b := rfl

theorem bayMode_modBayMode (b c : Bay) (f : BayMode → BayMode) (s : State) :
    bayMode (modBayMode b f s) c = if c = b then f (bayMode s c) else bayMode s c := by
  cases b <;> cases c <;> rfl

/-- Two changes of a bay's conditioning that agree but for the effective mode, the override and the Full run. -/
theorem essence_modBayMode_bare {b : Bay} {f g : BayMode → BayMode} {s : State} (h : (f (bayMode s b)).bare = (g (bayMode s b)).bare) :
    essence (modBayMode b f (nextEvent s)) = essence (modBayMode b g s) := by
  refine essence_ext rfl rfl rfl rfl rfl rfl rfl rfl rfl rfl rfl rfl rfl rfl ?_ rfl rfl (syncScan_sel_congr rfl rfl rfl rfl rfl)
  have hm (c : Bay) : (bayMode (modBayMode b f (nextEvent s)) c).bare = (bayMode (modBayMode b g s) c).bare := by
    rw [bayMode_modBayMode, bayMode_modBayMode]
    split
    · subst_vars
      exact h
    · rfl
  exact congrArg (fun x => ({ s.mode with bays := .make x } : ModeUnit)) (funext hm)

/-- Settles O25: each event that follows another is `happen` where it is due. -/
theorem countersCarry : Obligations.CountersCarry := by
  intro s b
  refine ⟨fun r hr hf => ⟨_, congrArg Host.Outcome.next (ifDue_of_due (carryDue_of hr hf)), ?_, ?_,
      sameBesideLamps_settle (sameBesideLamps_nextEvent (wearCarries_beside ..))⟩,
    fun hw hn => ⟨fun hc => ?_, fun hc => ⟨_, rfl, fun hw' hn' => ?_⟩⟩, fun he => goesTo_follow ?_ rfl (essence_congr rfl rfl rfl rfl rfl),
    fun h0 hi => ⟨fun hc => goesTo_follow ?_ rfl ?_, fun hc => goesTo_follow ?_ rfl ?_⟩,
    fun hr => ⟨_, congrArg Host.Outcome.next (ifDue_of_due (decide_eq_true hr)), ?_, fun hd => ?_, fun hd => ?_⟩⟩
  · have hrec : lampRec (nextEvent s) b = some r := hr
    rw [happen, lampRec, settle_work, wearCarries_work, hrec]
    simp [addWear, satAdd, wearTop]
  · rw [happen, lampRec, settle_work, wearCarries_work]
    exact PerBay.get_set_other ..
  · exact goesTo_unsaved (ifDue_of_not hc) hw hn
  · exact goesTo_unsaved rfl hw' hn'
  · exact decide_eq_true he
  · exact conditioningIsDue_of h0 hi
  · exact essence_modBayMode_bare (by rw [BayMode.fallDue, if_pos hc])
  · exact conditioningIsDue_of h0 hi
  · exact essence_modBayMode_bare (by rw [BayMode.fallDue, if_neg (by omega)]; rfl)
  · have hrun : (bayMode (fullRunCompletes b (nextEvent s)) b).run = 0 := by
      rw [fullRunCompletes, bayMode_modBayMode, if_pos rfl]
      unfold BayMode.runDone
      split <;> rfl
    rw [happen, bayMode_settle, evalMode, hrun, ite_self]
  · rw [happen, essence_settle]
    exact essence_modBayMode_bare (by rw [BayMode.runDone, if_pos hd]; rfl)
  · rw [happen, essence_settle]
    exact essence_modBayMode_bare (by rw [BayMode.runDone, if_neg (by omega)]; rfl)

/-! ## Conversions -/

theorem runCount_eq (c : Bool) (n : Nat) : runCount c n = if c = true then min 3 (n + 1) else 0 := rfl

theorem convert_heat (housing ambient : Int) (s : State) :
    let x := max (-20) (min 150 housing)
    let y := max (-20) (min 150 ambient)
    convert housing ambient s = { s with heat := { s.heat with
      housing := some x, ambient := some y
      faultCount := if x = -20 then min 3 (s.heat.faultCount + 1) else 0
      clearCount := if x = -20 then 0 else min 3 (s.heat.clearCount + 1)
      atLeast78 := if x = -20 then s.heat.atLeast78 else if 78 ≤ x then min 3 (s.heat.atLeast78 + 1) else 0
      atLeast92 := if x = -20 then s.heat.atLeast92 else if 92 ≤ x then min 3 (s.heat.atLeast92 + 1) else 0
      below80 := if x = -20 then s.heat.below80 else if x < 80 then min 3 (s.heat.below80 + 1) else 0
      below70 := if x = -20 then s.heat.below70 else if x < 70 then min 3 (s.heat.below70 + 1) else 0
      atLeast35 := if 35 ≤ y then min 3 (s.heat.atLeast35 + 1) else 0
      below32 := if y < 32 then min 3 (s.heat.below32 + 1) else 0 } } := by
  intro x y
  have hx : limitReading housing = x := rfl
  have hy : limitReading ambient = y := rfl
  by_cases h : x = -20
  · simp [convert, hx, hy, Heat.judgeSensor, Heat.judgeLevel, Heat.judgeHall, runCount, satAdd, h]
  · simp [convert, hx, hy, Heat.judgeSensor, Heat.judgeLevel, Heat.judgeHall, runCount, satAdd, h]

theorem sensorFaultDue_iff (s : State) :
    sensorFaultDue s = true ↔ 3 ≤ (if s.heat.sensorFault = true then s.heat.clearCount else s.heat.faultCount) := by
  unfold sensorFaultDue
  split <;> exact decide_eq_true_iff

theorem hallDue_iff (s : State) : hallDue s = true ↔ 3 ≤ (if s.heat.hot = true then s.heat.below32 else s.heat.atLeast35) := by
  unfold hallDue
  split <;> exact decide_eq_true_iff

/-- Settles O26: the counts are those of `convert_heat`. -/
theorem conversionsCounted : Obligations.ConversionsCounted := by
  refine fun s => ⟨fun housing ambient hq => goesTo_actLoose hq rfl ?_, fun h => goesTo_follow ((sensorFaultDue_iff s).2 h) rfl ?_,
    fun h => goesTo_follow ((hallDue_iff s).2 h) rfl ?_⟩
  · rw [convert_heat]
    exact essence_congr rfl rfl rfl rfl rfl
  · exact essence_congr rfl rfl rfl rfl rfl
  · rw [hallChanges, essence_notify]
    exact essence_congr rfl rfl rfl rfl rfl

/-! ## The thermal level -/

/-- A level that the counts call for, below Shutdown. -/
theorem levelChanges_below {s : State} {l : Thermal} (h : nextLevel s.heat = some l) (hl : l ≠ .shutdown) :
    goesTo .thermalLevelChange s (setLevel l s) := by
  refine goesTo_follow (due := fun x => (nextLevel x.heat).isSome) (by rw [h]; rfl) rfl ?_
  have hc : levelChanges (nextEvent s) = heatNotice (setLevel l (nextEvent s)) := by
    have hn : nextLevel (nextEvent s).heat = some l := h
    unfold levelChanges
    rw [hn]
    cases l with
    | shutdown => exact absurd rfl hl
    | normal => rfl
    | warn => rfl
  rw [hc, heatNotice, essence_notify]
  exact essence_congr rfl rfl rfl rfl rfl

theorem nextLevel_shutdown {h : Heat} (hl : h.level ≠ .shutdown) (h92 : 3 ≤ h.atLeast92) : nextLevel h = some .shutdown := by
  unfold nextLevel
  split
  · rw [if_pos h92]
  · rw [if_pos h92]
  · exact absurd ‹_› hl

theorem forceOut_idle {b : Bay} {s : State} (h : (bay s b).st.inUse = false) : forceOut b s = s := by
  unfold forceOut
  split <;> simp_all [BaySt.inUse]

theorem bay_forceOut_other {b c : Bay} {s : State} (h : c ≠ b) : bay (forceOut b s) c = bay s c := by
  cases hu : (bay s b).st.inUse with
  | false => rw [forceOut_idle hu]
  | true =>
    obtain ⟨e, he⟩ := bay_forceOut hu c
    rw [he, if_neg h]

/-- Both bays forced out: a bay in use is in Cooling, and one that is not stays. -/
def bothOut (s : State) : State := forceOut .bayB (forceOut .bayA s)

theorem bay_bothOut (s : State) (b : Bay) : bay (bothOut s) b = bay (forceOut b s) b := by
  cases b with
  | bayA => exact bay_forceOut_other (by decide)
  | bayB =>
    have hother : bay (forceOut .bayA s) .bayB = bay s .bayB := bay_forceOut_other (by decide)
    cases hu : (bay s .bayB).st.inUse with
    | false => rw [forceOut_idle hu, bothOut, forceOut_idle (by rw [hother, hu]), hother]
    | true =>
      have hst : ∀ x : State, bay x .bayB = bay s .bayB → x.uptime = s.uptime → bay (forceOut .bayB x) .bayB = bay (forceOut .bayB s) .bayB := by
        intro x hx hup
        unfold forceOut
        rw [hx]
        split
        · simp [enterCooling, leaveStriking, bay] at hx ⊢
          simp [hx, hup]
        · rw [bay_extinguish, bay_extinguish, hx, hup]
        · rw [bay_extinguish, bay_extinguish, hx, hup]
        · exact hx
      exact hst _ hother (by simp)

theorem bothOut_used {s : State} {b : Bay} (h : (bay s b).st.inUse = true) :
    (bay (bothOut s) b).st = .cooling ∧ (bay (bothOut s) b).timer = some (s.uptime + 90000) := by
  obtain ⟨e, he⟩ := bay_forceOut h b
  rw [bay_bothOut, he, if_pos rfl]
  exact ⟨rfl, rfl⟩

theorem bothOut_idle {s : State} {b : Bay} (h : (bay s b).st.inUse = false) : bay (bothOut s) b = bay s b := by
  rw [bay_bothOut, forceOut_idle h]

theorem bothOut_unlit (s : State) (b : Bay) : (bay (bothOut s) b).st ≠ .lit := by
  cases h : (bay s b).st.inUse with
  | true => rw [(bothOut_used h).1]; decide
  | false =>
    rw [bothOut_idle h]
    exact fun e => by simp [e, BaySt.inUse] at h

theorem forceOut_igniter_none {b : Bay} {s : State} (h : s.lamp.igniter = none) : (forceOut b s).lamp.igniter = none := by
  unfold forceOut
  split
  · rfl
  · rw [(extinguish_rest b s).2.2.2.1, h]
  · rw [(extinguish_rest b s).2.2.2.1, h]
  · exact h

theorem bothOut_igniter {s : State} {b : Bay} (h : (bay s b).st = .striking) : (bothOut s).lamp.igniter = none := by
  cases b with
  | bayA => exact forceOut_igniter_none ((forceOut_rest .bayA s).2.2 h).1
  | bayB => exact ((forceOut_rest .bayB _).2.2 (by rw [bay_forceOut_other (by decide)]; exact h)).1

theorem bothOut_rest (s : State) : (bothOut s).lamp.count = s.lamp.count ∧ (bothOut s).lamp.origin = s.lamp.origin := by
  have horigin (b : Bay) (x : State) : (forceOut b x).lamp.origin = x.lamp.origin := by
    unfold forceOut
    split
    · rfl
    · exact (extinguish_rest b x).2.1
    · exact (extinguish_rest b x).2.1
    · rfl
  exact ⟨((forceOut_rest ..).1).trans (forceOut_rest ..).1, (horigin ..).trans (horigin ..)⟩

/-- A drop after both bays are out moves no bay. -/
theorem bay_drop_bothOut (o : DemandOrigin) (s : State) (b : Bay) : bay (drop o (bothOut s)) b = bay (bothOut s) b := by
  by_cases h : (bothOut s).lamp.count = 0
  · rw [drop_none h]
  · rw [(drop_empties h).2.2.2 b, if_neg (bothOut_unlit s b)]

theorem levelChanges_shutdown {s : State} (h : nextLevel s.heat = some .shutdown) :
    levelChanges s = drop .heat (bothOut (heatNotice (setLevel .shutdown s))) := by
  unfold levelChanges
  rw [h]
  rfl

/-- Settles O27: at entry to Shutdown both bays are out before the drop, which therefore moves no bay. -/
theorem thermalLevelMoves : Obligations.ThermalLevelMoves := by
  intro s
  refine ⟨fun hl h92 h78 => levelChanges_below ?_ (by decide), fun hl h92 h70 => levelChanges_below ?_ (by decide),
    fun hl h80 => levelChanges_below ?_ (by decide), fun hl h92 => ?_⟩
  · simp [nextLevel, hl, Nat.not_le.2 h92, h78]
  · simp [nextLevel, hl, Nat.not_le.2 h92, h70]
  · simp [nextLevel, hl, h80]
  · refine ⟨_, congrArg Host.Outcome.next (ifDue_of_due (due := fun x => (nextLevel x.heat).isSome) ?_), ?_⟩
    · rw [nextLevel_shutdown hl h92]
      rfl
    · have hn : nextLevel (nextEvent s).heat = some .shutdown := nextLevel_shutdown hl h92
      rw [happen, levelChanges_shutdown hn]
      generalize hy : heatNotice (setLevel .shutdown (nextEvent s)) = y
      have hlamp : y.lamp = s.lamp := by subst hy; rfl
      have hbay (b : Bay) : bay y b = bay s b := by simp only [bay, hlamp]
      have hup : y.uptime = s.uptime := by subst hy; rfl
      obtain ⟨hcount, horigin⟩ := bothOut_rest y
      rw [hlamp] at hcount horigin
      refine ⟨?_, fun b => ⟨fun hu => ?_, fun hu => ?_, fun hs => ?_⟩, ?_, fun h0 => ?_, fun h0 => ?_, ?_, ?_⟩
      · rw [settle_level, drop_heat, bothOut, forceOut_heat, forceOut_heat]
        subst hy
        rfl
      · rw [bay_settle_st, bay_settle_timer, bay_drop_bothOut, ← hup]
        exact bothOut_used (by rw [hbay]; exact hu)
      · rw [bay_settle_st, bay_settle_timer, bay_drop_bothOut, bothOut_idle (by rw [hbay]; exact hu), hbay]
        exact ⟨rfl, rfl⟩
      · rw [settle_igniter, drop, (setDemand_rest ..).2.2.1]
        exact bothOut_igniter (b := b) (by rw [hbay]; exact hs)
      · rw [settle_count]
        exact (setDemand_rest ..).1
      · have h := drop_empties (o := .heat) (s := bothOut y) (by rw [hcount]; exact h0)
        rw [settle_origin, settle_wanted]
        exact ⟨h.2.1, h.2.2.1⟩
      · rw [settle_origin, drop_none (by rw [hcount]; exact h0), horigin]
      · rw [settle_work, drop_work, bothOut, forceOut_work, forceOut_work]
        subst hy
        rfl
      · refine sameBesideLamps_settle ?_
        subst hy
        unfold bothOut heatNotice setLevel
        exact sameBesideLamps_of_blocks

/-! ## The fan -/

theorem settle_fan_same {s : State} (h : fanChoice s = s.heat.fan) : (settle s).heat = s.heat := by
  have hm : fanChoice (syncMode s) = (syncMode s).heat.fan := h
  simp only [settle_eq, syncFaults_heat, syncWaiters_heat, syncIdle_heat, syncScan_heat]
  rw [syncFan, if_pos hm]
  rfl

/-- Settles O28: the fan's choice does not look at the stall. -/
theorem fanSupervised : Obligations.FanSupervised := by
  intro s hq
  refine ⟨⟨_, act_of_quiescent hq, settle_stall _, fun h => ?_, ?_⟩, fun x hx hd => ⟨_, onTime_of_due hq ?_, settle_stall _, fun h => ?_, ?_⟩⟩
  · have hf : fanChoice (tachPulses (nextEvent s)) = (tachPulses (nextEvent s)).heat.fan := h
    rw [settle_fan_same hf]
    rfl
  · rw [essence_settle]
    exact essence_congr rfl rfl rfl rfl rfl
  · simpa [stallDue, hx, reached, stallTime, second] using hd
  · have hf : fanChoice (fanStalls (nextEvent s)) = (fanStalls (nextEvent s)).heat.fan := h
    rw [settle_fan_same hf]
    rfl
  · rw [essence_settle]
    exact essence_congr rfl rfl rfl rfl rfl

end Sys2Proof.Counts

/-! PROOFS. The picture: the selector's and the geometry's own events (O30, O34 to O36, O38, O39, O41). -/

namespace Sys2Proof.Picture

open Sys2Proof Sys2Proof.Machine Sys2Proof.Upkeep Sys2Proof.Steps Sys2Proof.Lamps Sys2Proof.Counts

set_option Elab.async false

/-! ## What settling leaves of the picture -/

/-- A selector that is not in a scan which must end stays as it is. -/
theorem syncScan_still {s : State} (h : s.sel.st = .scanning → s.work.settings.autoscan = true ∧ examRunning s = false) : syncScan s = s :=
  if_neg fun ⟨hst, hend⟩ => by
    obtain ⟨ha, he⟩ := h hst
    simp [ha, he] at hend

theorem settle_sel_still {s : State} (h : s.sel.st = .scanning → s.work.settings.autoscan = true ∧ examRunning s = false) :
    (settle s).sel = s.sel := by
  rw [settle_sel, syncScan_still h]

theorem settle_sel_of_ne {s : State} (h : s.sel.st ≠ .scanning) : (settle s).sel = s.sel :=
  settle_sel_still fun hs => absurd hs h

/-- Settling changes nothing beside the picture, the ports and the cadence. -/
theorem essence_settle_upto (x : State) (l : Selector) (g : Geo) (p : List PortSample) :
    essence { settle x with sel := l, geo := g, ports := p } = essence { x with sel := l, geo := g, ports := p } := by
  refine essence_ext ?_ ?_ ?_ ?_ ?_ ?_ ?_ ?_ ?_ rfl rfl ?_ ?_ (settle_lamp_bare x) (settle_mode_bare x) (settle_heat_bare x)
    (settle_sched_bare x) (syncScan_sel_congr rfl ?_ ?_ ?_ ?_) <;> simp

theorem essence_settle_cadence (x : State) (g : Geo) (n : Nat) :
    essence { settle x with geo := g, cadenceDone := n } = essence { x with geo := g, cadenceDone := n } := by
  refine essence_ext ?_ ?_ ?_ ?_ rfl ?_ ?_ ?_ ?_ ?_ rfl ?_ ?_ (settle_lamp_bare x) (settle_mode_bare x) (settle_heat_bare x)
    (settle_sched_bare x) ?_ <;> try simp
  refine (syncScan_sel_again ?_ ?_ ?_ ?_ ?_).trans (syncScan_sel_congr (s := { x with geo := g, cadenceDone := n }) (t := x)
    rfl rfl rfl rfl rfl) <;> simp [settle_sel]

theorem sameBesidePicture_settle {s x : State} (h : sameBesidePicture s x) : sameBesidePicture s (settle x) :=
  (essence_settle_upto x s.sel s.geo (settle x).ports).trans (by rw [settle_ports]; exact h)

theorem sameBesidePicture_of_blocks {s x : State} (h1 : x.pending = s.pending := by simp) (h2 : x.uptime = s.uptime := by simp)
    (h3 : x.choices = s.choices := by simp) (h4 : x.secondsDone = s.secondsDone := by simp)
    (h5 : x.cadenceDone = s.cadenceDone := by simp) (h6 : x.pins = s.pins := by simp) (h7 : x.work = s.work := by simp)
    (h8 : x.store = s.store := by simp) (h9 : x.wear = s.wear := by simp) (h10 : x.ports = s.ports := by simp)
    (h12 : x.lock = s.lock := by simp) (h13 : x.comms = s.comms := by simp) (h14 : x.lamp = s.lamp := by simp)
    (h15 : x.mode = s.mode := by simp) (h16 : x.heat = s.heat := by simp) (h17 : x.sched = s.sched := by simp) :
    sameBesidePicture s x :=
  essence_ext h1 h2 h3 h4 h5 h6 h7 h8 h9 h10 rfl h12 h13 (by rw [h14]) (by rw [h15]) (by rw [h16]) (by rw [h17])
    (syncScan_sel_congr rfl h2 (by rw [h7]) (by rw [h7]) (by rw [h17]))

/-! ## Computations -/

theorem profileOf_congr {s t : State} (hw : t.work = s.work) (n : Option Nat) : profileOf t n = profileOf s n := by
  have h : profileAt t = profileAt s := funext fun k => by rw [profileAt, profileAt, hw]
  rw [profileOf, profileOf, h]

theorem settleTilt_congr {s t : State} (hg : t.geo = s.geo) (ha : t.sel.active = s.sel.active) (hw : t.work = s.work) :
    settleTilt t = settleTilt s := by
  unfold settleTilt autoTiltOn tiltImmediate candidate
  rw [ha, profileOf_congr hw, hg, hw]

theorem totals_geo_congr {s t : State} (hg : t.geo = s.geo) (ha : t.sel.active = s.sel.active) (hw : t.work = s.work) :
    (totals t).geo = (totals s).geo := by
  have hp := profileOf_congr hw s.sel.active
  unfold totals vSum hSum trims aspectInUse
  rw [ha, hp, hg, hw]

theorem handOver_nextEvent (s : State) : handOver (nextEvent s) = nextEvent (handOver s) := by
  unfold handOver
  rw [nextEvent_geo]
  split
  · dsimp only
    split <;> rfl
  · rfl

theorem computation_nextEvent (s : State) : computation (nextEvent s) = nextEvent (computation s) :=
  handOver_nextEvent (totals { s with geo := settleTilt s })

theorem handOver_geo_congr {s t : State} (hg : t.geo = s.geo) (hu : t.uptime = s.uptime) : (handOver t).geo = (handOver s).geo := by
  cases hf : s.geo.inFlight with
  | none =>
    rw [Keystone.handOver_of_idle hf, Keystone.handOver_of_idle (hg ▸ hf), hg]
    split <;> simp [hu]
  | some x => rw [Keystone.handOver_of_inFlight hf, Keystone.handOver_of_inFlight (hg ▸ hf), hg]

/-- What the Geometry Engine holds after a computation depends on the engine itself, the records, the active profile and the uptime. -/
theorem computation_geo_congr {s t : State} (hg : t.geo = s.geo) (ha : t.sel.active = s.sel.active) (hw : t.work = s.work)
    (hu : t.uptime = s.uptime) : (computation t).geo = (computation s).geo :=
  handOver_geo_congr (totals_geo_congr (settleTilt_congr hg ha hw) ha hw) hu

theorem handOver_nudges (s : State) : (handOver s).geo.vAdj = s.geo.vAdj ∧ (handOver s).geo.hAdj = s.geo.hAdj := by
  rw [Keystone.handOver_geo]
  exact ⟨rfl, rfl⟩

theorem settleTilt_nudges (s : State) : (settleTilt s).vAdj = s.geo.vAdj ∧ (settleTilt s).hAdj = s.geo.hAdj := by
  unfold settleTilt
  split
  · exact ⟨rfl, rfl⟩
  · split
    · unfold tiltImmediate
      split <;> exact ⟨rfl, rfl⟩
    · exact ⟨rfl, rfl⟩

/-- A computation keeps the nudges (R109). -/
theorem computation_nudges (s : State) : (computation s).geo.vAdj = s.geo.vAdj ∧ (computation s).geo.hAdj = s.geo.hAdj := by
  have h := handOver_nudges (totals { s with geo := settleTilt s })
  exact ⟨h.1.trans (settleTilt_nudges s).1, h.2.trans (settleTilt_nudges s).2⟩

/-- The geometry that follows a profile change leaves no nudge (R87, R114). -/
theorem profileChange_geo (s : State) : (profileChange s).geo = (computation (setImmediate (clearNudges s))).geo := rfl

/-! ## The active profile -/

theorem putActive_sel (n : Option Nat) (s : State) : (putActive n s).sel = { s.sel with active := n } := by
  unfold putActive
  split
  · subst_vars
    rfl
  · simp

theorem putActiveAnew_sel (n : Option Nat) (s : State) : (putActiveAnew n s).sel = { s.sel with active := n } := by
  unfold putActiveAnew
  split
  · subst_vars
    simp
  · exact putActive_sel n s

section ActiveProfile

variable {n : Option Nat} {s y : State} {l : Selector}

/-- A changed active profile gives the geometry of a profile change, and an unchanged one leaves it (R87). -/
theorem putActive_geo (hg : y.geo = s.geo) (hact : y.sel.active = s.sel.active) (hw : y.work = s.work) (hu : y.uptime = s.uptime)
    (hl : l.active = n) :
    (l.active = s.sel.active → (putActive n y).geo = s.geo) ∧
      (l.active ≠ s.sel.active → (putActive n y).geo = (computation (setImmediate (clearNudges { s with sel := l }))).geo ∧
        (putActive n y).geo.vAdj = 0 ∧ (putActive n y).geo.hAdj = 0) := by
  subst hl
  refine ⟨fun h => by rw [putActive, if_pos (h.trans hact.symm), hg], fun h => ?_⟩
  have heq : (putActive l.active y).geo = (computation (setImmediate (clearNudges { s with sel := l }))).geo := by
    rw [putActive, if_neg (hact ▸ h)]
    exact computation_geo_congr (by simp [hg]) rfl hw hu
  refine ⟨heq, ?_⟩
  rw [heq]
  exact computation_nudges _

/-- At a lock or a class change an unchanged profile is computed anew with the nudges kept (R90, R94). -/
theorem putActiveAnew_geo (hg : y.geo = s.geo) (hact : y.sel.active = s.sel.active) (hw : y.work = s.work) (hu : y.uptime = s.uptime)
    (hl : l.active = n) :
    (l.active = s.sel.active → (putActiveAnew n y).geo = (computation { s with sel := l }).geo ∧
        (putActiveAnew n y).geo.vAdj = s.geo.vAdj ∧ (putActiveAnew n y).geo.hAdj = s.geo.hAdj) ∧
      (l.active ≠ s.sel.active → (putActiveAnew n y).geo = (computation (setImmediate (clearNudges { s with sel := l }))).geo ∧
        (putActiveAnew n y).geo.vAdj = 0 ∧ (putActiveAnew n y).geo.hAdj = 0) := by
  refine ⟨fun h => ?_, fun h => ?_⟩
  · rw [putActiveAnew, if_pos (hl ▸ hact ▸ h), ← hg]
    exact ⟨computation_geo_congr rfl (hact.trans h.symm) hw hu, computation_nudges y⟩
  · rw [putActiveAnew, if_neg (hl ▸ hact ▸ h)]
    exact (putActive_geo hg hact hw hu hl).2 h

end ActiveProfile

theorem judgeLoss_sel (n : Option Nat) (s : State) :
    (judgeLoss n s).sel = { s.sel with lossB := lossOf s n, muteLoss := lossOf s n == .blank } := rfl

theorem lossOf_none {s : State} {n : Option Nat} (h : profileOf s n = none) : lossOf s n = .blank := by rw [lossOf, h]

theorem lossOf_some {s : State} {n : Option Nat} {p : Profile} (h : profileOf s n = some p) : lossOf s n = p.loss := by rw [lossOf, h]

theorem lossOf_congr {s t : State} (hw : t.work = s.work) (n : Option Nat) : lossOf t n = lossOf s n := by
  rw [lossOf, lossOf, profileOf_congr hw]

theorem lookup_congr {s t : State} (hw : t.work = s.work) (p : VPort) (c : Nat) : lookup t p c = lookup s p c := by simp only [lookup, hw]

theorem resolved_congr {s t : State} (hw : t.work = s.work) (p : VPort) (c : Nat) (n : Option Nat) :
    resolved t p c n = resolved s p c n := by
  rw [resolved, resolved, profileOf_congr hw, lookup_congr hw]

/-! ## A switch (O34) -/

theorem switchLocks_eq {s : State} {r : SwitchReq} (h : s.sel.req = some r) :
    switchLocks s = sourceNotice (putActiveAnew (resolved s r.port s.sel.lockRun.cls r.named)
      (enterSettled r.port s.sel.lockRun.cls r.named s)) := by
  rw [switchLocks, h]

/-- The state in which a switch that has timed out is in NoSignal on its target port, with its profile not yet judged (R91). -/
def timedOut (r : SwitchReq) (s : State) : State :=
  enterNoSignal none (modSel (fun x => { x with port := r.port, named := r.named, req := none }) s)

theorem switchTimesOut_eq {s : State} {r : SwitchReq} (h : s.sel.req = some r) :
    switchTimesOut s = sourceNotice (judgeLoss (lookup s r.port 0) (putActive (lookup s r.port 0) (timedOut r s))) := by
  rw [switchTimesOut, h]
  rfl

/-- Settles O34. -/
theorem switchEnds : Obligations.SwitchEnds := by
  intro s r hst hr
  refine ⟨fun hrun => ?_, fun hq hup => ?_⟩
  · refine ⟨_, congrArg Host.Outcome.next (ifDue_of_due (due := switchLockDue) (by simp [switchLockDue, hst, hr, hrun])), ?_⟩
    rw [happen, switchLocks_eq (r := r) (s := nextEvent s) hr, resolved_congr (nextEvent_work s), nextEvent_sel]
    generalize hn : resolved s r.port s.sel.lockRun.cls r.named = n
    generalize hx : putActiveAnew n (enterSettled r.port s.sel.lockRun.cls r.named (nextEvent s)) = x
    have hsel : (settle (sourceNotice x)).sel = { (enterSettled r.port s.sel.lockRun.cls r.named (nextEvent s)).sel with active := n } := by
      subst hx
      rw [settle_sel_of_ne] <;> rw [sourceNotice_sel, putActiveAnew_sel]
      simp [enterSettled]
    have hgeo : (settle (sourceNotice x)).geo = x.geo := by simp
    have hactive : (settle (sourceNotice x)).sel.active = n := by rw [hsel]
    rw [hgeo]
    subst hx
    obtain ⟨hsame, hother⟩ := putActiveAnew_geo (s := s) (y := enterSettled r.port s.sel.lockRun.cls r.named (nextEvent s))
      rfl rfl rfl rfl hactive
    exact ⟨hsel, hsame, hother, sameBesidePicture_settle sameBesidePicture_of_blocks⟩
  · have hd : switchTimeoutDue s = true := by simp [switchTimeoutDue, hst, hr, reached, switchTime, second, hup]
    refine ⟨_, onTime_of_due hq hd, ?_⟩
    rw [switchTimesOut_eq (r := r) (s := nextEvent s) hr, lookup_congr (nextEvent_work s)]
    generalize hn : lookup s r.port 0 = n
    generalize hx : putActive n (timedOut r (nextEvent s)) = x
    have hwork : x.work = s.work := by subst hx; simp [timedOut]
    have hxsel : x.sel = { (timedOut r (nextEvent s)).sel with active := n } := by subst hx; exact putActive_sel ..
    have hsel : (settle (sourceNotice (judgeLoss n x))).sel =
        { (timedOut r (nextEvent s)).sel with active := n, lossB := lossOf s n, muteLoss := lossOf s n == .blank } := by
      rw [settle_sel_of_ne] <;> rw [sourceNotice_sel, judgeLoss_sel, hxsel]
      · rw [lossOf_congr hwork]
      · simp [timedOut, enterNoSignal]
    have hgeo : (settle (sourceNotice (judgeLoss n x))).geo = x.geo := by simp
    have hactive : (settle (sourceNotice (judgeLoss n x))).sel.active = n := by rw [hsel]
    rw [hgeo]
    subst hx
    obtain ⟨hsame, hother⟩ := putActive_geo (s := s) (y := timedOut r (nextEvent s)) rfl rfl rfl rfl hactive
    refine ⟨by rw [hsel]; rfl, by simp [hsel], fun h => ?_, fun p hp => ?_, hsame, hother, sameBesidePicture_settle ?_⟩
    · rw [hsel]
      exact lossOf_none (by rw [h]; rfl)
    · rw [hsel]
      exact lossOf_some hp
    · unfold timedOut
      exact sameBesidePicture_of_blocks

/-! ## The settled source (O35) -/

theorem signalLost_beside (s : State) : sameBesidePicture s (signalLost s) := by
  unfold signalLost
  exact sameBesidePicture_of_blocks

/-- The state in which a changed class of the settled port has become the settled class, with the profile not yet judged (R94). -/
def reclassed (c : Nat) (s : State) : State := modSel (fun x => { x with settledCls := some c, classRun := .zero }) s

/-- The notice of a class change, sent where the active profile changes too (R94). -/
def noticeWhere (p : Prop) [Decidable p] (s : State) : State := if p then s else sourceNotice s

theorem noticeWhere_rest (p : Prop) [Decidable p] (s : State) : ∃ q, noticeWhere p s = { s with notices := q } := by
  unfold noticeWhere
  split
  · exact ⟨s.notices, rfl⟩
  · exact ⟨_, rfl⟩

theorem classChanged_eq (s : State) :
    classChanged s = startClassTimer (noticeWhere (resolved s s.sel.port s.sel.classRun.cls s.sel.named = s.sel.active)
      (putActiveAnew (resolved s s.sel.port s.sel.classRun.cls s.sel.named) (reclassed s.sel.classRun.cls s))) := rfl

/-- The class-change timer that a lock in NoSignal leaves (R95). -/
def timerAtLock (before : Option Nat) (c : Nat) (s : State) : State :=
  match before with
  | some b => if b = c then s else startClassTimer s
  | none => s

theorem timerAtLock_eq (before : Option Nat) (c : Nat) (s : State) :
    timerAtLock before c s = modSel (fun x => { x with
      classTimer := if before = none ∨ before = some c then x.classTimer else some s.uptime }) s := by
  unfold timerAtLock
  cases before with
  | none => simp [modSel]
  | some b =>
    by_cases h : b = c
    · simp [h, modSel]
    · simp [h, startClassTimer]

theorem noSignalLocks_eq (s : State) :
    noSignalLocks s = sourceNotice (timerAtLock s.sel.beforeLoss s.sel.lockRun.cls
      (putActive (resolved s s.sel.port s.sel.lockRun.cls s.sel.named)
        (enterSettled s.sel.port s.sel.lockRun.cls s.sel.named s))) := rfl

/-- Settles O35: each event puts the selector at its new value first, and the active profile then makes its computation. -/
theorem settledSourceFollowed : Obligations.SettledSourceFollowed := by
  intro s
  refine ⟨fun hst hrun => ?_, fun hst hrun => ?_, fun u hq hu hup => ?_, fun hst hrun => ?_⟩
  · refine ⟨_, congrArg Host.Outcome.next (ifDue_of_due (due := lossDue) (by simp [lossDue, hst, hrun])), ?_⟩
    rw [happen]
    have hsel : (settle (signalLost (nextEvent s))).sel = { (enterNoSignal s.sel.settledCls s).sel with
        lossB := lossOf s s.sel.active, muteLoss := lossOf s s.sel.active == .blank } :=
      settle_sel_of_ne (by simp [signalLost, judgeLoss, enterNoSignal])
    refine ⟨by rw [hsel]; rfl, by simp [hsel], fun h => ?_, fun p hp => ?_, by simp [signalLost],
      sameBesidePicture_settle (signalLost_beside (nextEvent s) |>.trans (essence_nextEvent s))⟩
    · rw [hsel]
      exact lossOf_none (by rw [h]; rfl)
    · rw [hsel]
      exact lossOf_some hp
  · refine ⟨_, congrArg Host.Outcome.next (ifDue_of_due (due := classDue) (by simp [classDue, hst, hrun])), ?_⟩
    rw [happen, classChanged_eq, nextEvent_sel, resolved_congr (nextEvent_work s)]
    generalize hn : resolved s s.sel.port s.sel.classRun.cls s.sel.named = n
    generalize hx : putActiveAnew n (reclassed s.sel.classRun.cls (nextEvent s)) = x
    obtain ⟨q, hnotice⟩ := noticeWhere_rest (n = s.sel.active) x
    rw [hnotice]
    have hxsel : x.sel = { (reclassed s.sel.classRun.cls s).sel with active := n } := by subst hx; exact putActiveAnew_sel ..
    have hup : x.uptime = s.uptime := by subst hx; simp [reclassed]
    have hsel : (settle (startClassTimer { x with notices := q })).sel = { x.sel with classTimer := some s.uptime } := by
      rw [← hup]
      exact settle_sel_of_ne (by simp [startClassTimer, hxsel, reclassed, hst])
    have hactive : (settle (startClassTimer { x with notices := q })).sel.active = n := by rw [hsel, hxsel]
    have hgeo : (settle (startClassTimer { x with notices := q })).geo = x.geo := by simp [startClassTimer]
    refine ⟨by rw [hsel, hxsel]; rfl, ?_⟩
    rw [hgeo]
    subst hx
    obtain ⟨hsame, hother⟩ := putActiveAnew_geo (s := s) (y := reclassed s.sel.classRun.cls (nextEvent s)) rfl rfl rfl rfl hactive
    refine ⟨hsame, hother, sameBesidePicture_settle ?_⟩
    unfold reclassed startClassTimer
    exact sameBesidePicture_of_blocks
  · exact goesTo_time hq (by simp [classTimerDue, hu, reached, classTime, second, hup]) rfl
      (essence_congr rfl rfl rfl rfl rfl)
  · refine ⟨_, congrArg Host.Outcome.next (ifDue_of_due (due := noSignalLockDue) (by simp [noSignalLockDue, hst, hrun])), ?_⟩
    rw [happen, noSignalLocks_eq, nextEvent_sel, resolved_congr (nextEvent_work s), timerAtLock_eq]
    generalize hn : resolved s s.sel.port s.sel.lockRun.cls s.sel.named = n
    generalize hx : putActive n (enterSettled s.sel.port s.sel.lockRun.cls s.sel.named (nextEvent s)) = x
    have hxsel : x.sel = { (enterSettled s.sel.port s.sel.lockRun.cls s.sel.named s).sel with active := n } := by
      subst hx; exact putActive_sel ..
    have hup : x.uptime = s.uptime := by subst hx; simp
    rw [hup]
    generalize hf : (fun y : Selector => ({ y with
      classTimer := if s.sel.beforeLoss = none ∨ s.sel.beforeLoss = some s.sel.lockRun.cls then y.classTimer else some s.uptime } :
        Selector)) = f
    have hsel : (settle (sourceNotice (modSel f x))).sel = f x.sel :=
      settle_sel_of_ne (by subst hf; simp [hxsel, enterSettled])
    have hactive : (settle (sourceNotice (modSel f x))).sel.active = n := by rw [hsel, ← hf, hxsel]
    have hgeo : (settle (sourceNotice (modSel f x))).geo = x.geo := by simp
    refine ⟨by rw [hsel, ← hf, hxsel]; rfl, ?_⟩
    rw [hgeo]
    subst hx
    obtain ⟨hsame, hother⟩ := putActive_geo (s := s) (y := enterSettled s.sel.port s.sel.lockRun.cls s.sel.named (nextEvent s))
      rfl rfl rfl rfl hactive
    exact ⟨hsame, hother, sameBesidePicture_settle sameBesidePicture_of_blocks⟩

/-! ## Scans (O36) -/

theorem nextDwellPort_nil (p : VPort) : nextDwellPort [] p = none := rfl

theorem dwellLocks_eq (s : State) :
    dwellLocks s = sourceNotice (putActive (lookup s s.sel.scanPort s.sel.lockRun.cls)
      (enterSettled s.sel.scanPort s.sel.lockRun.cls none s)) := rfl

/-- Settles O36. -/
theorem scansRun : Obligations.ScansRun := by
  intro s
  refine ⟨fun p hq hst hup hauto hexam hp => ?_, fun hst hrun => ?_, fun hq hst hup => ⟨fun p hp => ?_, fun hnil => ?_⟩⟩
  · have hlist : (scanList s).isEmpty = false := by cases h : scanList s <;> simp_all
    refine goesTo_time hq (by simp [scanReady, hst, scanWait, second, hup, hauto, hexam, hlist]) rfl ?_
    have hp' : (scanList (nextEvent s)).head? = some p := hp
    simp only [scanBegins, hp']
    exact essence_congr rfl rfl rfl rfl rfl
  · refine ⟨_, congrArg Host.Outcome.next (ifDue_of_due (due := dwellLockDue) (by simp [dwellLockDue, hst, hrun])), ?_⟩
    rw [happen, dwellLocks_eq, nextEvent_sel, lookup_congr (nextEvent_work s)]
    generalize hn : lookup s s.sel.scanPort s.sel.lockRun.cls = n
    generalize hx : putActive n (enterSettled s.sel.scanPort s.sel.lockRun.cls none (nextEvent s)) = x
    have hxsel : x.sel = { (enterSettled s.sel.scanPort s.sel.lockRun.cls none s).sel with active := n } := by
      subst hx; exact putActive_sel ..
    have hsel : (settle (sourceNotice x)).sel = x.sel := settle_sel_of_ne (by simp [hxsel, enterSettled])
    have hactive : (settle (sourceNotice x)).sel.active = n := by rw [hsel, hxsel]
    have hgeo : (settle (sourceNotice x)).geo = x.geo := by simp
    refine ⟨by rw [hsel, hxsel]; rfl, ?_⟩
    rw [hgeo]
    subst hx
    obtain ⟨hsame, hother⟩ := putActive_geo (s := s) (y := enterSettled s.sel.scanPort s.sel.lockRun.cls none (nextEvent s))
      rfl rfl rfl rfl hactive
    exact ⟨hsame, fun h => (hother h).2, sameBesidePicture_settle sameBesidePicture_of_blocks⟩
  · refine goesTo_time hq (by simp [dwellEndDue, hst, dwellTime, second, hup]) rfl ?_
    have hp' : nextDwellPort (scanList (nextEvent s)) (nextEvent s).sel.scanPort = some p := hp
    simp only [dwellEnds, hp']
    exact essence_congr rfl rfl rfl rfl rfl
  · refine goesTo_time hq (by simp [dwellEndDue, hst, dwellTime, second, hup]) rfl ?_
    have hn : scanList (nextEvent s) = [] := hnil
    simp only [dwellEnds, hn, nextDwellPort_nil]
    exact essence_congr rfl rfl rfl rfl rfl

/-! ## Samples of the ports (O30) -/

theorem samplePorts_length (ps : List PortSample) (l : List PortReading) : (samplePorts ps l).length = ps.length := by
  induction ps generalizing l with
  | nil => cases l <;> rfl
  | cons p ps ih => cases l <;> simp [samplePorts, ih]

theorem samplePorts_get {ps : List PortSample} {l : List PortReading} {k : Nat} {p : PortSample} {r : PortReading}
    (hp : ps[k]? = some p) (hr : l[k]? = some r) : (samplePorts ps l)[k]? = some (sampleOf p r) := by
  induction ps generalizing l k with
  | nil => simp at hp
  | cons q ps ih =>
    cases l with
    | nil => simp at hr
    | cons x l =>
      cases k with
      | zero => simp_all [samplePorts]
      | succ k => simpa [samplePorts] using ih (by simpa using hp) (by simpa using hr)

theorem judgeSample_rest (s : State) : ∃ l, judgeSample s = { s with sel := l } ∧ l.st = s.sel.st := by
  unfold judgeSample
  dsimp only
  split <;> exact ⟨_, rfl, rfl⟩

theorem judgeSample_settled {s : State} {p : PortSample} (hst : s.sel.st = .settled) (hp : portNow s (selectedLine s) = p) :
    (judgeSample s).sel = { s.sel with
      lossRun := if p.absent then satAdd 5 s.sel.lossRun 1 else 0
      classRun := s.sel.classRun.judgeChange s.sel.settledCls p } := by
  subst hp
  unfold judgeSample
  rw [hst]
  rfl

theorem judgeSample_locking {s : State} {p : PortSample} (hst : s.sel.st ≠ .settled) (hp : portNow s (selectedLine s) = p) :
    (judgeSample s).sel = { s.sel with lockRun := s.sel.lockRun.judge p } := by
  subst hp
  cases h : s.sel.st <;> first | exact absurd h hst | (unfold judgeSample; rw [h]; rfl)

theorem absent_iff (p : PortSample) : p.absent = true ↔ p.present = some false := by simp [PortSample.absent]

theorem lockable_iff (p : PortSample) : p.lockable = true ↔ p.present = some true ∧ p.cls ≠ 0 := by simp [PortSample.lockable]

theorem judge_eq (r : Run) (p : PortSample) : r.judge p =
    if p.present = some true ∧ p.cls ≠ 0 then
      (if r.count ≠ 0 ∧ r.cls = p.cls then ⟨p.cls, min 2 (r.count + 1)⟩ else ⟨p.cls, 1⟩)
    else ⟨0, 0⟩ := by
  simp only [Run.judge, lockable_iff]
  rfl

theorem judgeChange_eq (r : Run) (settled : Option Nat) (p : PortSample) : r.judgeChange settled p =
    if p.present = some true ∧ p.cls ≠ 0 then
      (if settled = some p.cls then ⟨0, 0⟩
       else if r.count ≠ 0 ∧ r.cls = p.cls then ⟨p.cls, min 2 (r.count + 1)⟩ else ⟨p.cls, 1⟩)
    else r := by
  simp only [Run.judgeChange, lockable_iff]
  rfl

theorem lossRun_eq (n : Nat) (p : PortSample) :
    (if p.absent = true then satAdd 5 n 1 else 0) = if p.present = some false then min 5 (n + 1) else 0 := by
  simp only [absent_iff, satAdd]

theorem sampleOf_eq (p : PortSample) (r : PortReading) : sampleOf p r =
    { present := some r.present, cls := if r.present then r.cls else 0, prev := if p.present = none then none else some p.cls } := by
  unfold sampleOf
  cases p.present <;> rfl

/-- Settles O30: the sample is taken first, and the selector then judges the port that its state names. -/
theorem portsSampled : Obligations.PortsSampled := by
  intro s l hq hports hl
  refine ⟨_, act_of_quiescent hq, ?_⟩
  unfold samplesTaken
  generalize hy : ({ nextEvent s with ports := samplePorts (nextEvent s).ports l } : State) = y
  have hyports : y.ports = samplePorts s.ports l := by subst hy; rfl
  have hysel : y.sel = s.sel := by subst hy; rfl
  have hywork : y.work = s.work := by subst hy; rfl
  have hyexam : examRunning y = examRunning s := by subst hy; rfl
  obtain ⟨z, hz, hzst⟩ := judgeSample_rest y
  have htports : (settle (judgeSample y)).ports = samplePorts s.ports l := by rw [hz, settle_ports, ← hyports]
  have hnow (k : VPort) (p : PortSample) (h : (settle (judgeSample y)).ports[k.idx]? = some p) : portNow y k = p := by
    rw [htports, ← hyports] at h
    simp [portNow, List.getD, h]
  have hsettled (h : s.sel.st = .settled) : selectedLine y = s.sel.port := by simp [selectedLine, hysel, h]
  refine ⟨by rw [htports, samplePorts_length, hports], fun k p r hp hr => ?_, fun p hp hst => ?_, fun p hp hst => ?_, ?_⟩
  · rw [htports, samplePorts_get hp hr, sampleOf_eq]
  · have hj := judgeSample_settled (s := y) (hysel ▸ hst) (hnow _ p (by rw [hsettled hst]; exact hp))
    rw [settle_sel_of_ne, hj, hysel, lossRun_eq, judgeChange_eq]
    rw [hz, hzst, hysel, hst]
    decide
  · have hline : selectedLine y = selectedLine s := by simp only [selectedLine, hysel]
    have hne : y.sel.st ≠ .settled := by
      rw [hysel]
      rintro h
      simp [h] at hst
    have hj := judgeSample_locking hne (hnow _ p (by rw [hline]; exact hp))
    rw [settle_sel_still, hj, hysel, judge_eq]
    intro hscan
    rw [hz, hzst, hysel] at hscan
    have hexam : examRunning (judgeSample y) = examRunning s := by rw [hz, ← hyexam]; rfl
    rw [hexam, hz]
    simpa [hscan, hywork] using hst
  · have h := essence_settle_upto (judgeSample y) s.sel (settle (judgeSample y)).geo s.ports
    refine h.trans ?_
    rw [hz, settle_geo]
    subst hy
    exact essence_congr rfl rfl rfl rfl rfl

/-! ## The tilt sensor and the stabiliser (O38, O39) -/

theorem validTilt_of_in {x : Int} (h1 : -450 ≤ x) (h2 : x ≤ 450) : validTilt (some x) = some x := if_pos ⟨h1, h2⟩

theorem validTilt_of_out {r : Option Int} (h : ∀ x, r = some x → x < -450 ∨ 450 < x) : validTilt r = none := by
  cases r with
  | none => rfl
  | some x =>
    refine if_neg fun hx => ?_
    have := h x rfl
    omega

/-- Settles O38: the ring drops its oldest entry, whether or not it was empty. -/
theorem tiltReadsJoinRing : Obligations.TiltReadsJoinRing := by
  intro s
  refine ⟨fun x hq h1 h2 => goesTo_act hq rfl ?_, fun r hq h => goesTo_act hq rfl ?_, fun hrun hoff => goesTo_follow ?_ rfl ?_⟩
  · rw [tiltReads, validTilt_of_in h1 h2]
    exact essence_congr rfl rfl rfl rfl (by cases hr : s.geo.ring <;> simp [hr])
  · rw [tiltReads, validTilt_of_out h]
    exact essence_congr rfl rfl rfl rfl (by cases hr : s.geo.ring <;> simp [hr, satAdd])
  · simp [tiltInvalidDue, hrun, hoff]
  · exact essence_congr rfl rfl rfl rfl rfl

theorem ringSum_of_invalid {w x y z : Option Int} (h : w = none ∨ x = none ∨ y = none ∨ z = none) : ringSum [w, x, y, z] = none := by
  cases w <;> cases x <;> cases y <;> cases z <;> simp_all [ringSum]

theorem ringSum_of_valid (a b c d : Int) : ringSum [some a, some b, some c, some d] = some (a + b + c + d) := by
  simp [ringSum, add_assoc]

/-- The rounding of R106: the nearest whole number, a half away from zero. -/
theorem roundTilt_spec (t : Int) :
    -30 ≤ 2 * (t - 30 * roundTilt t) ∧ 2 * (t - 30 * roundTilt t) ≤ 30 ∧
      (2 * (t - 30 * roundTilt t) = 30 → t < 0) ∧ (2 * (t - 30 * roundTilt t) = -30 → 0 < t) := by
  unfold roundTilt
  dsimp only
  split <;> omega

/-- The cadence computation beside its totals: only the stabiliser's fields move (R107). -/
theorem cadence_geo (s : State) :
    (cadence s).cadenceDone = s.cadenceDone + 1 ∧ (cadence s).geo.applied = (cadenceTilt s).applied ∧
      (cadence s).geo.cand = (cadenceTilt s).cand ∧ (cadence s).geo.agree = (cadenceTilt s).agree ∧
      (cadence s).geo.imm = (cadenceTilt s).imm ∧ (cadence s).geo.vAdj = (cadenceTilt s).vAdj ∧
      (cadence s).geo.hAdj = (cadenceTilt s).hAdj := by
  unfold cadence
  dsimp only
  split
  · exact ⟨rfl, rfl, rfl, rfl, rfl, rfl, rfl⟩
  · rw [Keystone.handOver_geo]
    simp [totals]

theorem cadence_rest (s : State) : ∃ g n, cadence s = { s with geo := g, cadenceDone := n } := by
  unfold cadence
  dsimp only
  split
  · exact ⟨_, _, rfl⟩
  · unfold handOver
    split
    · split <;> exact ⟨_, _, rfl⟩
    · exact ⟨_, _, rfl⟩

theorem cadenceTilt_nudges (s : State) : (cadenceTilt s).vAdj = s.geo.vAdj ∧ (cadenceTilt s).hAdj = s.geo.hAdj := by
  unfold cadenceTilt tiltImmediate stabilise
  split
  · exact ⟨rfl, rfl⟩
  · split
    · split <;> exact ⟨rfl, rfl⟩
    · split
      · exact ⟨rfl, rfl⟩
      · split
        · exact ⟨rfl, rfl⟩
        · split <;> exact ⟨rfl, rfl⟩

theorem cadenceTilt_off {s : State} (h : autoTiltOn s = false) : cadenceTilt s = tiltOff s.geo := if_pos (by rw [h]; rfl)

theorem cadenceTilt_immediate {s : State} (h : autoTiltOn s = true) (hi : s.geo.imm = true) : cadenceTilt s = tiltImmediate s := by
  rw [cadenceTilt, if_neg (by simp [h]), if_pos hi]

theorem cadenceTilt_steady {s : State} (h : autoTiltOn s = true) (hi : s.geo.imm = false) : cadenceTilt s = stabilise s := by
  rw [cadenceTilt, if_neg (by simp [h]), if_neg (by simp [hi])]

theorem stabilise_skipped {s : State} (h : candidate s = none ∨ candidate s = some s.geo.applied) :
    stabilise s = { s.geo with cand := none, agree := 0 } := by
  rcases h with h | h <;> simp [stabilise, h]

theorem stabilise_other {s : State} {x : Int} (h : candidate s = some x) (hx : x ≠ s.geo.applied) :
    stabilise s = { s.geo with cand := some x, agree := if s.geo.cand = some x then min 3 (s.geo.agree + 1) else 1 } := by
  by_cases hc : s.geo.cand = some x
  · simp [stabilise, h, hx, hc, satAdd]
  · simp [stabilise, h, hx, hc]

theorem stabilise_applied (s : State) : (stabilise s).applied = s.geo.applied := by
  unfold stabilise
  split
  · rfl
  · split
    · rfl
    · split <;> rfl

theorem confirmTilt_eq {s : State} {x : Int} (h : s.geo.cand = some x) :
    confirmTilt s = handOver (totals { s with geo := { s.geo with applied := x, cand := none, agree := 0 } }) := by
  rw [confirmTilt, h]

/-- Settles O39. -/
theorem cadenceStabilises : Obligations.CadenceStabilises := by
  intro s
  refine ⟨fun w x y z hring => ⟨fun h => ?_, fun a b c d hw hx hy hz => ?_⟩, fun hq hup => ?_, fun x hagree hcand => ?_⟩
  · rw [candidate, hring, ringSum_of_invalid h]
    rfl
  · subst hw hx hy hz
    rw [candidate, hring, ringSum_of_valid]
    exact ⟨_, rfl, roundTilt_spec _⟩
  · refine ⟨_, onTime_of_due hq (decide_eq_true hup), ?_⟩
    obtain ⟨hdone, happlied, hcand, hagree, himm, hv, hh⟩ := cadence_geo (nextEvent s)
    obtain ⟨g, n, hrest⟩ := cadence_rest (nextEvent s)
    have hnudges := cadenceTilt_nudges (nextEvent s)
    rw [settle_geo, settle_cadenceDone, happlied, hcand, hagree, himm, hv, hh]
    refine ⟨hdone, fun h => ?_, fun h hi => ⟨fun hc => ?_, fun x hc => ?_⟩, fun h hi => ⟨?_, fun hc => ?_, fun x hc hx => ?_⟩,
      hnudges.1, hnudges.2, ?_⟩
    · rw [cadenceTilt_off (s := nextEvent s) h]
      exact ⟨rfl, rfl, rfl, rfl⟩
    · have hc' : candidate (nextEvent s) = none := hc
      rw [cadenceTilt_immediate (s := nextEvent s) h hi, tiltImmediate, hc']
      exact ⟨rfl, hi⟩
    · have hc' : candidate (nextEvent s) = some x := hc
      rw [cadenceTilt_immediate (s := nextEvent s) h hi, tiltImmediate, hc']
      exact ⟨rfl, rfl⟩
    · rw [cadenceTilt_steady (s := nextEvent s) h hi, stabilise_applied]
      rfl
    · rw [cadenceTilt_steady (s := nextEvent s) h hi, stabilise_skipped (s := nextEvent s) hc]
      exact ⟨rfl, rfl⟩
    · rw [cadenceTilt_steady (s := nextEvent s) h hi, stabilise_other (s := nextEvent s) hc hx]
      exact ⟨rfl, rfl⟩
    · refine (essence_settle_cadence (cadence (nextEvent s)) s.geo s.cadenceDone).trans ?_
      rw [hrest]
      exact essence_congr rfl rfl rfl rfl rfl
  · refine goesTo_follow (due := confirmDue) (by simp [confirmDue, hagree, hcand]) rfl ?_
    have hcand' : (nextEvent s).geo.cand = some x := hcand
    rw [confirmTilt_eq hcand']
    exact (congrArg essence (handOver_nextEvent
      (totals { s with geo := { s.geo with applied := x, cand := none, agree := 0 } }))).trans (essence_nextEvent _)

/-! ## The warp link (O41) -/

/-- Settles O41. -/
theorem warpLinkAnswers : Obligations.WarpLinkAnswers := by
  intro s hq
  refine ⟨fun h => goesTo_act hq rfl ?_, fun c u h => ⟨goesTo_act hq rfl ?_, fun hup => goesTo_time hq ?_ rfl ?_⟩⟩
  · have h' : (nextEvent s).geo.inFlight = none := h
    rw [warpAccepts, h']
    exact essence_nextEvent s
  · have h' : (nextEvent s).geo.inFlight = some (c, u) := h
    cases hn : s.geo.nextSlot with
    | none =>
      have hn' : (nextEvent s).geo.nextSlot = none := hn
      simp only [warpAccepts, h', hn']
      exact essence_congr rfl rfl rfl rfl rfl
    | some m =>
      have hn' : (nextEvent s).geo.nextSlot = some m := hn
      simp only [warpAccepts, h', hn']
      exact essence_congr rfl rfl rfl rfl rfl
  · simp [warpWindowDue, reached, h, warpWindow, hup]
  · exact essence_congr rfl rfl rfl rfl rfl

end Sys2Proof.Picture

/-! PROOFS. What every command refuses: a lower class, malformed arguments, and a lock level that forbids it (O16, O17). -/

namespace Sys2Proof.Refusals

open Sys2Proof Sys2Proof.Machine Sys2Proof.Upkeep Sys2Proof.Steps Sys2Proof.Lamps Sys2Proof.Counts Sys2Proof.Picture

set_option Elab.async false

/-! ## A command that is refused -/

section Refused

variable {i : Instr} {s : State} {snd : Sender} {args words : List String} {cmd : State → Answer} {reason v k : String}

theorem refused_run (h : takesNow s snd args = true) (hi : exec i s = run snd words cmd s) (hw : bodyFault words = false)
    (hc : cmd (nextEvent s) = no reason (nextEvent s)) : refusedWith i snd s reason := by
  rw [refusedWith, hi, run_of_takesNow h hw, hc]
  rfl

theorem refused_verb (h : takesNow s snd args = true) (hi : exec i s = run snd (v :: args) cmd s)
    (hc : cmd (nextEvent s) = no reason (nextEvent s)) (hv : v.isEmpty = false := by rfl) : refusedWith i snd s reason :=
  refused_run h hi (bodyFault_cons hv (takesNow_args h)) hc

theorem refused_setting (h : takesNow s snd args = true) (hi : exec i s = run snd (v :: k :: args) cmd s)
    (hc : cmd (nextEvent s) = no reason (nextEvent s)) (hv : v.isEmpty = false := by rfl) (hk : k.isEmpty = false := by rfl) :
    refusedWith i snd s reason :=
  refused_run h hi (bodyFault_cons hv (bodyFault_cons hk (takesNow_args h))) hc

end Refused

theorem forall_mem_unless_nil {α β : Type} {p : β → Prop} {args : List α} {l : List β} :
    (∀ i ∈ (if args = [] then [] else l), p i) ↔ (args ≠ [] → ∀ i ∈ l, p i) := by
  cases args <;> simp

/-! ## The class -/

section BelowClass

variable {snd : Sender} {c : Cls} {s : State} (hb : below snd c = true)

include hb

theorem gate_below {ok : Bool} {k : State → Answer} : gate snd c ok s k = no "CLASS" s := if_pos hb

theorem bookGate_below {k : State → Answer} (hc : c = .operator) : bookGate snd s k = no "CLASS" s := by
  subst hc
  exact if_pos hb

theorem recordGate_below {α : Type} {form : Option α} {maint : Bool} {k : α → Answer} (hc : c = .facility) :
    recordGate snd form maint s k = no "CLASS" s := by
  subst hc
  exact if_pos hb

theorem cmdSetting_below {α : Type} {k : SettingName} {parse : String → Option α} {f : α → Settings → Settings} {effect : State → State}
    {args : List String} (ha : args ≠ []) : cmdSetting snd k c parse f effect args s = no "CLASS" s := by
  unfold cmdSetting
  split
  · exact absurd rfl ha
  · split <;> exact gate_below hb
  · exact gate_below hb

theorem cmdAddress_below (hc : c = .facility) {args : List String} (ha : args ≠ []) : cmdAddress snd args s = no "CLASS" s := by
  subst hc
  unfold cmdAddress
  rw [cmdSetting_below hb ha]
  rfl

end BelowClass

section LowerClass

variable {s : State} {snd : Sender} {args : List String} (h : takesNow s snd args = true)

include h

theorem presenterBelow (hb : below snd .presenter = true) :
    ∀ i ∈ [Instr.lampon snd args, .lampoff snd args, .muteOn snd, .muteOff snd, .nudge snd args, .extend snd args,
           .unlock snd args, .relock snd args] ++ (if args = [] then [] else [Instr.source snd args]),
      refusedWith i snd s "CLASS" := by
  simp only [List.forall_mem_append, List.forall_mem_cons, List.not_mem_nil, IsEmpty.forall_iff, implies_true, forall_mem_unless_nil, and_true]
  refine ⟨⟨refused_verb h rfl (if_pos hb), refused_verb h rfl (gate_below hb), refused_run h rfl rfl (if_pos hb),
    refused_run h rfl rfl (if_pos hb), refused_verb h rfl ?_, refused_verb h rfl ?_, refused_verb h rfl (if_pos hb),
    refused_verb h rfl (if_pos hb)⟩, fun ha => refused_verb h rfl ?_⟩
  · unfold cmdNudge
    split <;> exact gate_below hb
  · unfold cmdExtend
    split <;> exact gate_below hb
  · unfold cmdSource
    split
    · exact absurd rfl ha
    · split <;> exact gate_below hb
    · exact gate_below hb

theorem operatorBelow (hb : below snd .operator = true) :
    ∀ i ∈ [Instr.mode snd args, .profile snd args, .unprofile snd args, .trim snd args, .setclock snd args, .book snd args,
           .rebook snd args, .unbook snd args, .skip snd args, .unskip snd args, .endnow snd args, .freeze snd args,
           .clearfault snd args] ++
          (if args = [] then [] else
            [Instr.settingDefmode snd args, .settingCondint snd args, .settingAutoscan snd args, .settingPrewarm snd args,
             .settingGrace snd args, .settingIdle snd args, .settingIdlelock snd args]),
      refusedWith i snd s "CLASS" := by
  simp only [List.forall_mem_append, List.forall_mem_cons, List.not_mem_nil, IsEmpty.forall_iff, implies_true, forall_mem_unless_nil, and_true]
  refine ⟨⟨refused_verb h rfl ?_, refused_verb h rfl ?_, refused_verb h rfl ?_, refused_verb h rfl ?_, refused_verb h rfl ?_,
    refused_verb h rfl (bookGate_below hb rfl), refused_verb h rfl (bookGate_below hb rfl), refused_verb h rfl (bookGate_below hb rfl),
    refused_verb h rfl (bookGate_below hb rfl), refused_verb h rfl (bookGate_below hb rfl), refused_verb h rfl (gate_below hb),
    refused_verb h rfl (gate_below hb), refused_verb h rfl ?_⟩,
    fun ha => ⟨refused_setting h rfl (cmdSetting_below hb ha), refused_setting h rfl (cmdSetting_below hb ha),
      refused_setting h rfl (cmdSetting_below hb ha), refused_setting h rfl (cmdSetting_below hb ha),
      refused_setting h rfl (cmdSetting_below hb ha), refused_setting h rfl (cmdSetting_below hb ha),
      refused_setting h rfl (cmdSetting_below hb ha)⟩⟩
  · unfold cmdMode
    split <;> exact gate_below hb
  · unfold cmdProfile
    split <;> exact gate_below hb
  · unfold cmdUnprofile
    split <;> exact gate_below hb
  · unfold cmdTrim
    split <;> exact gate_below hb
  · unfold cmdSetclock
    split <;> exact gate_below hb
  · unfold cmdClearfault
    split <;> exact gate_below hb

theorem ceiling_words (w : String) (hw : w.isEmpty = false) : bodyFault ("CEILING" :: args ++ [w]) = false :=
  bodyFault_append (bodyFault_cons rfl (takesNow_args h)) (bodyFault_cons hw rfl)

theorem facilityBelow (hb : below snd .facility = true) :
    ∀ i ∈ [Instr.install snd args, .replace snd args, .remove snd args, .revive snd args, .ceilingPersist snd args,
           .ceilingTemp snd args, .ceilingCleartemp snd, .limits snd args, .attempts snd args, .setcode snd args,
           .delcode snd args, .setmaster snd args, .maintOn snd, .maintOff snd, .filter snd args, .mask snd args,
           .restart snd args] ++
          (if args = [] then [] else [Instr.settingPlan snd args, .settingMount snd args, .settingAddress snd args]),
      refusedWith i snd s "CLASS" := by
  simp only [List.forall_mem_append, List.forall_mem_cons, List.not_mem_nil, IsEmpty.forall_iff, implies_true, forall_mem_unless_nil, and_true]
  refine ⟨⟨refused_verb h rfl (recordGate_below hb rfl), refused_verb h rfl (recordGate_below hb rfl),
    refused_verb h rfl (recordGate_below hb rfl), refused_verb h rfl (recordGate_below hb rfl),
    refused_run h rfl (ceiling_words h _ rfl) (if_pos hb), refused_run h rfl (ceiling_words h _ rfl) (if_pos hb),
    refused_run h rfl rfl (if_pos hb), refused_verb h rfl (if_pos hb), refused_verb h rfl (gate_below hb), refused_verb h rfl ?_,
    refused_verb h rfl ?_, refused_verb h rfl ?_, refused_run h rfl rfl (if_pos hb), refused_run h rfl rfl (if_pos hb),
    refused_verb h rfl ?_, refused_verb h rfl ?_, refused_verb h rfl (gate_below hb)⟩,
    fun ha => ⟨refused_setting h rfl (cmdSetting_below hb ha), refused_setting h rfl (cmdSetting_below hb ha),
      refused_setting h rfl (cmdAddress_below hb rfl ha)⟩⟩
  · unfold cmdSetcode
    split <;> exact gate_below hb
  · unfold cmdDelcode
    split <;> exact gate_below hb
  · unfold cmdSetmaster
    split <;> exact gate_below hb
  · unfold cmdFilter
    split <;> exact gate_below hb
  · unfold cmdMask
    split <;> exact gate_below hb

end LowerClass

/-! ## The form of the arguments -/

/-- The arguments are one word of a form. -/
def oneWord {α : Type} (f : String → Option α) (args : List String) : Prop := ∃ w x, args = [w] ∧ f w = some x

theorem eq_none_of_oneWord {α : Type} {f : String → Option α} {w : String} (h : ¬oneWord f [w]) : f w = none :=
  Option.eq_none_iff_forall_ne_some.2 fun x hx => h ⟨w, x, rfl, hx⟩

section Forms

variable {args : List String}

theorem parseOnePlace_none {top : Nat} (h : ¬oneWord (parseNatIn 1 top) args) : parseOnePlace top args = none := by
  unfold parseOnePlace
  split
  · exact eq_none_of_oneWord h
  · rfl

theorem parseOneBay_none (h : ¬oneWord parseBay args) : parseOneBay args = none := by
  unfold parseOneBay
  split
  · exact eq_none_of_oneWord h
  · rfl

theorem parseOneMode_none (h : ¬oneWord parseMode args) : parseOneMode args = none := by
  unfold parseOneMode
  split
  · exact eq_none_of_oneWord h
  · rfl

theorem parseExtend_none (h : ¬oneWord (parseNatIn 1 60) args) : parseExtend args = none := by
  unfold parseExtend
  split
  · exact eq_none_of_oneWord h
  · rfl

theorem parseUnlock_none (h : ¬∃ w, args = [w] ∧ isDigits 4 6 w = true) : parseUnlock args = none := by
  unfold parseUnlock
  split
  · exact if_neg fun hd => h ⟨_, rfl, hd⟩
  · rfl

theorem parseTwoInts_none (h : ¬∃ v k x y, args = [v, k] ∧ parseInt v = some x ∧ parseInt k = some y) : parseTwoInts args = none := by
  unfold parseTwoInts
  split
  · split
    · exact absurd ⟨_, _, _, _, rfl, ‹_›, ‹_›⟩ h
    · rfl
  · rfl

theorem parseLimits_none (h : ¬∃ v k x y, args = [v, k] ∧ parseNatIn 0 40 v = some x ∧ parseNatIn 0 30 k = some y) :
    parseLimits args = none := by
  unfold parseLimits
  split
  · split
    · exact absurd ⟨_, _, _, _, rfl, ‹_›, ‹_›⟩ h
    · rfl
  · rfl

theorem parseTrim_none
    (h : ¬∃ w v k n x y, args = [w, v, k] ∧ parseNatIn 1 16 w = some n ∧ parseInt v = some x ∧ parseInt k = some y) :
    parseTrim args = none := by
  unfold parseTrim
  split
  · split
    · exact absurd ⟨_, _, _, _, _, _, rfl, ‹_›, ‹_›, ‹_›⟩ h
    · rfl
  · rfl

theorem parseClock_none (h : ¬∃ d t x y, args = [d, t] ∧ parseDate d = some x ∧ parseTime t = some y) : parseClock args = none := by
  unfold parseClock
  split
  · split
    · exact absurd ⟨_, _, _, _, rfl, ‹_›, ‹_›⟩ h
    · rfl
  · rfl

theorem parseSkip_none (h : ¬∃ w d n x, args = [w, d] ∧ parseNatIn 1 48 w = some n ∧ parseDate d = some x) : parseSkip args = none := by
  unfold parseSkip
  split
  · split
    · exact absurd ⟨_, _, _, _, rfl, ‹_›, ‹_›⟩ h
    · rfl
  · rfl

theorem parseLamp_none
    (h : ¬∃ b i k n, args = [b, i, k] ∧ parseBay b ≠ none ∧ isLabel 8 i = true ∧ parseNatIn 500 20000 k = some n) :
    parseLamp args = none := by
  unfold parseLamp
  split
  · split
    · rename_i b i k _ _ _ x t n hb hi hk
      refine absurd ⟨b, i, k, n, rfl, by simp [hb], ?_, hk⟩ h
      by_contra hn
      simp [parseLabel, hn] at hi
    · rfl
  · rfl

theorem parseTarget_none {w : String} (hplace : ¬oneWord (parseNatIn 1 16) [w]) (hport : ¬oneWord parsePort [w]) : parseTarget w = none := by
  have hp : parsePlace 16 w = none := eq_none_of_oneWord hplace
  rw [parseTarget, eq_none_of_oneWord hport]
  simp [hp]

theorem parseClamped_none {lo hi : Nat} {w : String} (h : parseInt w = none) : parseClamped lo hi w = none := by simp [parseClamped, h]

end Forms

section Malformed

variable {snd : Sender} {c : Cls} {s : State} {args : List String}

theorem gate_malformed {k : State → Answer} (hc : below snd c = false) : gate snd c false s k = no "ARGS" s := by simp [gate, hc]

theorem gate_surplus {k : State → Answer} (hc : below snd c = false) (ha : ¬args = []) : gate snd c (noArgs args) s k = no "ARGS" s := by
  have hn : noArgs args = false := by simpa [noArgs] using ha
  rw [hn]
  exact gate_malformed hc

theorem query_surplus {fields : State → List String} (ha : ¬args = []) : query args s fields = no "ARGS" s :=
  if_neg (by simpa [noArgs] using ha)

theorem bookGate_passes {k : State → Answer} (hc : below snd .operator = false) (hl : lockedOut s snd.cls = false) :
    bookGate snd s k = k s := by
  simp [bookGate, hc, hl]

theorem recordGate_malformed {α : Type} {form : Option α} {maint : Bool} {k : α → Answer} (hc : below snd .facility = false)
    (hf : form = none) : recordGate snd form maint s k = no "ARGS" s := by
  simp [recordGate, hc, hf]

theorem cmdSetting_malformed {α : Type} {k : SettingName} {parse : String → Option α} {f : α → Settings → Settings}
    {effect : State → State} (hc : below snd c = false) (ha : ¬args = []) (hw : ∀ w, args = [w] → parse w = none) :
    cmdSetting snd k c parse f effect args s = no "ARGS" s := by
  unfold cmdSetting
  split
  · exact absurd rfl ha
  · rw [hw _ rfl]
    exact gate_malformed hc
  · exact gate_malformed hc

theorem setting_form {α : Type} {f : String → Option α} (h : ¬(args = [] ∨ oneWord f args)) :
    ¬args = [] ∧ ∀ w, args = [w] → f w = none := by
  refine ⟨fun ha => h (.inl ha), ?_⟩
  rintro w rfl
  exact eq_none_of_oneWord fun ho => h (.inr ho)

theorem cmdAddress_malformed (hc : below snd .facility = false) (h : ¬(args = [] ∨ oneWord parseInt args)) :
    cmdAddress snd args s = no "ARGS" s := by
  obtain ⟨ha, hw⟩ := setting_form h
  unfold cmdAddress
  rw [cmdSetting_malformed hc ha fun w e => parseClamped_none (hw w e)]
  rfl

end Malformed

/-- Settles O16: each command looks at its sender's class and then at its arguments before anything else. -/
theorem classBelowRefused : Obligations.ClassBelowRefused := by
  intro s snd args h
  refine ⟨presenterBelow h, operatorBelow h, facilityBelow h, ⟨?_, ?_, ?_, ?_, ?_⟩, fun hc => ⟨?_, ?_, ?_, ?_, ?_⟩,
    fun hc => ⟨?_, ?_, ?_, ?_, ?_, ?_, ?_, ?_, ?_, ?_, ?_, fun hl => ⟨?_, ?_, ?_, ?_⟩⟩,
    fun hc => ⟨?_, ?_, ?_, ?_, ?_, ?_, ?_, ?_, ?_, ?_, ?_, ?_, ?_⟩⟩ <;> intro hform <;>
    simp only [List.forall_mem_cons, List.not_mem_nil, IsEmpty.forall_iff, implies_true, and_true]
  · exact ⟨refused_verb h rfl (query_surplus hform), refused_verb h rfl (query_surplus hform),
      refused_verb h rfl (query_surplus hform), refused_verb h rfl (query_surplus hform),
      refused_verb h rfl (query_surplus hform), refused_verb h rfl (query_surplus hform),
      refused_verb h rfl (query_surplus hform), refused_verb h rfl (query_surplus hform),
      refused_verb h rfl (query_surplus hform), refused_verb h rfl (query_surplus hform),
      refused_verb h rfl (if_neg (by simpa [noArgs] using hform))⟩
  · have hn := parseOnePlace_none fun ho => hform (.inr ho)
    refine refused_verb h rfl ?_
    unfold cmdProfinfo
    split
    · exact absurd (.inl rfl) hform
    · rw [hn]
  · refine refused_verb h rfl ?_
    rw [cmdBookinfo, parseOnePlace_none hform]
  · refine refused_verb h rfl ?_
    rw [cmdLampinfo, parseOneBay_none hform]
  · refine refused_verb h rfl ?_
    unfold cmdSettingQuery
    split
    · rw [eq_none_of_oneWord hform]
    · rfl
  · have hn : noArgs args = false := by simpa [noArgs] using hform
    exact ⟨refused_verb h rfl (by simp [cmdLampon, hc, hn]), refused_verb h rfl (gate_surplus hc hform),
      refused_verb h rfl (by simp [cmdRelock, hc, hn])⟩
  · refine refused_verb h rfl ?_
    rw [cmdExtend, parseExtend_none hform]
    exact gate_malformed hc
  · refine refused_verb h rfl ?_
    rw [cmdUnlock, parseUnlock_none hform]
    exact if_neg (by simp [hc])
  · refine refused_verb h rfl ?_
    unfold cmdSource
    split
    · exact absurd (.inl rfl) hform
    · rw [parseTarget_none (fun ho => hform (.inr (.inl ho))) fun ho => hform (.inr (.inr ho))]
      exact gate_malformed hc
    · exact gate_malformed hc
  · refine refused_verb h rfl ?_
    rw [cmdNudge, parseTwoInts_none hform]
    exact gate_malformed hc
  · exact ⟨refused_verb h rfl (gate_surplus hc hform), refused_verb h rfl (gate_surplus hc hform)⟩
  · refine refused_verb h rfl ?_
    rw [cmdMode, parseOneMode_none hform]
    exact gate_malformed hc
  · obtain ⟨ha, hw⟩ := setting_form hform
    exact refused_setting h rfl (cmdSetting_malformed hc ha hw)
  · obtain ⟨ha, hw⟩ := setting_form hform
    exact refused_setting h rfl (cmdSetting_malformed hc ha hw)
  · obtain ⟨ha, hw⟩ := setting_form hform
    exact refused_setting h rfl (cmdSetting_malformed hc ha hw)
  · obtain ⟨ha, hw⟩ := setting_form hform
    have hclamped {lo hi : Nat} (w : String) (e : args = [w]) : parseClamped lo hi w = none := parseClamped_none (hw w e)
    exact ⟨refused_setting h rfl (cmdSetting_malformed hc ha hclamped), refused_setting h rfl (cmdSetting_malformed hc ha hclamped),
      refused_setting h rfl (cmdSetting_malformed hc ha hclamped), refused_setting h rfl (cmdSetting_malformed hc ha hclamped)⟩
  · have hn : parseProfile args (nextEvent s) = none := not_not.1 hform
    refine refused_verb h rfl ?_
    rw [cmdProfile, hn]
    exact gate_malformed hc
  · refine refused_verb h rfl ?_
    rw [cmdUnprofile, parseOnePlace_none hform]
    exact gate_malformed hc
  · refine refused_verb h rfl ?_
    rw [cmdTrim, parseTrim_none hform]
    exact gate_malformed hc
  · refine refused_verb h rfl ?_
    rw [cmdSetclock, parseClock_none hform]
    exact gate_malformed hc
  · refine refused_verb h rfl ?_
    rw [cmdClearfault, not_not.1 hform]
    exact gate_malformed hc
  · have hn : parseBook args (nextEvent s) = none := not_not.1 hform
    refine refused_verb h rfl ?_
    rw [cmdBook, bookGate_passes (s := nextEvent s) hc hl, hn]
  · have hn : parseRebook args (nextEvent s) = none := not_not.1 hform
    refine refused_verb h rfl ?_
    rw [cmdRebook, bookGate_passes (s := nextEvent s) hc hl, hn]
  · refine refused_verb h rfl ?_
    rw [cmdUnbook, bookGate_passes (s := nextEvent s) hc hl, parseOnePlace_none hform]
  · have hn := parseSkip_none hform
    refine ⟨refused_verb h rfl ?_, refused_verb h rfl ?_⟩
    · rw [cmdSkip, bookGate_passes (s := nextEvent s) hc hl, hn]
    · rw [cmdUnskip, bookGate_passes (s := nextEvent s) hc hl, hn]
  · exact ⟨refused_verb h rfl (gate_surplus hc hform), refused_verb h rfl (gate_surplus hc hform)⟩
  · exact ⟨refused_verb h rfl (recordGate_malformed hc (parseLamp_none hform)),
      refused_verb h rfl (recordGate_malformed hc (parseLamp_none hform))⟩
  · exact ⟨refused_verb h rfl (recordGate_malformed hc (parseOneBay_none hform)),
      refused_verb h rfl (recordGate_malformed hc (parseOneBay_none hform))⟩
  · have hn := parseOneMode_none hform
    exact ⟨refused_run h rfl (ceiling_words h _ rfl) (by simp [cmdCeilingPersist, hc, hn]),
      refused_run h rfl (ceiling_words h _ rfl) (by simp [cmdCeilingTemp, hc, hn])⟩
  · obtain ⟨ha, hw⟩ := setting_form hform
    exact refused_setting h rfl (cmdSetting_malformed hc ha hw)
  · obtain ⟨ha, hw⟩ := setting_form hform
    exact refused_setting h rfl (cmdSetting_malformed hc ha hw)
  · exact refused_setting h rfl (cmdAddress_malformed hc hform)
  · have hn := parseLimits_none hform
    exact refused_verb h rfl (by simp [cmdLimits, hc, hn])
  · refine refused_verb h rfl ?_
    rw [cmdSetcode, not_not.1 hform]
    exact gate_malformed hc
  · refine refused_verb h rfl ?_
    rw [cmdDelcode, parseOnePlace_none hform]
    exact gate_malformed hc
  · refine refused_verb h rfl ?_
    rw [cmdSetmaster, not_not.1 hform]
    exact gate_malformed hc
  · refine refused_verb h rfl ?_
    rw [cmdFilter, not_not.1 hform]
    exact gate_malformed hc
  · refine refused_verb h rfl ?_
    rw [cmdMask, not_not.1 hform]
    exact gate_malformed hc

/-! ## The lock level -/

theorem lockedOut_of_maintenance {s : State} {c : Cls} (hl : lockLevel s = .maintenance) (hc : c = .presenter ∨ c = .operator) :
    lockedOut s c = true := by
  rcases hc with rfl | rfl <;> simp [lockedOut, presenterLevel, hl]

theorem maintOut_of_maintenance {s : State} {c : Cls} (hl : lockLevel s = .maintenance) (hc : c = .presenter ∨ c = .operator) :
    maintOut s c = true := by
  rcases hc with rfl | rfl <;> simp [maintOut, hl]

theorem below_presenter {snd : Sender} (hc : snd.cls ≠ .viewer) : below snd .presenter = false := by
  cases h : snd.cls <;> simp_all [below, Cls.rank]

theorem below_operator {snd : Sender} (hc : snd.cls = .operator) : below snd .operator = false := by simp [below, hc]

theorem gate_locked {snd : Sender} {c : Cls} {s : State} {k : State → Answer} (hc : below snd c = false)
    (hl : lockedOut s snd.cls = true) : gate snd c (noArgs []) s k = no "LOCKED" s := by
  simp [gate, hc, hl, noArgs]

theorem bookGate_locked {snd : Sender} {s : State} {k : State → Answer} (hc : below snd .operator = false)
    (hl : lockedOut s snd.cls = true) : bookGate snd s k = no "LOCKED" s := by
  simp [bookGate, hc, hl]

/-- Settles O17. -/
theorem maintenanceLocksCommands : Obligations.MaintenanceLocksCommands := by
  intro s snd
  refine ⟨fun hl => ⟨fun hc h => ?_, fun hc h => ?_, fun hc args h => ?_, fun hc h => refused_verb h rfl ?_⟩,
    fun h => ⟨fun hc hl hout hheat => refused_verb h rfl ?_, fun hc hl => refused_verb h rfl ?_⟩⟩
  · have hb : below snd .presenter = false := below_presenter (by rcases hc with hc | hc <;> simp [hc])
    have hl' : lockLevel (nextEvent s) = .maintenance := hl
    have hout := lockedOut_of_maintenance hl' hc
    have hmaint := maintOut_of_maintenance hl' hc
    simp only [List.forall_mem_cons, List.not_mem_nil, IsEmpty.forall_iff, implies_true, and_true]
    exact ⟨refused_verb h rfl (gate_locked hb hout), refused_run h rfl rfl (by simp [cmdMute, hb, hmaint]),
      refused_run h rfl rfl (by simp [cmdMute, hb, hmaint]), refused_verb h rfl (by simp [cmdRelock, hb, hmaint, noArgs])⟩
  · have hout : lockedOut (nextEvent s) snd.cls = true := lockedOut_of_maintenance hl (.inr hc)
    simp only [List.forall_mem_cons, List.not_mem_nil, IsEmpty.forall_iff, implies_true, and_true]
    exact ⟨refused_verb h rfl (gate_locked (below_operator hc) hout), refused_verb h rfl (gate_locked (below_operator hc) hout)⟩
  · have hout : lockedOut (nextEvent s) snd.cls = true := lockedOut_of_maintenance hl (.inr hc)
    have hlocked {k : State → Answer} : bookGate snd (nextEvent s) k = no "LOCKED" (nextEvent s) :=
      bookGate_locked (below_operator hc) hout
    simp only [List.forall_mem_cons, List.not_mem_nil, IsEmpty.forall_iff, implies_true, and_true]
    exact ⟨refused_verb h rfl hlocked, refused_verb h rfl hlocked, refused_verb h rfl hlocked, refused_verb h rfl hlocked,
      refused_verb h rfl hlocked⟩
  · simp [cmdLampon, below_presenter hc, noArgs, hl]
  · simp [cmdLampon, below_presenter hc, noArgs, hl, hout, hheat]
  · have hout : lockedOut s snd.cls = true := by simpa [lockedOut, hc] using hl
    exact gate_locked (s := nextEvent s) (below_presenter (by simp [hc])) hout

end Sys2Proof.Refusals

/-! PROOFS. Commands that are accepted: the hall settings, the mode and the ceilings, the picture's requests, the locks and codes
(O18, O19, O23, O33, O37, O47, O48). -/

namespace Sys2Proof.Accepted

open Sys2Proof Sys2Proof.Machine Sys2Proof.Upkeep Sys2Proof.Steps Sys2Proof.Lamps Sys2Proof.Counts Sys2Proof.Picture Sys2Proof.Refusals

set_option Elab.async false

/-! ## A command that is accepted -/

section Accept

variable {i : Instr} {s x u : State} {snd : Sender} {args words : List String} {cmd : State → Answer} {v k : String} {n : Nat}
  {f fields : State → List String}

theorem accepted_run (h : takesNow s snd args = true) (hi : exec i s = run snd words cmd s) (hw : bodyFault words = false)
    (hc : cmd (nextEvent s) = yes x f n) (hf : f (settle x) = fields (settle x)) (he : essence x = essence u) :
    acceptedAs i snd s fields n u := by
  refine ⟨settle x, ?_, (essence_settle x).trans he⟩
  rw [hi, run_of_takesNow h hw, hc, yes, hf]

theorem accepted_verb (h : takesNow s snd args = true) (hi : exec i s = run snd (v :: args) cmd s)
    (hc : cmd (nextEvent s) = yes x f n) (hf : f (settle x) = fields (settle x)) (he : essence x = essence u)
    (hv : v.isEmpty = false := by rfl) : acceptedAs i snd s fields n u :=
  accepted_run h hi (bodyFault_cons hv (takesNow_args h)) hc hf he

theorem accepted_setting (h : takesNow s snd args = true) (hi : exec i s = run snd (v :: k :: args) cmd s)
    (hc : cmd (nextEvent s) = yes x f n) (hf : f (settle x) = fields (settle x)) (he : essence x = essence u)
    (hv : v.isEmpty = false := by rfl) (hk : k.isEmpty = false := by rfl) : acceptedAs i snd s fields n u :=
  accepted_run h hi (bodyFault_cons hv (bodyFault_cons hk (takesNow_args h))) hc hf he

end Accept

theorem below_of_operator {snd : Sender} (h : below snd .operator = false) : below snd .presenter = false := by
  cases hc : snd.cls <;> simp_all [below, Cls.rank]

/-- A Facility sender is never locked out (R157). -/
theorem lockedOut_facility {s : State} {snd : Sender} (h : below snd .facility = false) : lockedOut s snd.cls = false := by
  cases hc : snd.cls <;> simp_all [below, Cls.rank, lockedOut]

/-! ## The number of an event and its notices pass through the operations on the lamps -/

/-- The state with another number of events and another Notice Queue. -/
def relabel (n : Nat) (q : NoticeQ) (s : State) : State := { s with events := n, notices := q }

section Relabel

variable (n : Nat) (q : NoticeQ) (s : State)

theorem nextEvent_relabel : nextEvent s = relabel (s.events + 1) s.notices s := rfl

@[simp] theorem essence_relabel : essence (relabel n q s) = essence s := essence_congr rfl rfl rfl rfl rfl

theorem askOwn_relabel (k : RecKey) : askOwn k (relabel n q s) = relabel n q (askOwn k s) := by
  have h1 := askOwn_of_notices k { s with events := n } q
  have h2 := askOwn_of_events k s n
  rw [h2] at h1
  exact h1

theorem ask_relabel (snd : Sender) (k : RecKey) : ask snd k (relabel n q s) = relabel n q (ask snd k s) := by
  have h1 := ask_of_notices snd k { s with events := n } q
  have h2 := ask_of_events snd k s n
  rw [h2] at h1
  exact h1

theorem extinguish_relabel (b : Bay) : extinguish b (relabel n q s) = relabel n q (extinguish b s) := by
  have hserves : writeServes (enterCooling b (relabel n q s)) b = writeServes (enterCooling b s) b := rfl
  unfold extinguish leaveBurning
  rw [hserves]
  split
  · rfl
  · exact askOwn_relabel n q (modBay b (fun y => { y with lastExt := some (enterCooling b s).uptime }) (enterCooling b s)) _

/-- A bay that a new wanted set leaves out goes out. -/
def outWhere (w : PerBay Bool) (b : Bay) (s : State) : State := if (bay s b).st = .lit ∧ w.get b = false then extinguish b s else s

theorem putWanted_eq (w : PerBay Bool) :
    putWanted w s = outWhere w .bayB (outWhere w .bayA { s with lamp := { s.lamp with wanted := w } }) := rfl

theorem outWhere_relabel (w : PerBay Bool) (b : Bay) : outWhere w b (relabel n q s) = relabel n q (outWhere w b s) := by
  have hbay : bay (relabel n q s) b = bay s b := rfl
  unfold outWhere
  rw [hbay]
  split
  · exact extinguish_relabel n q s b
  · rfl

theorem putWanted_relabel (w : PerBay Bool) : putWanted w (relabel n q s) = relabel n q (putWanted w s) := by
  rw [putWanted_eq, putWanted_eq]
  exact (congrArg _ (outWhere_relabel n q { s with lamp := { s.lamp with wanted := w } } w .bayA)).trans (outWhere_relabel ..)

theorem formWanted_relabel : formWanted (relabel n q s) = relabel n q (formWanted s) := putWanted_relabel n q s (chosenSet s)

theorem setDemand_relabel (o : DemandOrigin) (k : Nat) : setDemand o k (relabel n q s) = relabel n q (setDemand o k s) := by
  have hcount : (relabel n q s).lamp.count = s.lamp.count := rfl
  unfold setDemand
  rw [hcount]
  split
  · rfl
  · exact formWanted_relabel n q { s with lamp := { s.lamp with count := k, origin := o } }

theorem drop_relabel (o : DemandOrigin) : drop o (relabel n q s) = relabel n q (drop o s) := setDemand_relabel n q s o 0

theorem ask_nextEvent (snd : Sender) (k : RecKey) : ask snd k (nextEvent s) = nextEvent (ask snd k s) := by
  rw [nextEvent_relabel, nextEvent_relabel, ask_relabel, ask_events, ask_notices]

theorem drop_nextEvent (o : DemandOrigin) : drop o (nextEvent s) = nextEvent (drop o s) := by
  rw [nextEvent_relabel, nextEvent_relabel, drop_relabel, drop_events, drop_notices]

end Relabel

/-! ## Hall settings (O18, O19) -/

section Settings

variable {α : Type} {k : SettingName} {c : Cls} {parse : String → Option α} {f : α → Settings → Settings} {effect : State → State}
  {s : State} {snd : Sender} {w : String} {v : α}

theorem cmdSetting_put (hp : parse w = some v) (hc : below snd c = false) (hl : lockedOut s snd.cls = false) :
    cmdSetting snd k c parse f effect [w] s = putSetting snd k (f v) effect s := by
  unfold cmdSetting
  simp only [hp]
  exact gate_passes hc hl

theorem putSetting_new {g : Settings → Settings} (h : g s.work.settings ≠ s.work.settings) : putSetting snd k g effect s =
    yes (withLock (fun x => effect (ask snd (.setting k) { x with work := { x.work with settings := g x.work.settings } })) s)
      (fun x => [showSetting k, settingWord x k]) 1 := if_neg h

theorem putSetting_equal {g : Settings → Settings} (h : g s.work.settings = s.work.settings) :
    putSetting snd k g effect s = yes s (fun x => [showSetting k, settingWord x k]) := if_pos h

theorem withLock_work (g : State → State) (x : State) : (withLock g x).work = (g x).work := by
  unfold withLock
  dsimp only
  split <;> rfl

/-- The settings in force as a list of words: what a reply to SETTING reads. -/
theorem settingWord_congr {s t : State} (h : t.work.settings = s.work.settings) (k : SettingName) : settingWord t k = settingWord s k := by
  cases k <;> simp only [settingWord, h]

/-- A setting of one word is accepted: a new value is stored, with the effect of the change, and one in force makes no write (R176). -/
theorem setting_accepted {i : Instr} {key : String} {u : State}
    (h : takesNow s snd [w] = true) (hi : exec i s = run snd ("SETTING" :: key :: [w]) (cmdSetting snd k c parse f effect [w]) s)
    (hp : parse w = some v) (hc : below snd c = false) (hl : lockedOut s snd.cls = false) (hk : key.isEmpty = false)
    (hne : f v s.work.settings ≠ s.work.settings) (hwork : ∀ x, (effect x).work.settings = x.work.settings)
    (he : essence (effect (nextEvent (ask snd (.setting k) (withSettings (f v) s)))) = essence u) :
    acceptedAs i snd s (fun _ => [showSetting k, settingWord (withSettings (f v) s) k]) 1 u := by
  have hcmd : cmdSetting snd k c parse f effect [w] (nextEvent s) = _ :=
    (cmdSetting_put hp hc ((lockedOut_nextEvent s snd.cls).trans hl)).trans (putSetting_new (s := nextEvent s) hne)
  refine accepted_setting h hi hcmd ?_ ?_ rfl hk
  · refine congrArg (fun x => [showSetting k, x]) (settingWord_congr ?_ k)
    rw [settle_work, withLock_work, hwork, ask_work]
    rfl
  · rw [essence_withLock, ← he]
    exact congrArg (fun x => essence (effect x)) (ask_nextEvent (withSettings (f v) s) snd (.setting k))

theorem setting_kept {i : Instr} {key : String}
    (h : takesNow s snd [w] = true) (hi : exec i s = run snd ("SETTING" :: key :: [w]) (cmdSetting snd k c parse f effect [w]) s)
    (hp : parse w = some v) (hc : below snd c = false) (hl : lockedOut s snd.cls = false) (hk : key.isEmpty = false)
    (heq : f v s.work.settings = s.work.settings) :
    acceptedAs i snd s (fun _ => [showSetting k, settingWord s k]) 0 s := by
  have hcmd : cmdSetting snd k c parse f effect [w] (nextEvent s) = _ :=
    (cmdSetting_put hp hc ((lockedOut_nextEvent s snd.cls).trans hl)).trans (putSetting_equal (s := nextEvent s) heq)
  refine accepted_setting h hi hcmd ?_ (essence_nextEvent s) rfl hk
  exact congrArg (fun x => [showSetting k, x]) (settingWord_congr (by rw [settle_work]; rfl) k)

end Settings

theorem parseClamped_some {lo hi : Nat} {w : String} {x : Int} (h : parseInt w = some x) :
    parseClamped lo hi w = some (max (lo : Int) (min hi x)).toNat := by simp [parseClamped, h, clampInt]

theorem idleDue_iff {s : State} (h : 0 < idleLimit s) : idleDue s = true ↔ idleLimit s ≤ s.sched.idle := by
  simp only [idleDue, Bool.and_eq_true, decide_eq_true_eq]
  omega

theorem idleChange_eq {s : State} (h : 0 < idleLimit s) :
    idleChange s = if idleLimit s ≤ s.sched.idle then idleOff s else s := by
  unfold idleChange
  simp only [idleDue_iff h]

theorem essence_idleOff (s : State) : essence (idleOff s) = essence (clearUnlocked (drop .idle s)) := essence_congr rfl rfl rfl rfl rfl

theorem essence_idleChange_nextEvent {s : State} (h : 0 < idleLimit s) :
    essence (idleChange (nextEvent s)) = essence (if idleLimit s ≤ s.sched.idle then clearUnlocked (drop .idle s) else s) := by
  have hlimit : idleLimit (nextEvent s) = idleLimit s := rfl
  rw [idleChange_eq (hlimit ▸ h), hlimit, nextEvent_sched]
  split
  · rw [essence_idleOff, drop_nextEvent]
    exact essence_congr rfl rfl rfl rfl rfl
  · exact essence_nextEvent s

/-- A lower idle limit that the idle timer has reached makes the drop at once (R152). -/
theorem essence_idleStored (snd : Sender) (s : State) {v : Nat} (hv : 0 < v) :
    essence (idleChange (nextEvent (ask snd (.setting .idle) (withSettings (fun y => { y with idle := v }) s)))) =
      essence (if v * 60 ≤ s.sched.idle then
          clearUnlocked (drop .idle (ask snd (.setting .idle) (withSettings (fun y => { y with idle := v }) s)))
        else ask snd (.setting .idle) (withSettings (fun y => { y with idle := v }) s)) := by
  have hlimit : idleLimit (ask snd (.setting .idle) (withSettings (fun y => { y with idle := v }) s)) = v * 60 := by
    simp [idleLimit, withSettings]
  rw [essence_idleChange_nextEvent (by rw [hlimit]; omega), hlimit, ask_sched]
  rfl

theorem idleChange_settings (s : State) : (idleChange s).work.settings = s.work.settings := by
  unfold idleChange
  split
  · simp [idleOff, clearUnlocked]
  · rfl

section Address

variable {s : State} {snd : Sender} {w : String} {v : Nat}

/-- The reply to a new address carries the address before it (R176). -/
theorem cmdAddress_new (hp : parseClamped 1 62 w = some v) (hc : below snd .facility = false) (hl : lockedOut s snd.cls = false)
    (hne : { s.work.settings with address := v } ≠ s.work.settings) :
    cmdAddress snd [w] s =
      ⟨settle (withLock (fun x => ask snd (.setting .address) (withSettings (fun y => { y with address := v }) x)) s),
        ["OK", "ADDRESS", show2 v], 1, some s.work.settings.address⟩ := by
  have hput : cmdSetting snd .address .facility (parseClamped 1 62) (fun n y => { y with address := n }) id [w] s = _ :=
    (cmdSetting_put hp hc hl).trans (putSetting_new hne)
  unfold cmdAddress
  rw [hput]
  simp only [yes, settingWord, settle_work, withLock_work, id, ask_work]
  rfl

theorem cmdAddress_equal (hp : parseClamped 1 62 w = some v) (hc : below snd .facility = false) (hl : lockedOut s snd.cls = false)
    (heq : { s.work.settings with address := v } = s.work.settings) :
    cmdAddress snd [w] s = yes s (fun x => ["ADDRESS", show2 x.work.settings.address]) := by
  have hput : cmdSetting snd .address .facility (parseClamped 1 62) (fun n y => { y with address := n }) id [w] s = _ :=
    (cmdSetting_put hp hc hl).trans (putSetting_equal heq)
  unfold cmdAddress
  rw [hput]
  rfl

end Address

/-- Settles O18. -/
theorem numberSettingsStored : Obligations.NumberSettingsStored := by
  intro s snd w x h hx hl hc
  refine ⟨⟨fun hne => ?_, fun heq => ?_⟩, ⟨fun hne => ?_, fun heq => ?_⟩, ⟨fun hne => ?_, fun heq => ?_⟩, ⟨fun hne => ?_, fun heq => ?_⟩,
    fun hf => ⟨fun hne => ?_, fun heq => ?_⟩⟩
  · exact setting_accepted (k := .condint) (f := fun v y => { y with condint := v }) (effect := id) (key := "CONDINT") h rfl
      (parseClamped_some hx) hc hl rfl (fun e => hne (congrArg Settings.condint e)) (fun _ => rfl) (essence_nextEvent _)
  · rw [heq]
    exact setting_kept (k := .condint) (f := fun v y => { y with condint := v }) (effect := id) (key := "CONDINT") h rfl
      (parseClamped_some hx) hc hl rfl (congrArg (fun n => { s.work.settings with condint := n }) heq)
  · exact setting_accepted (k := .prewarm) (f := fun v y => { y with prewarm := v }) (effect := id) (key := "PREWARM") h rfl
      (parseClamped_some hx) hc hl rfl (fun e => hne (congrArg Settings.prewarm e)) (fun _ => rfl) (essence_nextEvent _)
  · rw [heq]
    exact setting_kept (k := .prewarm) (f := fun v y => { y with prewarm := v }) (effect := id) (key := "PREWARM") h rfl
      (parseClamped_some hx) hc hl rfl (congrArg (fun n => { s.work.settings with prewarm := n }) heq)
  · exact setting_accepted (k := .grace) (f := fun v y => { y with grace := v }) (effect := id) (key := "GRACE") h rfl
      (parseClamped_some hx) hc hl rfl (fun e => hne (congrArg Settings.grace e)) (fun _ => rfl) (essence_nextEvent _)
  · rw [heq]
    exact setting_kept (k := .grace) (f := fun v y => { y with grace := v }) (effect := id) (key := "GRACE") h rfl
      (parseClamped_some hx) hc hl rfl (congrArg (fun n => { s.work.settings with grace := n }) heq)
  · refine setting_accepted (k := .idle) (f := fun v y => { y with idle := v }) (effect := idleChange) (key := "IDLE") h rfl
      (parseClamped_some hx) hc hl rfl (fun e => hne (congrArg Settings.idle e)) idleChange_settings ?_
    exact essence_idleStored snd s (v := (max 5 (min 120 x)).toNat) (by omega)
  · rw [heq]
    exact setting_kept (k := .idle) (f := fun v y => { y with idle := v }) (effect := idleChange) (key := "IDLE") h rfl
      (parseClamped_some hx) hc hl rfl (congrArg (fun n => { s.work.settings with idle := n }) heq)
  · have hcmd := cmdAddress_new (s := nextEvent s) (snd := snd) (parseClamped_some hx) hf ((lockedOut_nextEvent s snd.cls).trans hl)
      fun e => hne (congrArg Settings.address e)
    refine ⟨_, (run_setting h).trans (congrArg (fun a => Host.Outcome.next (answer snd a)) hcmd), ?_⟩
    rw [essence_settle, essence_withLock]
    exact (congrArg essence (ask_nextEvent (withSettings (fun y => { y with address := (max 1 (min 62 x)).toNat }) s) snd
      (.setting .address))).trans (essence_nextEvent _)
  · rw [heq]
    have hcmd := cmdAddress_equal (s := nextEvent s) (snd := snd) (parseClamped_some hx) hf ((lockedOut_nextEvent s snd.cls).trans hl)
      (congrArg (fun n => { s.work.settings with address := n }) heq)
    exact accepted_setting h rfl hcmd (congrArg (fun n => ["ADDRESS", show2 n]) (by simp)) (essence_nextEvent s)

/-- Settles O19. -/
theorem wordSettingsStored : Obligations.WordSettingsStored := by
  intro s snd w h hl hc
  refine ⟨fun v hp hne => ?_, fun v hp hne => ?_, fun v hp hne => ?_, fun v hf hp hne => ?_, fun v hf hp hne => ?_⟩
  · exact setting_accepted (k := .defmode) (f := fun v y => { y with defmode := v }) (effect := id) (key := "DEFMODE") h rfl
      hp hc hl rfl (fun e => hne (congrArg Settings.defmode e)) (fun _ => rfl) (essence_nextEvent _)
  · exact setting_accepted (k := .autoscan) (f := fun v y => { y with autoscan := v }) (effect := id) (key := "AUTOSCAN") h rfl
      hp hc hl rfl (fun e => hne (congrArg Settings.autoscan e)) (fun _ => rfl) (essence_nextEvent _)
  · exact setting_accepted (k := .idlelock) (f := fun v y => { y with idlelock := v }) (effect := clearUnlocked) (key := "IDLELOCK")
      h rfl hp hc hl rfl (fun e => hne (congrArg Settings.idlelock e)) (fun _ => rfl) (essence_nextEvent (clearUnlocked _))
  · exact setting_accepted (k := .plan) (f := fun v y => { y with plan := v }) (effect := id) (key := "PLAN") h rfl
      hp hf hl rfl (fun e => hne (congrArg Settings.plan e)) (fun _ => rfl) (essence_nextEvent _)
  · refine setting_accepted (k := .mount) (f := fun v y => { y with mount := v }) (effect := mountChange) (key := "MOUNT") h rfl
      hp hf hl rfl (fun e => hne (congrArg Settings.mount e)) (fun x => by simp [mountChange]) ?_
    exact (congrArg essence (computation_nextEvent (setImmediate _))).trans (essence_nextEvent _)

/-! ## The mode and the ceilings (O23) -/

/-- Settles O23. -/
theorem requestedModeAndCeilings : Obligations.RequestedModeAndCeilings := by
  intro s snd
  refine ⟨fun w m h hm hc hl => ?_, fun w m h hm hc => ⟨?_, fun heq => ?_, fun hne hused => ?_, fun hne hused => ?_⟩, fun h hc => ?_⟩
  · have hcmd : cmdMode snd [w] (nextEvent s) = yes (setRequested m (nextEvent s))
        (fun y => ["MODE", showMode y.mode.requested] ++ effFields y) := by
      simp only [cmdMode, parseOneMode, hm]
      exact gate_passes hc hl
    exact accepted_verb h rfl hcmd (by simp [setRequested, effFields]) (essence_congr rfl rfl rfl rfl rfl)
  · have hcmd : cmdCeilingTemp snd [w] (nextEvent s) = yes (setTemp (some m) (nextEvent s)) ceilingFields := by
      simp [cmdCeilingTemp, parseOneMode, hm, hc]
    exact accepted_run h rfl (ceiling_words h _ rfl) hcmd rfl (essence_congr rfl rfl rfl rfl rfl)
  · have hcmd : cmdCeilingPersist snd [w] (nextEvent s) = yes (nextEvent s) ceilingFields := by
      simp [cmdCeilingPersist, parseOneMode, hm, hc, heq]
    exact accepted_run h rfl (ceiling_words h _ rfl) hcmd rfl (essence_nextEvent _)
  · have hcmd : cmdCeilingPersist snd [w] (nextEvent s) = yes (ask snd .ceiling (setCeiling m (nextEvent s))) ceilingFields 1 := by
      simp [cmdCeilingPersist, parseOneMode, hm, hc, hne, hused]
    refine accepted_run h rfl (ceiling_words h _ rfl) hcmd rfl ?_
    exact (congrArg essence (ask_nextEvent (setCeiling m s) snd .ceiling)).trans (essence_nextEvent _)
  · exact refused_run h rfl (ceiling_words h _ rfl) (by simp [cmdCeilingPersist, parseOneMode, hm, hc, hne, hused])
  · have hcmd : cmdCeilingCleartemp snd (nextEvent s) = yes (setTemp none (nextEvent s)) ceilingFields := if_neg (by simp [hc])
    exact accepted_run h rfl rfl hcmd rfl (essence_congr rfl rfl rfl rfl rfl)

/-! ## Switches, the mute, the nudges and the limits (O33, O37) -/

theorem maintOut_of {s : State} {snd : Sender} (h : snd.cls = .facility ∨ lockLevel s ≠ .maintenance) : maintOut s snd.cls = false := by
  rcases h with h | h
  · rw [h]
    rfl
  · cases snd.cls <;> simp [maintOut, h]

/-- The state with the nudges moved, before its computation (R114). -/
def nudged (dv dh : Int) (s : State) : State :=
  { s with geo := { s.geo with vAdj := max (-10) (min 10 (s.geo.vAdj + dv)), hAdj := max (-10) (min 10 (s.geo.hAdj + dh)) } }

/-- Settles O37. -/
theorem muteNudgeAndLimits : Obligations.MuteNudgeAndLimits := by
  intro s snd hc
  refine ⟨fun h hm => ?_, fun v k x y h hx hy hl => ?_, fun v k x y h hx hy hf => ⟨fun heq => ?_, fun hne => ?_⟩⟩
  · have hm' : maintOut (nextEvent s) snd.cls = false := maintOut_of (s := nextEvent s) hm
    have hcmd (on : Bool) : cmdMute on snd (nextEvent s) = yes (setUserMute on (nextEvent s))
        (fun x => ["MUTE", showOn on, "CAUSES"] ++ muteWords x) := by
      simp only [cmdMute, hc, hm', Bool.false_eq_true, if_false]
    exact ⟨accepted_run h rfl rfl (hcmd true) rfl (essence_congr rfl rfl rfl rfl rfl),
      accepted_run h rfl rfl (hcmd false) rfl (essence_congr rfl rfl rfl rfl rfl)⟩
  · have hcmd : cmdNudge snd [v, k] (nextEvent s) = yes (nudgeBy x y (nextEvent s)) nudgeFields := by
      simp only [cmdNudge, parseTwoInts, hx, hy]
      exact gate_passes hc hl
    exact accepted_verb h rfl hcmd rfl ((congrArg essence (computation_nextEvent (nudged x y s))).trans (essence_nextEvent _))
  · have hcmd : cmdLimits snd [v, k] (nextEvent s) = yes (computation (nextEvent s)) (fun _ => ["LIMITS", "V", showNat x, "H", showNat y]) := by
      simp [cmdLimits, parseLimits, hx, hy, hf, heq]
    exact accepted_verb h rfl hcmd rfl ((congrArg essence (computation_nextEvent s)).trans (essence_nextEvent _))
  · have hcmd : cmdLimits snd [v, k] (nextEvent s) = yes (computation (ask snd .limits (setLimits x y (nextEvent s))))
        (fun _ => ["LIMITS", "V", showNat x, "H", showNat y]) 1 := by
      simp only [cmdLimits, parseLimits, hx, hy, hf, nextEvent_work, hne, Bool.false_eq_true, if_false]
    refine accepted_verb h rfl hcmd rfl ?_
    exact (congrArg (fun z => essence (computation z)) (ask_nextEvent (setLimits x y s) snd .limits)).trans
      ((congrArg essence (computation_nextEvent _)).trans (essence_nextEvent _))

section Source

variable {s : State} {snd : Sender} {port : VPort} {named : Option Nat}

theorem noSwitch_iff : noSwitch s port named = true ↔
    s.sel.st = .settled ∧ port = s.sel.port ∧ resolved s port (s.sel.settledCls.getD 0) named = s.sel.active := by
  simp [noSwitch, and_assoc]

theorem requestBusy_iff {o : SwOrigin} : requestBusy s o = true ↔
    s.sel.st = .switching ∧ ∃ r, s.sel.req = some r ∧ o.prio < r.origin.prio := by
  unfold requestBusy
  cases s.sel.req <;> simp

/-- The request that a SOURCE makes: of a port, or of the port of a filled place (R99). -/
theorem cmdSource_request {w : String} (hc : below snd .presenter = false) (hl : lockedOut s snd.cls = false)
    (hw : (parsePort w = some port ∧ named = none) ∨
      ∃ n p, parsePort w = none ∧ parseNatIn 1 16 w = some n ∧ profileAt s n = some p ∧ p.port = port ∧ named = some n) :
    cmdSource snd [w] s = requestSource snd port named s := by
  rcases hw with ⟨hport, rfl⟩ | ⟨n, p, hport, hn, hp, rfl, rfl⟩
  · have ht : parseTarget w = some (.port port) := by simp [parseTarget, hport]
    simp only [cmdSource, ht]
    exact gate_passes hc hl
  · have ht : parseTarget w = some (.place n) := by simp [parseTarget, hport, parsePlace, hn]
    simp only [cmdSource, ht]
    refine (gate_passes hc hl).trans ?_
    simp only [switchTo, hp]

theorem requestSource_settled (h : noSwitch s port named = true) : requestSource snd port named s =
    yes (modSel (fun x => { x with named := named }) s)
      (fun x => ["SETTLED", showPort port, "PROFILE", showOpt showNat x.sel.active]) := by
  have hst := (noSwitch_iff.1 h).1
  have hbusy : requestBusy s (requestOrigin snd.cls) = false := by simp [requestBusy, hst]
  simp [requestSource, hbusy, takeRequest, h]

theorem requestSource_switching (h : noSwitch s port named = false) (hbusy : requestBusy s (requestOrigin snd.cls) = false) :
    requestSource snd port named s =
      yes (startSwitch port named (requestOrigin snd.cls) s) (fun _ => ["SWITCHING", showPort port, "REQ", reqWord named]) := by
  simp [requestSource, hbusy, takeRequest, h]

end Source

/-- Settles O33. -/
theorem switchRequested : Obligations.SwitchRequested := by
  intro s snd w h hc hl
  refine ⟨fun n hport hn hnone => ?_, fun port named hw => ?_⟩
  · have ht : parseTarget w = some (.place n) := by simp [parseTarget, hport, parsePlace, hn]
    have hnone' : profileAt (nextEvent s) n = none := hnone
    refine refused_verb h rfl ?_
    simp only [cmdSource, ht]
    refine (gate_passes (s := nextEvent s) hc hl).trans ?_
    simp only [switchTo, hnone']
  have hreq : cmdSource snd [w] (nextEvent s) = requestSource snd port named (nextEvent s) := cmdSource_request hc hl hw
  refine ⟨fun hst hp hr => ?_, fun r hst hr hlt => ?_, fun hsame hbusy => ?_⟩
  · have hno : noSwitch (nextEvent s) port named = true := noSwitch_iff.2 ⟨hst, hp, hr⟩
    exact accepted_verb h rfl (hreq.trans (requestSource_settled hno)) rfl (essence_congr rfl rfl rfl rfl rfl)
  · have hb : requestBusy (nextEvent s) (requestOrigin snd.cls) = true := requestBusy_iff.2 ⟨hst, r, hr, hlt⟩
    exact refused_verb h rfl (hreq.trans (if_pos hb))
  · have hno : noSwitch (nextEvent s) port named = false :=
      eq_false_of_ne_true fun e => (fun ⟨hst, hp, hr⟩ => hsame hst hp hr) (noSwitch_iff.1 e)
    have hb : requestBusy (nextEvent s) (requestOrigin snd.cls) = false :=
      eq_false_of_ne_true fun e => (fun ⟨hst, r, hr, hlt⟩ => Nat.not_le.2 hlt (hbusy r hst hr)) (requestBusy_iff.1 e)
    refine accepted_verb h rfl (hreq.trans (requestSource_switching hno hb)) ?_ (essence_congr rfl rfl rfl rfl rfl)
    cases named <;> rfl

/-! ## Searches through numbered places -/

/-- The lowest filled place whose record passes a test. -/
def firstWhere {α : Type} (ok : Nat → α → Bool) : Nat → List (Option α) → Option Nat
  | _, [] => none
  | n, some a :: l => if ok n a then some n else firstWhere ok (n + 1) l
  | n, none :: l => firstWhere ok (n + 1) l

section FirstWhere

variable {α : Type} {ok : Nat → α → Bool}

theorem place_eq_some {l : List (Option α)} {n : Nat} {a : α} : place l n = some a ↔ ∃ k, n = k + 1 ∧ l[k]? = some (some a) := by
  cases n with
  | zero => simp [place]
  | succ k =>
    cases h : l[k]? with
    | none => simp [place, List.getD, h]
    | some x => simp [place, List.getD, h]

theorem firstWhere_hit {l : List (Option α)} {k i : Nat} {a : α} (ha : l[i]? = some (some a)) (hok : ok (k + i) a = true)
    (hfirst : ∀ j < i, ∀ b, l[j]? = some (some b) → ok (k + j) b = false) : firstWhere ok k l = some (k + i) := by
  induction l generalizing k i with
  | nil => simp at ha
  | cons x l ih =>
    cases i with
    | zero =>
      simp only [List.getElem?_cons_zero, Option.some.injEq] at ha
      subst ha
      exact if_pos hok
    | succ i =>
      have hrest : firstWhere ok (k + 1) l = some (k + (i + 1)) := by
        rw [ih (k := k + 1) (i := i) (by simpa using ha) (by rw [← hok]; congr 1; omega)]
        · congr 1
          omega
        · intro j hj b hb
          have h := hfirst (j + 1) (by omega) b (by simpa using hb)
          rw [← h]
          congr 1
          omega
      cases x with
      | none => exact hrest
      | some y =>
        have hy : ok k y = false := hfirst 0 (by omega) y rfl
        simp [firstWhere, hy, hrest]

theorem firstWhere_miss {l : List (Option α)} {k : Nat} (h : ∀ j b, l[j]? = some (some b) → ok (k + j) b = false) :
    firstWhere ok k l = none := by
  induction l generalizing k with
  | nil => rfl
  | cons x l ih =>
    have hrest : firstWhere ok (k + 1) l = none := ih fun j b hb => by
      rw [← h (j + 1) b (by simpa using hb)]
      congr 1
      omega
    cases x with
    | none => exact hrest
    | some y =>
      have hy : ok k y = false := h 0 y rfl
      simp [firstWhere, hy, hrest]

/-- The first place whose record passes, where there is one. -/
theorem firstWhere_place {l : List (Option α)} {n : Nat} {a : α} (ha : place l n = some a) (hok : ok n a = true)
    (hfirst : ∀ m < n, ∀ b, place l m = some b → ok m b = false) : firstWhere ok 1 l = some n := by
  obtain ⟨k, rfl, hk⟩ := place_eq_some.1 ha
  rw [firstWhere_hit hk (by rw [Nat.add_comm]; exact hok) fun j hj b hb => ?_, Nat.add_comm]
  rw [Nat.add_comm]
  exact hfirst (j + 1) (by omega) b (place_eq_some.2 ⟨j, rfl, hb⟩)

theorem firstWhere_none {l : List (Option α)} (h : ∀ n b, place l n = some b → ok n b = false) : firstWhere ok 1 l = none :=
  firstWhere_miss fun j b hb => by
    rw [Nat.add_comm]
    exact h (j + 1) b (place_eq_some.2 ⟨j, rfl, hb⟩)

end FirstWhere

/-! ## Locks and codes (O47, O48) -/

theorem slotWith_eq (s : State) (w : String) (k : Nat) (l : List (Option Code)) :
    slotWith s w k l = firstWhere (fun _ c => usable s c && c.digits == w) k l := by
  induction l generalizing k with
  | nil => rfl
  | cons x l ih =>
    cases x with
    | none => exact ih (k + 1)
    | some c => simp only [slotWith, firstWhere, ih]

theorem slotHolding_eq (d : String) (except k : Nat) (l : List (Option Code)) :
    slotHolding d except k l = firstWhere (fun n c => decide (c.digits = d ∧ n ≠ except)) k l := by
  induction l generalizing k with
  | nil => rfl
  | cons x l ih =>
    cases x with
    | none => exact ih (k + 1)
    | some c => simp only [slotHolding, firstWhere, ih, decide_eq_true_eq]

section Unlock

variable {s : State} {w : String}

theorem codeMatch_below (h : lockLevel s ≠ .exam) :
    codeMatch s w = ((slotWith s w 1 s.work.codes).map .slot).or (masterMatch s w) := by
  unfold codeMatch
  split
  · contradiction
  · rfl

theorem codeMatch_exam {bk : Booking} (h : lockLevel s = .exam) (hr : runningBooking s = some bk) :
    codeMatch s w = if bk.ownerOnly then ownerMatch s bk.owner w else (ownerMatch s bk.owner w).or (masterMatch s w) := by
  simp only [codeMatch, h, hr]

theorem ownerMatch_some {n : Nat} {c : Code} (hp : place s.work.codes n = some c) (hu : usable s c = true) (hd : c.digits = w) :
    ownerMatch s (some n) w = some (.slot n) := by
  simp [ownerMatch, hp, hu, hd]

theorem ownerMatch_none {o : Option Nat} (h : ∀ n, o = some n → ¬∃ c, place s.work.codes n = some c ∧ usable s c = true ∧ c.digits = w) :
    ownerMatch s o w = none := by
  unfold ownerMatch
  split
  · rename_i n
    split
    · rename_i c hc
      refine if_neg fun hm => h n rfl ⟨c, hc, ?_⟩
      simpa using hm
    · rfl
  · rfl

theorem codeMatch_nextEvent : codeMatch (nextEvent s) w = codeMatch s w := by
  unfold codeMatch
  rw [slotWith_eq, slotWith_eq]
  rfl

theorem tryUnlock_open {u : UnlockedBy} (h0 : s.lock.attempts ≠ 0) (hm : codeMatch s w = some u) :
    tryUnlock w s = yes (unlockBy u s) (fun _ => ["UNLOCKED", "BY", showBy (some u)]) := by
  simp [tryUnlock, h0, hm]

theorem tryUnlock_mismatch (h0 : s.lock.attempts ≠ 0) (hm : codeMatch s w = none) : tryUnlock w s = mismatch s := by
  simp [tryUnlock, h0, hm]

theorem cmdUnlock_try {snd : Sender} (hd : isDigits 4 6 w = true) (hc : below snd .presenter = false) (hl : lockLevel s ≠ .maintenance) :
    cmdUnlock snd [w] s = tryUnlock w s := by
  simp [cmdUnlock, parseUnlock, hd, hc, hl]

end Unlock

/-- Settles O47. -/
theorem locksOpened : Obligations.LocksOpened := by
  intro s snd
  refine ⟨fun w h hd hc hl => ?_, fun w => ⟨fun hl => ⟨fun n hn hfirst => ?_, fun hnone => ?_⟩, fun bk hl hr => ⟨fun n ho hn => ?_, fun hnone => ?_⟩⟩,
    fun h => ⟨fun hc hm => ?_, fun hc hfz => ?_, fun hc hfz => ?_, fun hc hl => ?_⟩⟩
  · have hcmd : cmdUnlock snd [w] (nextEvent s) = tryUnlock w (nextEvent s) := cmdUnlock_try hd hc hl
    refine ⟨fun h0 => refused_verb h rfl (hcmd.trans (if_pos h0)), fun h0 => ⟨fun u hu => ?_, fun hn => ?_⟩⟩
    · exact accepted_verb h rfl (hcmd.trans (tryUnlock_open (s := nextEvent s) h0 (codeMatch_nextEvent.trans hu))) rfl (essence_congr rfl rfl rfl rfl rfl)
    · exact (run_verb h).trans (congrArg (fun a => Host.Outcome.next (answer snd a))
        (hcmd.trans (tryUnlock_mismatch (s := nextEvent s) h0 (codeMatch_nextEvent.trans hn))))
  · obtain ⟨c, hp, hu, hd⟩ := hn
    rw [codeMatch_below hl, slotWith_eq, firstWhere_place hp (by simp [hu, hd]) fun m hm b hb => ?_]
    · rfl
    · exact eq_false_of_ne_true fun e => hfirst m hm ⟨b, hb, by simpa using e⟩
  · rw [codeMatch_below hl, slotWith_eq, firstWhere_none fun n b hb => eq_false_of_ne_true fun e => hnone n ⟨b, hb, by simpa using e⟩]
    rfl
  · obtain ⟨c, hp, hu, hd⟩ := hn
    rw [codeMatch_exam hl hr, ho, ownerMatch_some hp hu hd]
    split <;> rfl
  · rw [codeMatch_exam hl hr, ownerMatch_none hnone]
    cases bk.ownerOnly <;> simp [masterMatch]
  · have hm' : maintOut (nextEvent s) snd.cls = false := maintOut_of (s := nextEvent s) hm
    have hcmd : cmdRelock snd [] (nextEvent s) = yes (clearUnlocked (nextEvent s))
        (fun x => ["LEVEL", showLevel (lockLevel x), "UNLOCKED", "NO"]) := by
      simp [cmdRelock, hc, hm', noArgs]
    exact accepted_verb h rfl hcmd rfl (essence_congr rfl rfl rfl rfl rfl)
  · have hfz' : ¬(nextEvent s).lock.frozen = true := by simp [hfz]
    have hcmd : cmdAttempts snd [] (nextEvent s) = yes (restoreAttempts (nextEvent s)) (fun _ => ["ATTEMPTS", "5"]) :=
      (gate_passes hc (lockedOut_facility hc)).trans (if_neg hfz')
    exact accepted_verb h rfl hcmd rfl (essence_congr rfl rfl rfl rfl rfl)
  · have hfz' : (nextEvent s).lock.frozen = true := hfz
    exact refused_verb h rfl ((gate_passes hc (lockedOut_facility hc)).trans (if_pos hfz'))
  · have hcmd : cmdFreeze snd [] (nextEvent s) = yes { nextEvent s with lock := { s.lock with frozen := true } } (fun _ => ["FROZEN"]) :=
      gate_passes hc hl
    exact accepted_verb h rfl hcmd rfl (essence_congr rfl rfl rfl rfl rfl)

section Codes

variable {s : State} {snd : Sender} {n : Nat} {c : Code}

/-- The search for a slot that holds given digits (R162, R164). -/
theorem slotHolding_some {d : String} {except m : Nat} (hne : m ≠ except) (hm : ∃ k, place s.work.codes m = some k ∧ k.digits = d)
    (hfirst : ∀ j < m, j ≠ except → ¬∃ k, place s.work.codes j = some k ∧ k.digits = d) :
    slotHolding d except 1 s.work.codes = some m := by
  obtain ⟨k, hk, hd⟩ := hm
  rw [slotHolding_eq, firstWhere_place hk (by simp [hne, hd])]
  intro j hj b hb
  simp only [decide_eq_false_iff_not, not_and, not_not]
  intro hbd
  by_contra hje
  exact hfirst j hj hje ⟨b, hb, hbd⟩

theorem slotHolding_none {d : String} {except : Nat} (h : ∀ m, m ≠ except → ¬∃ k, place s.work.codes m = some k ∧ k.digits = d) :
    slotHolding d except 1 s.work.codes = none := by
  rw [slotHolding_eq, firstWhere_none]
  intro j b hb
  simp only [decide_eq_false_iff_not, not_and, not_not]
  intro hbd
  by_contra hje
  exact h j hje ⟨b, hb, hbd⟩

theorem parsePlace_pos {top : Nat} {w : String} {n : Nat} (h : parseNatIn 1 top w = some n) : ∃ k, n = k + 1 := by
  unfold parseNatIn at h
  split at h
  · split at h
    · cases h
      exact ⟨n - 1, by omega⟩
    · cases h
  · cases h

theorem parseCode_pos {args : List String} (h : parseCode args = some (n, c)) : ∃ k, n = k + 1 := by
  unfold parseCode at h
  split at h
  · split at h
    · rename_i hk _
      split at h
      · cases h
        exact parsePlace_pos hk
      · cases h
    · cases h
  · cases h

theorem setPlace_eq {α : Type} (l : List (Option α)) (v : Option α) (hn : ∃ k, n = k + 1) : setPlace l n v = l.set (n - 1) v := by
  obtain ⟨k, rfl⟩ := hn
  rfl

theorem ownerNamed_false (h : ∀ m bk, place s.work.bookings m = some bk → bk.owner ≠ some n) : ownerNamed s n = false := by
  unfold ownerNamed
  rw [List.any_eq_false]
  intro b hb
  obtain ⟨i, hi⟩ := List.mem_iff_getElem?.1 hb
  cases b with
  | none => simp
  | some bk => simpa using h (i + 1) bk (place_eq_some.2 ⟨i, rfl, hi⟩)

/-- A code's write is asked for from the state in which it is stored. -/
theorem essence_storedCode (v : Option Code) (hn : ∃ k, n = k + 1) :
    essence (ask snd (.code n) (putCode n v (nextEvent s))) =
      essence (ask snd (.code n) { s with work := { s.work with codes := s.work.codes.set (n - 1) v } }) := by
  rw [← setPlace_eq _ _ hn]
  exact (congrArg essence (ask_nextEvent (putCode n v s) snd (.code n))).trans (essence_nextEvent _)

end Codes

/-- Settles O48. -/
theorem codesStored : Obligations.CodesStored := by
  intro s snd args h hc
  have hl : lockedOut (nextEvent s) snd.cls = false := lockedOut_facility hc
  refine ⟨fun n c hp => ?_, fun w n ha hn => ?_, fun old new hp => ?_⟩
  · have hcmd : cmdSetcode snd args (nextEvent s) = storeCode snd n c (nextEvent s) := by
      simp only [cmdSetcode, hp]
      exact gate_passes hc hl
    refine ⟨fun hfz => refused_verb h rfl (hcmd.trans (if_pos hfz)), fun hfz => ⟨fun m hm hholds hfirst => ?_, fun hfree => ⟨fun hmaster => ?_, fun hmaster => ?_⟩⟩⟩
    · have hslot : slotHolding c.digits n 1 (nextEvent s).work.codes = some m := slotHolding_some (s := s) hm hholds hfirst
      refine (run_verb h).trans (congrArg (fun a => Host.Outcome.next (answer snd a)) (hcmd.trans ?_))
      simp only [storeCode, nextEvent_lock, hfz, hslot]
      rfl
    · have hslot : slotHolding c.digits n 1 s.work.codes = none := slotHolding_none hfree
      refine (run_verb h).trans (congrArg (fun a => Host.Outcome.next (answer snd a)) (hcmd.trans ?_))
      simp [storeCode, hfz, hslot, hmaster, noWith]
    · have hslot : slotHolding c.digits n 1 s.work.codes = none := slotHolding_none hfree
      have hstore : storeCode snd n c (nextEvent s) = yes (ask snd (.code n) (putCode n (some c) (nextEvent s))) (codeFields n c) 1 := by
        simp [storeCode, hfz, hslot, hmaster]
      exact accepted_verb h rfl (hcmd.trans hstore) rfl (essence_storedCode (some c) (parseCode_pos hp))
  · subst ha
    have hcmd : cmdDelcode snd [w] (nextEvent s) = deleteCode snd n (nextEvent s) := by
      simp only [cmdDelcode, parseOnePlace, parsePlace, hn]
      exact gate_passes hc hl
    refine ⟨fun hfz => refused_verb h rfl (hcmd.trans (if_pos hfz)), fun hfz hfilled howner => ?_⟩
    have hfilled' : (place (nextEvent s).work.codes n).isNone = false := by
      rw [nextEvent_work]
      cases hx : place s.work.codes n with
      | none => exact absurd hx hfilled
      | some c => rfl
    have howner' : ownerNamed (nextEvent s) n = false := ownerNamed_false (s := s) howner
    have hstore : deleteCode snd n (nextEvent s) = yes (ask snd (.code n) (putCode n none (nextEvent s)))
        (fun _ => ["CODE", showNat n, "EMPTY"]) 1 := by
      simp only [deleteCode, nextEvent_lock, hfz, hfilled', howner', Bool.false_eq_true, if_false]
    exact accepted_verb h rfl (hcmd.trans hstore) rfl (essence_storedCode none (parsePlace_pos hn))
  · have hcmd : cmdSetmaster snd args (nextEvent s) = storeMaster snd old new (nextEvent s) := by
      simp only [cmdSetmaster, hp]
      exact gate_passes hc hl
    refine ⟨fun hfz => refused_verb h rfl (hcmd.trans (if_pos hfz)), fun hfz h0 => refused_verb h rfl (hcmd.trans ?_), fun hfz h0 hm => ?_,
      fun hfz h0 hm => ⟨fun d m hd hholds hfirst => ?_, fun hfree => ?_⟩⟩
    · simp [storeMaster, hfz, h0]
    · refine (run_verb h).trans (congrArg (fun a => Host.Outcome.next (answer snd a)) (hcmd.trans ?_))
      simp [storeMaster, hfz, h0, hm, mismatch, spendAttempt, no]
    · have hm0 : m ≠ 0 := by
        rintro rfl
        obtain ⟨k, hk, -⟩ := hholds
        cases hk
      have hclash : masterClash (nextEvent s) new = some m := by
        rw [hd]
        exact slotHolding_some (s := s) hm0 hholds fun j hj _ => hfirst j hj
      refine (run_verb h).trans (congrArg (fun a => Host.Outcome.next (answer snd a)) (hcmd.trans ?_))
      simp [storeMaster, hfz, h0, hm, hclash, noWith]
    · have hclash : masterClash (nextEvent s) new = none := by
        cases new with
        | none => rfl
        | some d => exact slotHolding_none (s := s) fun m _ => hfree d m rfl
      have hstore : storeMaster snd old new (nextEvent s) = yes (ask snd .master (putMaster new (nextEvent s)))
          (fun _ => ["MASTER", if new.isSome then "SET" else "EMPTY"]) 1 := by
        simp [storeMaster, hfz, h0, hm, hclash]
      refine accepted_verb h rfl (hcmd.trans hstore) (by cases new <;> rfl) ?_
      exact (congrArg essence (ask_nextEvent (putMaster new s) snd .master)).trans (essence_nextEvent _)

end Sys2Proof.Accepted

/-! PROOFS. The commands of the lamps: LAMPON, LAMPOFF and the record commands (O14, O15, O21, O22). -/

namespace Sys2Proof.LampOrders

open Sys2Proof Sys2Proof.Machine Sys2Proof.Upkeep Sys2Proof.Steps Sys2Proof.Lamps Sys2Proof.Counts Sys2Proof.Picture Sys2Proof.Refusals
  Sys2Proof.Accepted

set_option Elab.async false

/-! ## The notices that settling places -/

section Notices

variable {s x z : State} {l : List Notice}

theorem faultCond_settle (x : State) (f : FaultId) : faultCond (settle x) f = faultCond x f := by
  cases f <;> simp [faultCond, lampRec, stageOf, bay_settle_st]

theorem follow_rest (x : State) : (follow x).faults = x.faults ∧ (follow x).notices = x.notices := by simp [follow]

/-- After settling an entry is Active exactly where its condition holds. -/
theorem settle_active_iff (x : State) (f : FaultId) : (settle x).faults.get f = .active ↔ faultCond x f = true := by
  rw [← faultCond_settle, settle, faultCond_syncFaults]
  simp only [syncFaults, movedFaults, FaultTable.get_make]
  exact move_active_iff ..

/-- Settling places the FAULT notices of the entries that rise, after the event's own (R178). -/
theorem placed_settle (hf : x.faults = s.faults) (hn : x.notices = l.foldl (fun q n => q.put n) s.notices) : placed s (settle x) l := by
  have hrise : faultRises (follow x) = fun f => s.faults.get f != .active && (settle x).faults.get f == .active := by
    funext f
    have hcond : faultCond (follow x) f = true ↔ (settle x).faults.get f = .active := by
      have hsame : faultCond (settle x) f = faultCond (follow x) f := faultCond_syncFaults (follow x) f
      rw [settle_active_iff, ← hsame, faultCond_settle]
    rw [faultRises, (follow_rest x).1, hf]
    cases hc : faultCond (follow x) f <;> cases hs : s.faults.get f <;> simp_all
  show (syncFaults (follow x)).notices = _
  rw [syncFaults, hrise, (follow_rest x).2, hn]
  rfl

/-- A second settling that finds every condition as it stands places nothing. -/
theorem placed_settle_again (hz : placed s z l) (hsync : ∀ f, z.faults.get f = .active ↔ faultCond z f = true)
    (hcond : ∀ f, faultCond x f = faultCond z f) (hf : x.faults = z.faults) (hn : x.notices = z.notices) : placed s (settle x) l := by
  have hsame (f : FaultId) : (settle x).faults.get f = .active ↔ z.faults.get f = .active := by
    rw [settle_active_iff, hcond, ← hsync]
  have hnone : placed z (settle x) [] := placed_settle hf hn
  have hfilter : (FaultId.all.filter fun f => z.faults.get f != .active && (settle x).faults.get f == .active) = [] := by
    rw [List.filter_eq_nil_iff]
    intro f _
    have := hsame f
    by_cases h : z.faults.get f = .active <;> simp [h, this]
  have hstands : (settle x).notices = z.notices := by
    rw [hnone, risen, hfilter]
    rfl
  have hrisen (q : NoticeQ) : risen s (settle x) q = risen s z q := by
    have hpred : (fun f => s.faults.get f != .active && (settle x).faults.get f == .active) =
        fun f => s.faults.get f != .active && z.faults.get f == .active := by
      funext f
      rw [Bool.eq_iff_iff]
      simp [hsame f]
    rw [risen, hpred, risen]
  rw [placed, hstands, hz, hrisen]

end Notices

/-! ## LAMPOFF (O15) -/

theorem lampsOff_rest (snd : Sender) (s : State) :
    (lampsOff snd s).lamp = (drop (originOf snd.cls) s).lamp ∧ (lampsOff snd s).work = s.work ∧
      (lampsOff snd s).faults = s.faults ∧ (lampsOff snd s).notices = s.notices := by
  unfold lampsOff
  dsimp only
  split <;> simp [clearUnlocked]

theorem lampsOff_lock (snd : Sender) (s : State) :
    (s.sched.active = none → (lampsOff snd s).lock = { s.lock with unlocked := false, unlockedBy := none }) ∧
      (s.sched.active ≠ none → (lampsOff snd s).lock = s.lock) := by
  unfold lampsOff
  cases h : s.sched.active <;> simp [clearUnlocked]

theorem lampsOff_beside (snd : Sender) (s : State) : sameBesideLamps s { lampsOff snd s with lock := s.lock } := by
  unfold lampsOff
  dsimp only
  split
  · exact sameBesideLamps_of_blocks (h1 := by simp [clearUnlocked]) (h2 := by simp [clearUnlocked]) (h3 := by simp [clearUnlocked])
      (h4 := by simp [clearUnlocked]) (h5 := by simp [clearUnlocked]) (h6 := by simp [clearUnlocked]) (h7 := by simp [clearUnlocked])
      (h10 := by simp [clearUnlocked]) (h11 := by simp [clearUnlocked]) (h13 := by simp [clearUnlocked])
      (h15 := by simp [clearUnlocked]) (h16 := by simp [clearUnlocked]) (h17 := by simp [clearUnlocked])
      (h18 := by simp [clearUnlocked])
  · exact sameBesideLamps_of_blocks

theorem sameBesideLamps_settle_lock {s y : State} (h : sameBesideLamps s { y with lock := s.lock }) :
    sameBesideLamps s { settle y with lock := s.lock } := by
  have hpins : ({ settle y with lock := s.lock } : State) = { settle y with pins := y.pins, lock := s.lock } := by
    rw [← settle_pins y]
  rw [hpins]
  exact sameBesideLamps_settle_with h

theorem sameBesideLamps_of_nextEvent {s t : State} (h : sameBesideLamps (nextEvent s) t) : sameBesideLamps s t :=
  Eq.trans h (essence_nextEvent s)

/-- Settles O15: a Lit bay goes out as the wanted set becomes empty, and no other bay moves. -/
theorem lampoffDrops : Obligations.LampoffDrops := by
  intro s snd h hc hl
  have hcmd : cmdLampoff snd [] (nextEvent s) = _ := gate_passes (s := nextEvent s) hc hl
  obtain ⟨hlamp, hwork, hfaults, hnotices⟩ := lampsOff_rest snd (nextEvent s)
  obtain ⟨hlockNone, hlockSome⟩ := lampsOff_lock snd (nextEvent s)
  rw [nextEvent_sched, nextEvent_lock] at hlockNone hlockSome
  rw [drop_nextEvent, nextEvent_lamp] at hlamp
  have hbay (b : Bay) : bay (lampsOff snd (nextEvent s)) b = bay (drop (originOf snd.cls) s) b := by simp only [bay, hlamp]
  refine ⟨_, (run_verb h).trans (congrArg (fun a => Host.Outcome.next (answer snd a)) hcmd), ?_, fun h0 => ?_, fun h0 => ?_,
    fun ha => ?_, fun ha => ?_, placed_settle hfaults hnotices, (settle_work _).trans hwork, ?_⟩
  · rw [settle_count, hlamp]
    exact (setDemand_rest ..).1
  · rw [settle_origin, hlamp, drop_none h0]
  · obtain ⟨-, horigin, hwanted, hbays⟩ := drop_empties (o := originOf snd.cls) h0
    refine ⟨by rw [settle_origin, hlamp, horigin], by rw [settle_wanted, hlamp, hwanted], fun b => ⟨fun hlit => ?_, fun hlit => ?_⟩⟩
    · obtain ⟨u, hu⟩ := bay_settle (lampsOff snd (nextEvent s)) b
      rw [hu, hbay, hbays, if_pos hlit]
      exact ⟨rfl, rfl, rfl⟩
    · rw [bay_settle_st, bay_settle_timer, hbay, hbays, if_neg hlit]
      exact ⟨rfl, rfl⟩
  · exact (settle_lock _).trans (hlockNone ha)
  · exact (settle_lock _).trans (hlockSome ha)
  · exact sameBesideLamps_settle_lock (sameBesideLamps_of_nextEvent (lampsOff_beside snd (nextEvent s)))

/-! ## LAMPON (O14) -/

theorem raise_same {o : DemandOrigin} {n : Nat} {s : State} (h : n ≤ s.lamp.count) : raise o n s = s :=
  if_pos (Nat.max_eq_left h)

theorem raise_more {o : DemandOrigin} {n : Nat} {s : State} (h : s.lamp.count < n) :
    raise o n s = formWanted { s with lamp := { s.lamp with count := n, origin := o } } := by
  rw [raise, setDemand, Nat.max_eq_right (Nat.le_of_lt h), if_neg (Nat.ne_of_gt h)]

theorem grantIgniter_lamp (s : State) : ∃ l, grantIgniter s = { s with lamp := l } ∧ l.count = s.lamp.count ∧
    l.origin = s.lamp.origin ∧ l.wanted = s.lamp.wanted := by
  unfold grantIgniter
  split <;> exact ⟨_, rfl, rfl, rfl, rfl⟩

/-- A grant moves no fault's condition: the bay it takes was Dark. -/
theorem faultCond_grantIgniter {s : State} (hg : (grantee s).isSome = true) (f : FaultId) :
    faultCond (grantIgniter s) f = faultCond s f := by
  obtain ⟨b, hb⟩ := Option.isSome_iff_exists.1 hg
  have hdark : (bay s b).st = .dark := by
    have h := (grantee_some hb).2
    simp only [grantable, strikeReady, Bool.and_eq_true, beq_iff_eq] at h
    obtain ⟨⟨⟨⟨⟨⟨⟨⟨⟨⟨-, hst⟩, -⟩, -⟩, -⟩, -⟩, -⟩, -⟩, -⟩, -⟩, -⟩ := h
    exact hst
  have hbay (c : Bay) : bay (grantIgniter s) c = if c = b then { bay s c with
      st := .striking, timer := some (s.uptime + strikeWindow), strikes := (bay s c).strikes ++ [s.uptime], doorFlag := .clear,
      stamp := none } else bay s c := by
    have hgrant : grantIgniter s = enterStriking b s := by simp only [grantIgniter, hb]
    rw [hgrant, enterStriking, bay_modBay]
    rfl
  cases f with
  | lampFailed c =>
    simp only [faultCond, hbay]
    split
    · subst_vars
      simp [hdark]
    · rfl
  | lampLost c =>
    simp only [faultCond, hbay]
    split <;> rfl
  | doorOpen c =>
    simp only [faultCond, hbay]
    split <;> rfl
  | _ => simp [faultCond, lampRec, stageOf]

/-- The igniter's grant as part of a LAMPON: nothing but the Lamp Controller moves, and the demand and its bays stand. -/
theorem fuGrant_settled (y : State) :
    (fuGrant (settle y)).lamp.count = y.lamp.count ∧ (fuGrant (settle y)).lamp.origin = y.lamp.origin ∧
      (fuGrant (settle y)).lamp.wanted = y.lamp.wanted ∧ (fuGrant (settle y)).work = y.work ∧
      (fuGrant (settle y)).uptime = y.uptime := by
  unfold fuGrant ifDue
  split
  · obtain ⟨l, hl, hcount, horigin, hwanted⟩ := grantIgniter_lamp (nextEvent (settle y))
    simp [happen, hl, hcount, horigin, hwanted]
  · simp

theorem fuGrant_beside {s y : State} (h : sameBesideLamps s y) : sameBesideLamps s (fuGrant y) := by
  unfold fuGrant ifDue
  split
  · obtain ⟨l, hl, -⟩ := grantIgniter_lamp (nextEvent y)
    rw [happen, hl]
    refine sameBesideLamps_settle (Eq.trans ?_ h)
    exact essence_congr rfl rfl rfl rfl rfl
  · exact h

theorem placed_fuGrant {s y : State} {l : List Notice} (h : placed s (settle y) l) : placed s (settle (fuGrant (settle y))) l := by
  have hsync (f : FaultId) : (settle y).faults.get f = .active ↔ faultCond (settle y) f = true := by
    rw [settle_active_iff, faultCond_settle]
  generalize settle y = z at h hsync
  have hstep (u : State) (hu : ∀ f, faultCond u f = faultCond z f) (hf : u.faults = z.faults) (hn : u.notices = z.notices) :
      placed s (settle u) l ∧ ∀ f, (settle u).faults.get f = .active ↔ faultCond (settle u) f = true :=
    ⟨placed_settle_again h hsync hu hf hn, fun f => by rw [settle_active_iff, faultCond_settle]⟩
  by_cases hg : (grantee z).isSome = true
  · obtain ⟨x, hx, -⟩ := grantIgniter_lamp (nextEvent z)
    have hcond (f : FaultId) : faultCond (grantIgniter (nextEvent z)) f = faultCond z f :=
      (faultCond_grantIgniter (s := nextEvent z) hg f).trans (by cases f <;> rfl)
    rw [fuGrant, ifDue_of_due (due := fun s => (grantee s).isSome) hg, happen]
    obtain ⟨hplaced, hsync'⟩ := hstep _ hcond (by rw [hx]; rfl) (by rw [hx]; rfl)
    exact placed_settle_again hplaced hsync' (fun _ => rfl) rfl rfl
  · rw [fuGrant, ifDue, if_neg hg]
    exact (hstep z (fun _ => rfl) rfl rfl).1

theorem raise_beside (o : DemandOrigin) (n : Nat) (s : State) : sameBesideLamps s (raise o n s) := sameBesideLamps_of_blocks

/-- The wanted set that a raise leaves. -/
theorem raise_right {o : DemandOrigin} {n : Nat} {s : State} (h : s.lamp.count < n) :
    rightChoice { s with lamp := { s.lamp with count := n } } (raise o n s).lamp.wanted := by
  rw [raise_more h, formWanted, (putWanted_rest ..).2.2.1]
  exact (rightChoice_congr rfl (fun _ => rfl) (fun _ => rfl) (fun _ => rfl) (fun _ => rfl) fun _ => rfl).1 (chosenSet_right _)

/-- The HOLD and WAIT fields of a bay of the LAMPON reply, in the rule's own numbers. -/
theorem holdFields_eq (t : State) (b : Bay) : holdFields t b =
    if t.lamp.wanted.get b = true ∧ (bay t b).st.inUse = false then
      (match (bay t b).st with
        | .cooling => ["HOLD", showBay b, showNat (((bay t b).timer.getD t.uptime + 60000 - t.uptime) / 1000)]
        | .rest => ["HOLD", showBay b, showNat (((bay t b).timer.getD t.uptime - t.uptime) / 1000)]
        | _ => []) ++
      (match (bay t b).strikes with
        | x :: l => if 3 ≤ l.length then ["WAIT", showBay b, showNat ((x + 3600000 - t.uptime) / 1000)] else []
        | [] => [])
    else [] := by
  unfold holdFields
  refine if_congr (by simp) (congrArg₂ (· ++ ·) ?_ ?_) rfl
  · cases h : (bay t b).st <;> simp [holdOf, h, secondsTo, darkEntry, restTime, second]
  · rcases h : (bay t b).strikes with _ | ⟨x, l⟩
    · simp [waitOf, h]
    · by_cases hl : 3 ≤ l.length <;> simp [waitOf, h, hl, secondsTo, hour, second]

theorem cmdLampon_passes {snd : Sender} {s : State} (hc : below snd .presenter = false) (hm : lockLevel s ≠ .maintenance)
    (hl : lockedOut s snd.cls = false) (hs : s.heat.level ≠ .shutdown) (he : (eligible s .bayA || eligible s .bayB) = true) :
    cmdLampon snd [] s = lampsOn snd s := by
  rw [cmdLampon, if_neg (by simp [hc]), if_neg (by simp [noArgs]), if_neg hm, if_neg (by simp [hl]), if_neg hs, he,
    if_neg (by simp)]

/-- Settles O14: the raise forms the wanted set, and the grant that may follow moves nothing the statement names. -/
theorem lamponRaises : Obligations.LamponRaises := by
  intro s snd h hc hm hl hs he left held
  have hcmd : cmdLampon snd [] (nextEvent s) = lampsOn snd (nextEvent s) := cmdLampon_passes hc hm hl hs he
  obtain ⟨y, hy⟩ : ∃ y, y = raise (originOf snd.cls) (lamponCount s) (nextEvent s) := ⟨_, rfl⟩
  have hlampsOn : lampsOn snd (nextEvent s) = yes (fuGrant (settle y)) lamponFields := by rw [hy]; rfl
  obtain ⟨hcount, horigin, hwanted, hwork, huptime⟩ := fuGrant_settled y
  have hbeside : sameBesideLamps s y := by
    rw [hy]
    exact sameBesideLamps_of_nextEvent (raise_beside ..)
  have hplaced : placed s (settle y) [] := placed_settle (by rw [hy]; simp) (by rw [hy]; simp)
  have hup : (settle (fuGrant (settle y))).uptime = s.uptime := by rw [settle_uptime, huptime, hy]; simp
  have hheld (b : Bay) : holdFields (settle (fuGrant (settle y))) b = held (settle (fuGrant (settle y))) b := by
    have e := holdFields_eq (settle (fuGrant (settle y))) b
    rw [hup] at e
    exact e
  refine ⟨settle (fuGrant (settle y)), ?_, ?_, ?_, fun hle => ?_, fun hlt => ?_, placed_fuGrant hplaced, ?_,
    sameBesideLamps_settle (fuGrant_beside (sameBesideLamps_settle hbeside))⟩
  · rw [← hheld, ← hheld]
    exact (run_verb h).trans (congrArg (fun a => Host.Outcome.next (answer snd a)) (hcmd.trans hlampsOn))
  · rw [settle_count, hcount, hy]
    exact (setDemand_rest ..).1
  · rw [settle_origin, horigin, hy]
    split <;> rename_i hle
    · rw [raise_same (s := nextEvent s) hle]
      rfl
    · rw [raise_more (s := nextEvent s) (Nat.lt_of_not_le hle), formWanted, (putWanted_rest ..).2.1]
  · rw [settle_wanted, hwanted, hy, raise_same (s := nextEvent s) hle]
    rfl
  · rw [settle_wanted, hwanted, hy]
    exact raise_right (s := nextEvent s) hlt
  · rw [settle_work, hwork, hy]
    simp

/-! ## The record commands (O21, O22) -/

section Records

variable {s x : State} {snd : Sender} {b : Bay} {k : RecKey}

/-- A write that commands have asked for waits, or is the one that starts. -/
theorem startWrite_asks {r : WriteReq} (hr : r ∈ x.store.cmdQ) (hk : r.key = k)
    (hw : snd.broadcast = false → snd.port ∈ r.waiters) : writeAsked snd k (startWrite x) := by
  unfold startWrite
  split
  · exact .inr ⟨r, hr, hk, hw⟩
  · split
    · rename_i r' rs hq
      rw [hq, List.mem_cons] at hr
      unfold writeAsked
      rw [beginWrite_store]
      rcases hr with rfl | hr
      · exact .inl ⟨_, rfl, hk, hw⟩
      · exact .inr ⟨r, hr, hk, hw⟩
    · rename_i hq
      rw [hq] at hr
      exact absurd hr List.not_mem_nil

/-- A command that asks for a write has it in progress or waiting, with its reply among those that wait for it (R184). -/
theorem ask_asked (snd : Sender) (k : RecKey) (x : State) : writeAsked snd k (ask snd k x) := by
  have hport : snd.broadcast = false → snd.port ∈ (if snd.broadcast then [] else [snd.port]) := by
    intro h
    simp [h]
  unfold ask askFor
  split
  · rename_i hwaits
    obtain ⟨r, hr, hrk⟩ := List.any_eq_true.1 hwaits
    rw [beq_iff_eq] at hrk
    refine .inr ⟨{ r with waiters := r.waiters ++ if snd.broadcast then [] else [snd.port] }, List.mem_map.2 ⟨r, hr, ?_⟩, hrk,
      fun h => List.mem_append_right _ (hport h)⟩
    simp [hrk]
  · exact startWrite_asks (r := ⟨k, if snd.broadcast then [] else [snd.port]⟩) (by simp) rfl hport

theorem writeAsked_settle (h : writeAsked snd k x) : writeAsked snd k (settle x) := by
  unfold writeAsked at h ⊢
  rw [settle_store]
  exact h

theorem parseBay_showBay (b : Bay) : parseBay (showBay b) = some b := by cases b <;> decide

theorem bay_fillShortfall {c : Bay} (h : (bay x c).st ≠ .lit) : bay (fillShortfall x) c = bay x c := by
  unfold fillShortfall formWanted
  split
  · rfl
  · rw [bay_putWanted, if_neg fun h' => h h'.1]

/-- A lamp's record goes into its place, and no other record moves. -/
theorem lampRec_of_set {r : Option LampRecord} (h : x.work.lamps = s.work.lamps.set b r) :
    lampRec x b = r ∧ lampRec x b.other = lampRec s b.other := by
  unfold lampRec
  rw [h]
  cases b <;> exact ⟨rfl, rfl⟩

theorem bayMode_resetConditioning (b : Bay) (s : State) :
    bayMode (resetConditioning b s) b = { BayMode.fresh with effective := (bayMode s b).effective } := by
  rw [resetConditioning, bayMode_modBayMode, if_pos rfl]

theorem mode_conditioning (h : x.mode = (resetConditioning b s).mode) :
    (bayMode (settle x) b).ecoSec = 0 ∧ (bayMode (settle x) b).ecoMin = 0 ∧ (bayMode (settle x) b).debt = 0 ∧
      (bayMode (settle x) b).credit = 0 := by
  have hx : bayMode x b = { BayMode.fresh with effective := (bayMode s b).effective } := by
    rw [← bayMode_resetConditioning]
    simp only [bayMode, h]
  rw [bayMode_settle]
  refine ⟨congrArg BayMode.ecoSec hx, congrArg BayMode.ecoMin hx, congrArg BayMode.debt hx, congrArg BayMode.credit hx⟩

theorem sameBesideLamps_settle_mode (h : sameBesideLamps s { x with mode := s.mode }) :
    sameBesideLamps s { settle x with mode := s.mode } := by
  unfold sameBesideLamps at h ⊢
  refine Eq.trans ?_ h
  refine essence_ext ?_ ?_ ?_ ?_ ?_ ?_ ?_ rfl rfl ?_ ?_ ?_ ?_ rfl rfl (settle_heat_bare x) (settle_sched_bare x) ?_ <;> try simp
  refine (syncScan_sel_again ?_ ?_ ?_ ?_ ?_).trans (syncScan_sel_congr (s := { x with
    mode := s.mode, lamp := s.lamp, wear := s.wear, store := s.store, work := { x.work with lamps := s.work.lamps } })
    (t := x) rfl rfl rfl rfl rfl) <;>
    simp [settle_sel]

theorem sameBesideLamps_mode_of_nextEvent {t : State} (h : sameBesideLamps (nextEvent s) { t with mode := s.mode }) :
    sameBesideLamps s { t with mode := s.mode } :=
  sameBesideLamps_of_nextEvent h

/-- The state that INSTALL or REPLACE leaves before settling; `old` is the stage of the lamp that was there. -/
def fitted (snd : Sender) (b : Bay) (old : Option Stage) (i : String) (n : Nat) (s : State) : State :=
  goodNotice b old (newRecord snd b i n s)

/-- The LIFE notice of a new lamp, where a lamp of another stage was there (R33, R42). -/
def goodNotices (b : Bay) (old : Option Stage) : List Notice :=
  if old = some .good ∨ old = none then [] else [⟨.life, .bay b, ["GOOD"]⟩]

theorem goodNotice_eq (b : Bay) (old : Option Stage) (s : State) :
    goodNotice b old s = { s with notices := (goodNotices b old).foldl (fun q n => q.put n) s.notices } := by
  unfold goodNotice goodNotices
  split <;> rfl

theorem bay_fitLamp (b : Bay) (r : LampRecord) (s : State) : bay (fitLamp b r s) b = { bay s b with
    st := .dark, timer := none, doorFlag := .clear, lastLoss := none, lossBar := none, causeMark := false } := by
  have h : bay (enterDark b (modBay b (fun y => { y with lastLoss := none, lossBar := none, causeMark := false })
      (resetConditioning b (setLampRec b (some r) s)))) b = { bay s b with
        st := .dark, timer := none, doorFlag := .clear, lastLoss := none, lossBar := none, causeMark := false } := by
    cases b <;> rfl
  rw [fitLamp, bay_fillShortfall (by rw [h]; exact BaySt.noConfusion), h]

theorem fitted_rest (snd : Sender) (b : Bay) (old : Option Stage) (i : String) (n : Nat) (s : State) :
    bay (fitted snd b old i n s) b = bay (fitLamp b (newLamp s i n) s) b ∧
      (fitted snd b old i n s).work.lamps = s.work.lamps.set b (some (newLamp s i n)) ∧
      (fitted snd b old i n s).faults = s.faults ∧ (fitted snd b old i n s).mode = (resetConditioning b s).mode ∧
      (fitted snd b old i n s).notices =
        (⟨.lamp, .bay b, ["DARK"]⟩ :: goodNotices b old).foldl (fun q n => q.put n) s.notices := by
  simp only [fitted, goodNotice_eq, newRecord]
  refine ⟨?_, ?_, ?_, ?_, ?_⟩
  · simp [bay]
  · simp [fitLamp, enterDark, resetConditioning]
  · simp [fitLamp, enterDark, resetConditioning]
  · simp [fitLamp, enterDark, resetConditioning]
  · simp [fitLamp, enterDark, resetConditioning, showBaySt]

theorem fitted_beside (snd : Sender) (b : Bay) (old : Option Stage) (i : String) (n : Nat) (s : State) :
    sameBesideLamps s { fitted snd b old i n s with mode := s.mode } := by
  simp only [fitted, goodNotice_eq, newRecord]
  exact sameBesideLamps_of_blocks (h1 := by simp [fitLamp, enterDark, resetConditioning])
    (h2 := by simp [fitLamp, enterDark, resetConditioning]) (h3 := by simp [fitLamp, enterDark, resetConditioning])
    (h4 := by simp [fitLamp, enterDark, resetConditioning]) (h5 := by simp [fitLamp, enterDark, resetConditioning])
    (h6 := by simp [fitLamp, enterDark, resetConditioning]) (h7 := by simp [fitLamp, enterDark, resetConditioning])
    (h10 := by simp [fitLamp, enterDark, resetConditioning]) (h11 := by simp [fitLamp, enterDark, resetConditioning])
    (h12 := by simp [fitLamp, enterDark, resetConditioning]) (h13 := by simp [fitLamp, enterDark, resetConditioning])
    (h16 := by simp [fitLamp, enterDark, resetConditioning])
    (h17 := by simp [fitLamp, enterDark, resetConditioning]) (h18 := by simp [fitLamp, enterDark, resetConditioning])

theorem recordGate_passes {α : Type} {form : Option α} {maint : Bool} {k : α → Answer} {a : α} (hc : below snd .facility = false)
    (hf : form = some a) (hm : maint = true → lockLevel s = .maintenance) : recordGate snd form maint s k = k a := by
  subst hf
  have hgate : (maint && lockLevel s != .maintenance) = false := by
    cases maint
    · rfl
    · simp [hm rfl]
  simp [recordGate, hc, hgate]

theorem parseLamp_eq {b : Bay} {i h : String} {n : Nat} (hi : isLabel 8 i = true) (hn : parseNatIn 500 20000 h = some n) :
    parseLamp [showBay b, i, h] = some (b, i, n) := by
  simp [parseLamp, parseBay_showBay, parseLabel, hi, hn]

theorem goodNotices_eq (s : State) (b : Bay) : goodNotices b (stageOf s b) = (match lampRec s b with
    | some r => if stageOfRec r = .good then [] else [⟨.life, .bay b, ["GOOD"]⟩]
    | none => []) := by
  unfold goodNotices stageOf
  cases lampRec s b <;> simp

/-- What a new lamp leaves, whichever of the two commands brought it. -/
theorem fitted_settled {i : String} {n : Nat} {old : Option Stage} {t : State} {l : List Notice} (ht : t = settle (fitted snd b old i n (nextEvent s)))
    (hl : goodNotices b old = l) :
    lampRec t b = some (newLamp s i n) ∧ lampRec t b.other = lampRec s b.other ∧ writeAsked snd (.lamp b) t ∧
      placed s t (⟨.lamp, .bay b, ["DARK"]⟩ :: l) ∧ (bay t b).st = .dark ∧ (bay t b).doorFlag = .clear ∧
      (bay t b).lastLoss = none ∧ (bay t b).lossBar = none ∧ (bay t b).causeMark = false ∧ (bay t b).strikes = (bay s b).strikes ∧
      (bayMode t b).ecoSec = 0 ∧ (bayMode t b).ecoMin = 0 ∧ (bayMode t b).debt = 0 ∧ (bayMode t b).credit = 0 ∧
      sameBesideLamps s { t with mode := s.mode } := by
  subst ht hl
  obtain ⟨hbay, hlamps, hfaults, hmode, hnotices⟩ := fitted_rest snd b old i n (nextEvent s)
  obtain ⟨hrec, hother⟩ := lampRec_of_set (s := nextEvent s) (x := settle (fitted snd b old i n (nextEvent s)))
    (by rw [settle_work, hlamps])
  obtain ⟨u, hu⟩ := bay_settle (fitted snd b old i n (nextEvent s)) b
  obtain ⟨hsec, hmin, hdebt, hcredit⟩ := mode_conditioning (b := b) hmode
  have hasked : writeAsked snd (.lamp b) (fitted snd b old i n (nextEvent s)) := by
    rw [fitted, goodNotice_eq, newRecord]
    exact ask_asked ..
  rw [hu, hbay, bay_fitLamp]
  exact ⟨hrec, hother, writeAsked_settle hasked, placed_settle hfaults hnotices, rfl, rfl, rfl, rfl, rfl, rfl, hsec, hmin, hdebt,
    hcredit, sameBesideLamps_settle_mode (sameBesideLamps_mode_of_nextEvent (fitted_beside snd b old i n (nextEvent s)))⟩

/-- Settles O21: INSTALL and REPLACE leave one state, but for the LIFE notice of a lamp that was there. -/
theorem lampRecordsFitted : Obligations.LampRecordsFitted := by
  intro s snd b i h n ht hc hm hi hn hflag c hmem
  have hgate {k : Bay × String × Nat → Answer} : recordGate snd (parseLamp [showBay b, i, h]) true (nextEvent s) k = k (b, i, n) :=
    recordGate_passes hc (parseLamp_eq hi hn) fun _ => hm
  by_cases he : (bay s b).st = .empty
  · rw [if_pos he, List.mem_singleton] at hmem
    subst hmem
    have hcmd : cmdInstall snd [showBay b, i, h] (nextEvent s) =
        yes (fitted snd b none i n (nextEvent s)) (fittedFields b n) 1 := by
      rw [cmdInstall, hgate]
      exact if_pos ⟨he, hflag⟩
    rw [if_pos he]
    exact ⟨_, (run_verb ht).trans (congrArg (fun a => Host.Outcome.next (answer snd a)) hcmd), fitted_settled rfl rfl⟩
  · rw [if_neg he] at hmem
    split at hmem
    · rename_i hst
      rw [List.mem_singleton] at hmem
      subst hmem
      have hcmd : cmdReplace snd [showBay b, i, h] (nextEvent s) =
          yes (fitted snd b (stageOf s b) i n (nextEvent s)) (fittedFields b n) 1 := by
        rw [cmdReplace, hgate]
        exact (if_neg he).trans (if_pos ⟨hst, hflag⟩)
      rw [if_neg he]
      exact ⟨_, (run_verb ht).trans (congrArg (fun a => Host.Outcome.next (answer snd a)) hcmd),
        fitted_settled rfl (goodNotices_eq s b)⟩
    · exact absurd hmem List.not_mem_nil

/-- The state of REMOVE before its bay leaves the wanted set. -/
def emptied (b : Bay) (s : State) : State :=
  lampNotice b .empty
    (modBay b (fun y => { y with st := .empty, timer := none, doorFlag := .clear, causeMark := false, lampLost := none })
      (resetConditioning b (setLampRec b none s)))

theorem takeLamp_eq (b : Bay) (s : State) : takeLamp b s = leaveWanted b (emptied b s) := rfl

theorem bay_emptied (b : Bay) (s : State) : bay (emptied b s) b =
    { bay s b with st := .empty, timer := none, doorFlag := .clear, causeMark := false, lampLost := none } := by
  cases b <;> rfl

theorem takeLamp_rest (b : Bay) (s : State) :
    bay (takeLamp b s) b = { bay s b with st := .empty, timer := none, doorFlag := .clear, causeMark := false, lampLost := none } ∧
      (takeLamp b s).work.lamps = s.work.lamps.set b none ∧ (takeLamp b s).faults = s.faults ∧
      (takeLamp b s).notices = s.notices.put ⟨.lamp, .bay b, ["EMPTY"]⟩ ∧ (takeLamp b s).lamp.wanted.get b = false := by
  rw [takeLamp_eq]
  refine ⟨?_, ?_, ?_, ?_, leaveWanted_unwanted ?_⟩
  · rw [bay_leaveWanted, bay_emptied]
    rw [bay_emptied]
    exact BaySt.noConfusion
  · simp [emptied, resetConditioning]
  · simp [emptied, resetConditioning]
  · simp [emptied, resetConditioning, showBaySt]
  · have hnone : lampRec (emptied b s) b = none := by cases b <;> rfl
    simp [lampUsable, hnone]

theorem takeLamp_beside (b : Bay) (s : State) : sameBesideLamps s { ask snd k (takeLamp b s) with mode := s.mode } := by
  simp only [takeLamp_eq, emptied]
  exact sameBesideLamps_of_blocks (h1 := by simp [resetConditioning]) (h2 := by simp [resetConditioning])
    (h3 := by simp [resetConditioning]) (h4 := by simp [resetConditioning]) (h5 := by simp [resetConditioning])
    (h6 := by simp [resetConditioning]) (h7 := by simp [resetConditioning]) (h10 := by simp [resetConditioning])
    (h11 := by simp [resetConditioning]) (h12 := by simp [resetConditioning]) (h13 := by simp [resetConditioning])
    (h16 := by simp [resetConditioning]) (h17 := by simp [resetConditioning]) (h18 := by simp [resetConditioning])

theorem reviveLamp_rest (b : Bay) (s : State) :
    bay (reviveLamp b s) b = { bay s b with st := .rest, timer := some (s.uptime + shortRest) } ∧
      (reviveLamp b s).work.lamps =
        s.work.lamps.set b ((lampRec s b).map fun r => { r with consecutive := 0, failed := false }) ∧
      (reviveLamp b s).faults = s.faults ∧ (reviveLamp b s).notices = s.notices := by
  have hbay : bay (modBay b (fun y => { y with st := .rest, timer := some (s.uptime + shortRest) })
      (setLampRec b ((lampRec s b).map (fun r => { r with consecutive := 0, failed := false })) s)) b =
      { bay s b with st := .rest, timer := some (s.uptime + shortRest) } := by cases b <;> rfl
  refine ⟨?_, ?_, ?_, ?_⟩
  · rw [reviveLamp, bay_fillShortfall (by rw [hbay]; exact BaySt.noConfusion), hbay]
  · simp [reviveLamp]
  · simp [reviveLamp]
  · simp [reviveLamp]

theorem reviveLamp_beside (b : Bay) (s : State) : sameBesideLamps s (ask snd k (reviveLamp b s)) := by
  simp only [reviveLamp]
  exact sameBesideLamps_of_blocks

/-- Settles O22: each command changes one bay and its record, and asks for the write. -/
theorem lampRecordsTaken : Obligations.LampRecordsTaken := by
  intro s snd b ht hc
  have hform : parseOneBay [showBay b] = some b := parseBay_showBay b
  refine ⟨fun hm he hu => ?_, fun hf => ?_⟩
  · obtain ⟨hbay, hlamps, hfaults, hnotices, hwanted⟩ := takeLamp_rest b (nextEvent s)
    have hcmd : cmdRemove snd [showBay b] (nextEvent s) =
        yes (ask snd (.lamp b) (takeLamp b (nextEvent s))) (fun _ => ["BAY", showBay b, "EMPTY"]) 1 := by
      rw [cmdRemove, recordGate_passes (s := nextEvent s) hc hform fun _ => hm]
      exact (if_neg he).trans (if_neg (by simp [bay_nextEvent, hu]))
    obtain ⟨hrec, hother⟩ := lampRec_of_set (s := nextEvent s) (b := b) (r := none)
      (x := settle (ask snd (.lamp b) (takeLamp b (nextEvent s)))) (by rw [settle_work, ask_work, hlamps])
    refine ⟨_, (run_verb ht).trans (congrArg (fun a => Host.Outcome.next (answer snd a)) hcmd), hrec, hother, ?_, ?_, ?_, ?_,
      writeAsked_settle (ask_asked ..), placed_settle ?_ ?_,
      sameBesideLamps_settle_mode (sameBesideLamps_mode_of_nextEvent (takeLamp_beside b (nextEvent s)))⟩
    · rw [bay_settle_st, bay_ask, hbay]
    · rw [bay_settle_timer, bay_ask, hbay]
    · rw [bay_settle_doorFlag, bay_ask, hbay]
    · rw [settle_wanted, ask_lamp, hwanted]
    · rw [ask_faults, hfaults, nextEvent_faults]
    · rw [ask_notices, hnotices, nextEvent_notices]
      rfl
  · obtain ⟨hbay, hlamps, hfaults, hnotices⟩ := reviveLamp_rest b (nextEvent s)
    have hcmd : cmdRevive snd [showBay b] (nextEvent s) =
        yes (ask snd (.lamp b) (reviveLamp b (nextEvent s))) (fun _ => ["BAY", showBay b, "REST", "30"]) 1 := by
      rw [cmdRevive, recordGate_passes (s := nextEvent s) hc hform fun h => Bool.noConfusion h]
      exact (if_neg fun he => BaySt.noConfusion (hf.symm.trans he)).trans (if_pos hf)
    obtain ⟨hrec, hother⟩ := lampRec_of_set (s := nextEvent s) (x := settle (ask snd (.lamp b) (reviveLamp b (nextEvent s))))
      (by rw [settle_work, ask_work, hlamps])
    refine ⟨_, (run_verb ht).trans (congrArg (fun a => Host.Outcome.next (answer snd a)) hcmd), hrec, hother, ?_, ?_,
      writeAsked_settle (ask_asked ..), placed_settle ?_ ?_,
      sameBesideLamps_settle (sameBesideLamps_of_nextEvent (reviveLamp_beside b (nextEvent s)))⟩
    · rw [bay_settle_st, bay_ask, hbay]
    · rw [bay_settle_timer, bay_ask, hbay]
      rfl
    · rw [ask_faults, hfaults, nextEvent_faults]
    · rw [ask_notices, hnotices, nextEvent_notices]
      rfl

end Records

end Sys2Proof.LampOrders

/-! PROOFS. The schedule: what an evaluation and a clock set leave alone, the clock and the exceptions (O42, O46). -/

namespace Sys2Proof.Agenda

open Sys2Proof Sys2Proof.Machine Sys2Proof.Upkeep Sys2Proof.Steps Sys2Proof.Lamps Sys2Proof.Counts Sys2Proof.Picture Sys2Proof.Refusals
  Sys2Proof.Accepted Sys2Proof.LampOrders

set_option Elab.async false

/-! ## What the operations of the records leave alone -/

/-- The Schedule Engine without its two occurrence records. -/
def bareOfRecords (x : Sched) : Sched := { x with active := none, upcoming := none }

/-- From one state to the next the stored records stand, and the Schedule Engine but for its occurrence records. -/
structure Steady (s t : State) : Prop where
  work : t.work = s.work
  sched : bareOfRecords t.sched = bareOfRecords s.sched

section Steady

variable {s t u : State}

theorem Steady.refl (s : State) : Steady s s := ⟨rfl, rfl⟩

theorem Steady.trans (h : Steady s t) (h' : Steady t u) : Steady s u := ⟨h'.work.trans h.work, h'.sched.trans h.sched⟩

/-- An operation of another block that changes no record. -/
theorem Steady.of_same (hw : t.work = s.work := by simp) (hs : t.sched = s.sched := by simp) : Steady s t := ⟨hw, congrArg _ hs⟩

theorem Steady.clock (h : Steady s t) : t.sched.clock = s.sched.clock := by
  have e := congrArg Sched.clock h.sched
  exact e
theorem Steady.minuteDue (h : Steady s t) : t.sched.minuteDue = s.sched.minuteDue := by
  have e := congrArg Sched.minuteDue h.sched
  exact e
theorem Steady.endDue (h : Steady s t) : t.sched.endDue = s.sched.endDue := by
  have e := congrArg Sched.endDue h.sched
  exact e
theorem Steady.lastEnded (h : Steady s t) : t.sched.lastEnded = s.sched.lastEnded := by
  have e := congrArg Sched.lastEnded h.sched
  exact e

theorem Steady.ite {c : Prop} [Decidable c] (ht : Steady s t) (hu : Steady s u) : Steady s (if c then t else u) := by
  split
  · exact ht
  · exact hu

/-- A rule on the records alone. -/
theorem modSched_steady {f : Sched → Sched} (h : bareOfRecords (f s.sched) = bareOfRecords s.sched) : Steady s (modSched f s) := ⟨rfl, h⟩

theorem notify_steady {k : NoticeKind} {x : Subject} {l : List String} : Steady s (notify k x l s) := .of_same
theorem raise_steady {o : DemandOrigin} {n : Nat} : Steady s (raise o n s) := .of_same
theorem clearUnlocked_steady : Steady s (clearUnlocked s) := .of_same
theorem scheduleRequest_steady {n : Option Nat} : Steady s (scheduleRequest n s) := .of_same

theorem withLock_steady {f : State → State} (h : Steady s (f s)) : Steady s (withLock f s) := by
  unfold withLock
  exact .ite h (h.trans .of_same)

theorem prewarmActions_steady (s : State) : Steady s (prewarmActions s) := by
  unfold prewarmActions
  split
  · exact .refl s
  · refine .ite (.refl s) (.trans ?_ notify_steady)
    split
    · exact .ite (raise_steady.trans (modSched_steady rfl)) (.refl s)
    · exact .refl s

theorem bookedMode_steady (bk : Booking) (s : State) : Steady s (bookedMode bk s) := by
  unfold bookedMode
  split
  · exact ⟨rfl, rfl⟩
  · exact .refl s

theorem runningRaise_steady (retake : Bool) (o : Occ) (bk : Booking) (s : State) : Steady s (runningRaise retake o bk s) :=
  .ite (raise_steady.trans (modSched_steady rfl)) (.refl s)

theorem clearPresenter_steady (s : State) : Steady s (clearPresenter s) := .of_same (by simp [clearPresenter]) (by simp [clearPresenter])

theorem runningEffects_steady (retake : Bool) (o : Occ) (bk : Booking) (s : State) : Steady s (runningEffects retake o bk s) :=
  (runningRaise_steady retake o bk s).trans ((bookedMode_steady bk _).trans
    (scheduleRequest_steady.trans (clearUnlocked_steady.trans (clearPresenter_steady _))))

theorem runningNotice_steady (s : State) : Steady s (runningNotice s) := by
  unfold runningNotice
  split
  · exact .of_same
  · exact .refl s

theorem runningActions_steady (retake late : Bool) (s : State) : Steady s (runningActions retake late s) := by
  unfold runningActions
  split
  · exact .refl s
  · split
    · exact .refl s
    · refine .ite (modSched_steady rfl) ?_
      exact (runningEffects_steady ..).trans ((modSched_steady rfl).trans (runningNotice_steady _))

theorem enterRunning_steady (n : Nat) (bk : Booking) (d : Date) (late : Bool) (s : State) : Steady s (enterRunning n bk d late s) := by
  unfold enterRunning
  exact (modSched_steady rfl).trans (runningActions_steady ..)

theorem enterPrewarm_steady (n : Nat) (bk : Booking) (d : Date) (s : State) : Steady s (enterPrewarm n bk d s) :=
  (modSched_steady rfl).trans (prewarmActions_steady _)

theorem enterGrace_steady (s : State) : Steady s (enterGrace s) := by
  unfold enterGrace
  split
  · exact .refl s
  · exact .ite (modSched_steady rfl) ((modSched_steady rfl).trans (clearUnlocked_steady.trans notify_steady))

theorem scheduleDrop_steady (s : State) : Steady s (scheduleDrop s) := .ite (.refl s) .of_same

theorem endNotice_steady (o : Occ) (s : State) : Steady s (endNotice o s) := .ite (.refl s) .of_same

theorem evalPrewarmBegins_steady (c : HallClock) (s : State) : Steady s (evalPrewarmBegins c s) := by
  unfold evalPrewarmBegins
  split
  · exact .refl s
  · split
    · exact enterPrewarm_steady ..
    · exact .refl s

theorem evalRunningBegins_steady (c : HallClock) (edge : Bool) (s : State) : Steady s (evalRunningBegins c edge s) := by
  unfold evalRunningBegins
  split
  · exact .refl s
  · split
    · exact enterRunning_steady ..
    · exact .refl s

theorem releaseFlag_steady (s : State) : Steady s (releaseFlag s) := .ite .of_same (.refl s)

end Steady

/-! ## What a retirement leaves alone -/

/-- The Schedule Engine without its occurrence records and its memory of the last ended. -/
def timesOf (x : Sched) : Sched := { x with active := none, upcoming := none, lastEnded := none }

/-- From one state to the next bookings that `P` allows to go, and exceptions, may leave, the occurrence records may change, and nothing
else of the records or of the Schedule Engine does. -/
structure Wanes (P : Nat → Prop) (s t : State) : Prop where
  work : t.work = { s.work with bookings := t.work.bookings, exceptions := t.work.exceptions }
  sched : timesOf t.sched = timesOf s.sched
  exceptions : ∀ e ∈ t.work.exceptions, e ∈ s.work.exceptions
  places : ∀ n, place t.work.bookings n = place s.work.bookings n ∨ P n ∧ place t.work.bookings n = none

section Wanes

variable {P : Nat → Prop} {s t u : State} {c : HallClock}

theorem Wanes.refl (s : State) : Wanes P s s := ⟨rfl, rfl, fun _ h => h, fun _ => .inl rfl⟩

theorem Wanes.trans (h : Wanes P s t) (h' : Wanes P t u) : Wanes P s u where
  work := by rw [h'.work, h.work]
  sched := h'.sched.trans h.sched
  exceptions e he := h.exceptions e (h'.exceptions e he)
  places n := by
    rcases h'.places n with e | hgone
    · rw [e]
      exact h.places n
    · exact .inr hgone

theorem Steady.wanes (h : Steady s t) : Wanes P s t := by
  have hsched := congrArg (fun x : Sched => { x with lastEnded := none }) h.sched
  exact ⟨by rw [h.work], hsched, by simp [h.work], fun _ => .inl (by rw [h.work])⟩

theorem Wanes.ite {p : Prop} [Decidable p] (ht : Wanes P s t) (hu : Wanes P s u) : Wanes P s (if p then t else u) := by
  split
  · exact ht
  · exact hu

/-- A place filled after is filled before, with the same record. -/
theorem Wanes.filled (h : Wanes P s t) {n : Nat} {bk : Booking} (hn : place t.work.bookings n = some bk) :
    place s.work.bookings n = some bk := by
  rcases h.places n with e | ⟨-, e⟩
  · rw [← e, hn]
  · rw [e] at hn
    cases hn

/-- A place that may not go stands. -/
theorem Wanes.spared (h : Wanes P s t) {n : Nat} (hn : ¬P n) : place t.work.bookings n = place s.work.bookings n :=
  (h.places n).elim id fun e => absurd e.1 hn

theorem Wanes.clock (h : Wanes P s t) : t.sched.clock = s.sched.clock := by
  have e := congrArg Sched.clock h.sched
  exact e
theorem Wanes.minuteDue (h : Wanes P s t) : t.sched.minuteDue = s.sched.minuteDue := by
  have e := congrArg Sched.minuteDue h.sched
  exact e
theorem Wanes.endDue (h : Wanes P s t) : t.sched.endDue = s.sched.endDue := by
  have e := congrArg Sched.endDue h.sched
  exact e

@[simp] theorem writeExceptions_sched (l : List Exc) (s : State) : (writeExceptions l s).sched = s.sched := by
  unfold writeExceptions
  split <;> simp

@[simp] theorem writeExceptions_work (l : List Exc) (s : State) : (writeExceptions l s).work = s.work := by
  unfold writeExceptions
  split <;> simp

@[simp] theorem retireBooking_sched (n : Nat) (s : State) : (retireBooking n s).sched = s.sched := by
  simp [retireBooking, emptyBooking]

@[simp] theorem retireBooking_work (n : Nat) (s : State) : (retireBooking n s).work = (emptyBooking n s).work := by
  simp [retireBooking]

@[simp] theorem retireIfPast_sched (c : HallClock) (s : State) (n : Nat) : (retireIfPast c s n).sched = s.sched := by
  unfold retireIfPast
  split
  · split <;> simp
  · rfl

theorem foldl_retire_sched (c : HallClock) (l : List Nat) (s : State) : (l.foldl (retireIfPast c) s).sched = s.sched := by
  induction l generalizing s with
  | nil => rfl
  | cons n l ih => rw [List.foldl_cons, ih, retireIfPast_sched]

@[simp] theorem retirePast_sched (c : HallClock) (s : State) : (retirePast c s).sched = s.sched := by
  rw [retirePast, retireExceptions, writeExceptions_sched, putExceptions_sched, foldl_retire_sched]

theorem place_setPlace_none {α : Type} (l : List (Option α)) (n m : Nat) :
    place (setPlace l n none) m = if m = n then none else place l m := by
  cases n with
  | zero => cases m <;> simp [setPlace, place]
  | succ k =>
    cases m with
    | zero => simp [place]
    | succ j =>
      simp only [place, setPlace, List.getD_eq_getElem?_getD, Nat.succ_inj, List.getElem?_set, eq_comm (a := k)]
      split
      · split <;> rfl
      · rfl

theorem retireBooking_wanes {n : Nat} (h : P n) : Wanes P s (retireBooking n s) where
  work := by
    rw [retireBooking_work]
    rfl
  sched := by rw [retireBooking_sched]
  exceptions e he := by
    rw [retireBooking_work] at he
    exact (List.mem_filter.1 he).1
  places m := by
    have hplace := place_setPlace_none s.work.bookings n m
    rw [retireBooking_work]
    split at hplace
    · subst_vars
      exact .inr ⟨h, hplace⟩
    · exact .inl hplace

theorem retireIfPast_wanes {n : Nat} (h : ∀ bk, place s.work.bookings n = some bk → whollyPast c bk = true → unnamed s n = true → P n) :
    Wanes P s (retireIfPast c s n) := by
  unfold retireIfPast
  split
  · split
    · rename_i bk hbk hgo
      rw [Bool.and_eq_true] at hgo
      exact retireBooking_wanes (h bk hbk hgo.1 hgo.2)
    · exact .refl s
  · exact .refl s

theorem retireExceptions_wanes (c : HallClock) (s : State) : Wanes P s (retireExceptions c s) where
  work := by
    rw [retireExceptions, writeExceptions_work]
    rfl
  sched := by simp [retireExceptions]
  exceptions e he := by
    rw [retireExceptions, writeExceptions_work] at he
    exact (List.mem_filter.1 he).1
  places n := .inl (by
    rw [retireExceptions, writeExceptions_work]
    rfl)

theorem unnamed_congr {n : Nat} (h : t.sched = s.sched) : unnamed t n = unnamed s n := by
  unfold unnamed
  rw [h]

theorem retirePast_wanes (h : ∀ n bk, place s.work.bookings n = some bk → whollyPast c bk = true → unnamed s n = true → P n) :
    Wanes P s (retirePast c s) := by
  have hfold (l : List Nat) (x : State) (hx : Wanes P s x) (hsched : x.sched = s.sched) : Wanes P s (l.foldl (retireIfPast c) x) := by
    induction l generalizing x with
    | nil => exact hx
    | cons n l ih =>
      refine ih _ (hx.trans (retireIfPast_wanes fun bk hbk hp hu => h n bk (hx.filled hbk) hp ?_)) ?_
      · rw [← hu, unnamed_congr hsched]
      · rw [retireIfPast_sched, hsched]
  exact (hfold _ s (.refl s) rfl).trans (retireExceptions_wanes c _)

/-! ## What an evaluation leaves alone -/

theorem retireEnded_wanes {o : Occ} (h : P o.booking) : Wanes P s (retireEnded o s) := by
  unfold retireEnded
  split
  · exact .ite (retireBooking_wanes h) (.refl s)
  · exact .refl s

theorem endActive_wanes (h : ∀ o, s.sched.active = some o → P o.booking) : Wanes P s (endActive s) := by
  unfold endActive
  split
  · exact .refl s
  · rename_i o ho
    have hempty : Wanes P s (emptyActive o s) := ⟨rfl, rfl, fun _ he => he, fun _ => .inl rfl⟩
    exact hempty.trans ((retireEnded_wanes (h o ho)).trans (endNotice_steady ..).wanes)

theorem retireEnded_sched (o : Occ) (s : State) : (retireEnded o s).sched = s.sched := by
  unfold retireEnded
  split
  · exact (apply_ite State.sched ..).trans (by simp)
  · rfl

theorem endNotice_sched (o : Occ) (s : State) : (endNotice o s).sched = s.sched := by
  unfold endNotice
  split <;> simp

theorem endActive_sched {o : Occ} (h : s.sched.active = some o) :
    (endActive s).sched = { s.sched with active := none, lastEnded := some (o.booking, o.date) } := by
  simp only [endActive, h, endNotice_sched, retireEnded_sched]
  rfl

theorem endActive_none (h : s.sched.active = none) : endActive s = s := by
  simp only [endActive, h]

theorem endActive_active (s : State) : (endActive s).sched.active = none := by
  cases h : s.sched.active with
  | none => rw [endActive_none h, h]
  | some o => rw [endActive_sched h]

/-- The active record names what it named before, or is empty. -/
def namesSame (s t : State) : Prop := ∀ o', t.sched.active = some o' → ∃ o, s.sched.active = some o ∧ o.booking = o'.booking

theorem namesSame_of_none (h : t.sched.active = none) : namesSame s t := fun _ ho => nomatch h.symm.trans ho

theorem enterGrace_names (s : State) : namesSame s (enterGrace s) := by
  unfold enterGrace
  split
  · exact namesSame_of_none ‹_›
  · rename_i o ho
    intro o' ho'
    refine ⟨o, ho, ?_⟩
    split at ho' <;> cases ho' <;> rfl

theorem evalRunningEnds_names (c : HallClock) (s : State) : namesSame s (evalRunningEnds c s) := by
  unfold evalRunningEnds
  split
  · split
    · split
      · exact enterGrace_names s
      · exact namesSame_of_none (endActive_active s)
    · exact fun o ho => ⟨o, ho, rfl⟩
  · exact fun o ho => ⟨o, ho, rfl⟩

theorem evalRunningEnds_wanes (h : ∀ o, s.sched.active = some o → P o.booking) : Wanes P s (evalRunningEnds c s) := by
  unfold evalRunningEnds
  split
  · exact .ite (.ite (enterGrace_steady s).wanes (endActive_wanes h)) (.refl s)
  · exact .refl s

theorem judgeRecords_wanes {edge : Bool} (h : ∀ o, s.sched.active = some o → P o.booking) : Wanes P s (judgeRecords c edge s) := by
  have h1 : ∀ o, (evalRunningEnds c s).sched.active = some o → P o.booking := fun o ho => by
    obtain ⟨o', ho', e⟩ := evalRunningEnds_names c s o ho
    exact e ▸ h o' ho'
  have hs1 : Wanes P s (evalRunningEnds c s) := evalRunningEnds_wanes h
  unfold judgeRecords
  generalize evalRunningEnds c s = s1 at h1 hs1
  have h2 : ∀ o, (if graceOver c s1 then endActive s1 else s1).sched.active = some o → P o.booking := fun o ho => by
    split at ho
    · rw [endActive_active] at ho
      cases ho
    · exact h1 o ho
  have hs2 : Wanes P s (if graceOver c s1 then endActive s1 else s1) := hs1.trans (.ite (endActive_wanes h1) (.refl s1))
  dsimp only
  generalize (if graceOver c s1 then endActive s1 else s1) = s2 at h2 hs2
  have hs3 : Wanes P s (evalPrewarmBegins c (evalRunningBegins c edge (evalNextInGrace c s2))) :=
    hs2.trans (Wanes.trans (.ite (endActive_wanes h2) (.refl s2))
      ((evalRunningBegins_steady ..).wanes.trans (evalPrewarmBegins_steady ..).wanes))
  exact .ite (hs3.trans (scheduleDrop_steady _).wanes) hs3

theorem evaluate_unset {edge : Bool} (h : s.sched.clock = none) : evaluate edge s = s := by
  simp only [evaluate, h]

theorem withLock_wanes {f : State → State} (h : Wanes P s (f s)) : Wanes P s (withLock f s) := by
  unfold withLock
  exact .ite h (h.trans (Steady.of_same (t := lockNotice (f s))).wanes)

/-- An evaluation takes away only bookings in the past that no record names, and the one whose record it ends. -/
theorem evaluate_wanes {edge : Bool} (hpast : ∀ c n bk, s.sched.clock = some c → place s.work.bookings n = some bk →
    whollyPast c bk = true → unnamed s n = true → P n) (hactive : ∀ o, s.sched.active = some o → P o.booking) :
    Wanes P s (evaluate edge s) := by
  unfold evaluate
  split
  · exact .refl s
  · rename_i c hc
    refine withLock_wanes ((retirePast_wanes fun n bk => hpast c n bk hc).trans (judgeRecords_wanes fun o ho => ?_))
    rw [retirePast_sched] at ho
    exact hactive o ho

end Wanes

/-! ## The exceptions (O46) -/

theorem mem_insertExc (x : Exc) (l : List Exc) : x ∈ insertExc x l := by
  induction l with
  | nil => exact List.mem_singleton_self x
  | cons y l ih =>
    unfold insertExc
    split
    · exact List.mem_cons_of_mem _ ih
    · exact List.mem_cons_self

theorem parseSkip_eq {w d : String} {n : Nat} {x : Date} (hn : parseNatIn 1 48 w = some n) (hx : parseDate d = some x) :
    parseSkip [w, d] = some (n, x) := by
  simp only [parseSkip, parsePlace, hn, hx]

theorem addSkip_passes {snd : Sender} {s : State} {n : Nat} {x : Date} {bk : Booking} (hw : bk.dates.isWeekly = true)
    (ho : bk.dates.onDate x = true) (hnot : (⟨n, x⟩ : Exc) ∉ s.work.exceptions) (hc : ∀ c, s.sched.clock = some c → c.date ≤ x)
    (hb : occurrenceBusy s n x = false) (hlen : s.work.exceptions.length < 32) :
    addSkip snd n x bk s =
      yes (ask snd .exceptions (putExceptions (insertExc ⟨n, x⟩ s.work.exceptions) s)) (skipFields "SKIP" n x) 1 := by
  have hgone : dateGone s x = false := by
    unfold dateGone
    split
    · exact decide_eq_false (Nat.not_lt.2 (hc _ ‹_›))
    · rfl
  simp [addSkip, hw, ho, hnot, hgone, hb, Nat.not_le.2 hlen]

/-- Settles O46: an evaluation takes exceptions away and adds none, and with an unset clock there is none. -/
theorem skipsStored : Obligations.SkipsStored := by
  intro s snd w d n x h hc hl hn hx
  have hgate {k : State → Answer} : bookGate snd (nextEvent s) k = k (nextEvent s) := bookGate_passes (s := nextEvent s) hc hl
  refine ⟨fun bk hbk hw ho hnot hclock hb hlen => ⟨?_, ?_⟩, fun hin hfree => ?_⟩
  · have hcmd : cmdSkip snd [w, d] (nextEvent s) = addSkip snd n x bk (nextEvent s) := by
      simp only [cmdSkip, hgate, parseSkip_eq hn hx, nextEvent_work, hbk]
    refine accepted_verb h rfl (hcmd.trans (addSkip_passes (s := nextEvent s) hw ho hnot hclock hb hlen)) rfl ?_
    exact (congrArg essence (ask_nextEvent (putExceptions (insertExc ⟨n, x⟩ s.work.exceptions) s) snd .exceptions)).trans
      (essence_nextEvent _)
  · cases hdates : bk.dates with
    | once y => simp [hdates, BookDates.isWeekly] at hw
    | weekly days f u => simp [occursIn, mem_insertExc]
  · have hcmd : cmdUnskip snd [w, d] (nextEvent s) = removeSkip snd n x (nextEvent s) := by
      simp only [cmdUnskip, hgate, parseSkip_eq hn hx]
    have hrestore : restoreConflict (nextEvent s) n x = none := by
      unfold restoreConflict
      split
      · exact hfree _ ‹_›
      · rfl
    have hyes : removeSkip snd n x (nextEvent s) =
        yes (evaluate false (ask snd .exceptions (putExceptions (s.work.exceptions.erase ⟨n, x⟩) (nextEvent s))))
          (skipFields "UNSKIP" n x) 1 := by
      simp [removeSkip, hin, hrestore]
    refine ⟨_, (run_verb h).trans (congrArg (fun a => Host.Outcome.next (answer snd a)) (hcmd.trans hyes)), fun e he => ?_,
      fun hunset => ?_⟩
    · rw [settle_work] at he
      have hwanes := (evaluate_wanes (P := fun _ => True) (edge := false)
        (s := ask snd .exceptions (putExceptions (s.work.exceptions.erase ⟨n, x⟩) (nextEvent s)))
        (fun _ _ _ _ _ _ _ => trivial) fun _ _ => trivial).exceptions e he
      rw [ask_work] at hwanes
      exact hwanes
    · rw [evaluate_unset (by simpa using hunset)]
      refine (essence_settle _).trans ?_
      exact (congrArg essence (ask_nextEvent (putExceptions (s.work.exceptions.erase ⟨n, x⟩) s) snd .exceptions)).trans
        (essence_nextEvent _)

/-! ## The clock (O42) -/

section Clock

variable {s t : State} {c : HallClock}

theorem releaseFlag_none (h : s.sched.active = none) : releaseFlag s = s := by
  simp [releaseFlag, h]

@[simp] theorem releaseFlag_sched (s : State) : (releaseFlag s).sched = s.sched := by
  unfold releaseFlag
  split <;> simp

theorem dropActive_wanes (c : HallClock) (s : State) : Wanes (fun _ => True) s (dropActive c s) := by
  unfold dropActive
  split
  · exact .refl s
  · exact ((releaseFlag_steady s).trans (modSched_steady rfl)).wanes.trans (retireIfPast_wanes fun _ _ _ _ => trivial)

theorem dropActive_sched (c : HallClock) (s : State) : (dropActive c s).sched = { s.sched with active := none } := by
  unfold dropActive
  split
  · rename_i h
    rw [← h]
  · simp [modSched]

theorem keepUpcoming_sched (c : HallClock) (s : State) :
    (keepUpcoming c s).sched = s.sched ∨ (keepUpcoming c s).sched = { s.sched with upcoming := none } := by
  unfold keepUpcoming
  split
  · split
    · exact .inl rfl
    · exact .inr (by simp [modSched])
  · exact .inl rfl

/-- What a clock set may make of the memory of the last ended: nothing, or the record kept in Grace that another's Running ends. -/
def remembers (s t : State) : Prop :=
  t.sched.lastEnded = s.sched.lastEnded ∨
    ∃ o, s.sched.active = some o ∧ o.phase = .grace ∧ t.sched.lastEnded = some (o.booking, o.date)

/-- From one state to the next the clock and what is due stand, and the memory is as a clock set may leave it. -/
structure Kept (s t : State) : Prop where
  times : timesOf t.sched = timesOf s.sched
  memory : remembers s t

theorem Kept.steady (h : Kept s t) {u : State} (h' : bareOfRecords u.sched = bareOfRecords t.sched) : Kept s u := by
  have htimes := congrArg (fun x : Sched => { x with lastEnded := none }) h'
  have hmemory := congrArg Sched.lastEnded h'
  refine ⟨Eq.trans htimes h.times, ?_⟩
  have hlast : u.sched.lastEnded = t.sched.lastEnded := hmemory
  rw [remembers, hlast]
  exact h.memory

theorem enterAtSet_kept (c : HallClock) (l : List (Nat × Booking)) (s : State) : Kept s (enterAtSet c l s) := by
  unfold enterAtSet
  split
  · split
    · rename_i hwhen
      refine Kept.steady (t := endActive s) ?_ (enterRunning_steady ..).sched
      rcases h : s.sched.active with _ | o
      · rw [endActive_none h]
        exact ⟨rfl, .inl rfl⟩
      · have hgrace : o.phase = .grace := by simpa [h, activeIn] using hwhen
        refine ⟨?_, .inr ⟨o, h, hgrace, ?_⟩⟩ <;> rw [endActive_sched h]
        rfl
    · exact ⟨rfl, .inl rfl⟩
  · exact ⟨rfl, .inl rfl⟩

theorem deriveRecords_kept (c : HallClock) (s : State) : Kept s (deriveRecords c s) := by
  have h1 : Kept s (enterAtSet c (otherRunning s c.date c.abs) (if emptiedAtSet c s then dropActive c s else s)) := by
    split
    · have h := enterAtSet_kept c (otherRunning s c.date c.abs) (dropActive c s)
      have hsched := dropActive_sched c s
      refine ⟨h.times.trans (by rw [hsched]; rfl), ?_⟩
      rcases h.memory with hm | ⟨o, ho, -, -⟩
      · exact .inl (by rw [hm, hsched])
      · rw [hsched] at ho
        cases ho
    · exact enterAtSet_kept ..
  have h2 := h1.steady (u := keepUpcoming c (enterAtSet c (otherRunning s c.date c.abs)
    (if emptiedAtSet c s then dropActive c s else s))) (by
      rcases keepUpcoming_sched c (enterAtSet c (otherRunning s c.date c.abs)
        (if emptiedAtSet c s then dropActive c s else s)) with e | e <;> rw [e]
      rfl)
  have h3 := h2.steady (evalPrewarmBegins_steady c _).sched
  unfold deriveRecords
  dsimp only
  generalize evalPrewarmBegins c (keepUpcoming c _) = x at h3 ⊢
  split
  · exact h3.steady (scheduleDrop_steady x).sched
  · exact h3

theorem withLock_sched (f : State → State) (s : State) : (withLock f s).sched = (f s).sched := by
  unfold withLock
  exact (apply_ite State.sched ..).trans (by simp)

theorem withLock_lamp (f : State → State) (s : State) : (withLock f s).lamp = (f s).lamp := by
  unfold withLock
  exact (apply_ite State.lamp ..).trans (by simp)

theorem place_none_filled {α : Type} {l : List (Option α)} (h : ∀ n, place l n = none) : ∀ x ∈ l, x = none := by
  intro x hx
  obtain ⟨i, hi, rfl⟩ := List.getElem_of_mem hx
  have := h (i + 1)
  rwa [place, List.getD_eq_getElem _ _ hi] at this

theorem bookingsWhere_none (f : Nat → Booking → Bool) {l : List (Option Booking)} (h : ∀ x ∈ l, x = none) (n : Nat) :
    bookingsWhere f n l = [] := by
  induction l generalizing n with
  | nil => rfl
  | cons x l ih =>
    obtain rfl := h x List.mem_cons_self
    exact ih (fun y hy => h y (List.mem_cons_of_mem _ hy)) _

theorem filledFrom_none {α : Type} {l : List (Option α)} (h : ∀ x ∈ l, x = none) (n : Nat) : filledFrom n l = [] := by
  induction l generalizing n with
  | nil => rfl
  | cons x l ih =>
    obtain rfl := h x List.mem_cons_self
    exact ih (fun y hy => h y (List.mem_cons_of_mem _ hy)) _

/-- Without bookings, exceptions and records there is nothing to retire or to derive. -/
theorem deriveRecords_bare (hb : ∀ n, place s.work.bookings n = none) (he : s.work.exceptions = []) (ha : s.sched.active = none)
    (hu : s.sched.upcoming = none) : deriveRecords c (retirePast c s) = s := by
  have hnone := place_none_filled hb
  have hretire : retirePast c s = s := by
    have hput : putExceptions [] s = s := by
      unfold putExceptions
      rw [← he]
    simp [retirePast, filled, filledFrom_none hnone, retireExceptions, he, hput, writeExceptions]
  have hgone : emptiedAtSet c s = false := by simp [emptiedAtSet, ha]
  have hkeep : keepUpcoming c s = s := by simp [keepUpcoming, hu]
  have hprewarm : evalPrewarmBegins c s = s := by
    simp [evalPrewarmBegins, hu, prewarmHolding, bookingsWhere_none _ hnone, earliest]
  simp [hretire, deriveRecords, hgone, otherRunning, bookingsWhere_none _ hnone, enterAtSet, hkeep, hprewarm]

/-- The state in which the clock's value has been put, and nothing derived from it. -/
def clockPut (c : HallClock) (s : State) : State :=
  { s with sched := { s.sched with clock := some c, minuteDue := false, endDue := false, lastEnded := none } }

theorem setClock_eq (c : HallClock) (s : State) :
    setClock c s = withLock (fun x => deriveRecords c (retirePast c (clockPut c x))) s := rfl

theorem setClock_kept (c : HallClock) (s : State) : Kept (clockPut c s) (setClock c s) := by
  have h := deriveRecords_kept c (retirePast c (clockPut c s))
  rw [setClock_eq]
  refine ⟨?_, ?_⟩
  · rw [withLock_sched, h.times, retirePast_sched]
  · have hm := h.memory
    unfold remembers at hm ⊢
    rw [withLock_sched]
    rwa [retirePast_sched] at hm

/-- The state in which the clock is unset and the records emptied, before the drop. -/
def clockGone (s : State) : State :=
  modSched (fun y => { y with clock := none, minuteDue := false, endDue := false, active := none, upcoming := none, lastEnded := none })
    (releaseFlag s)

theorem endClock_eq (s : State) : endClock s = withLock (fun x =>
    if x.sched.active.isSome || x.sched.upcoming.isSome then scheduleDrop (clockGone x) else clockGone x) s := rfl

theorem scheduleDrop_sched (s : State) : (scheduleDrop s).sched = s.sched := by
  unfold scheduleDrop
  exact (apply_ite State.sched ..).trans (by simp)

theorem endClock_sched (s : State) : (endClock s).sched = { s.sched with
    clock := none, minuteDue := false, endDue := false, active := none, upcoming := none, lastEnded := none } := by
  rw [endClock_eq, withLock_sched]
  refine (apply_ite State.sched ..).trans ?_
  rw [scheduleDrop_sched]
  simp [clockGone, modSched]

theorem endClock_work (s : State) : (endClock s).work = s.work := by
  rw [endClock_eq, withLock_work]
  refine (apply_ite State.work ..).trans ?_
  rw [(scheduleDrop_steady _).work]
  simp [clockGone, releaseFlag, apply_ite State.work]

theorem lockLevel_unset (h : s.sched.active = none) (hm : s.lock.maint = false) : lockLevel s ≠ .maintenance := by
  simp only [lockLevel, hm, runningBooking, h]
  cases s.work.settings.idlelock <;> simp [IdleLock.level]

/-- With no record in Prewarm or Running the schedule's drop is made, outside Maintenance. -/
theorem scheduleDrop_drops (hr : recordCalls s = false) (hw : withheld s = false) : scheduleDrop s = drop .schedule s := by
  simp [scheduleDrop, hr, hw]

theorem endClock_count (hr : s.sched.active ≠ none ∨ s.sched.upcoming ≠ none) (hm : s.lock.maint = false) :
    (endClock s).lamp.count = 0 := by
  have hsome : (s.sched.active.isSome || s.sched.upcoming.isSome) = true := by
    rwa [Bool.or_eq_true, Option.isSome_iff_ne_none, Option.isSome_iff_ne_none]
  have hlock : (clockGone s).lock.maint = false := by
    unfold clockGone releaseFlag
    split <;> simpa [modSched, clearUnlocked] using hm
  have hsched : (clockGone s).sched.active = none ∧ (clockGone s).sched.upcoming = none := ⟨rfl, rfl⟩
  have hwithheld : withheld (clockGone s) = false := beq_eq_false_iff_ne.2 (lockLevel_unset hsched.1 hlock)
  have hcalls : recordCalls (clockGone s) = false := by simp [recordCalls, hsched]
  rw [endClock_eq, withLock_lamp, if_pos hsome, scheduleDrop_drops hcalls hwithheld]
  exact (setDemand_rest ..).1

theorem essence_endClock (ha : s.sched.active = none) (hu : s.sched.upcoming = none) :
    essence (endClock s) = essence { s with sched := { s.sched with
      clock := none, minuteDue := false, endDue := false, lastEnded := none } } := by
  have hnone : (s.sched.active.isSome || s.sched.upcoming.isSome) = false := by simp [ha, hu]
  have hgone : clockGone s = { s with sched := { s.sched with
      clock := none, minuteDue := false, endDue := false, lastEnded := none } } := by
    simp only [clockGone, releaseFlag_none ha, modSched, ha, hu]
  rw [endClock_eq, essence_withLock, hnone, if_neg Bool.false_ne_true, hgone]

/-- A clock set's fields, its flags and its memory, as they stand after settling. -/
theorem setClock_settled (c : HallClock) (s : State) :
    (settle (setClock c s)).sched.clock = some c ∧ (settle (setClock c s)).sched.minuteDue = false ∧
      (settle (setClock c s)).sched.endDue = false ∧ remembers (clockPut c s) (settle (setClock c s)) := by
  have hkept := setClock_kept c s
  have htimes := hkept.times
  have hbare := settle_sched_bare (setClock c s)
  generalize setClock c s = x at hkept htimes hbare ⊢
  have hmemory := hkept.memory
  refine ⟨?_, ?_, ?_, ?_⟩
  · rw [settle_clock]
    exact congrArg Sched.clock htimes
  · exact (congrArg Sched.minuteDue hbare).trans (congrArg Sched.minuteDue htimes)
  · exact (congrArg Sched.endDue hbare).trans (congrArg Sched.endDue htimes)
  · rwa [remembers, settle_lastEnded]

theorem endClock_settled (s : State) :
    (settle (endClock s)).sched.clock = none ∧ (settle (endClock s)).sched.active = none ∧
      (settle (endClock s)).sched.upcoming = none ∧ (settle (endClock s)).sched.lastEnded = none ∧
      (settle (endClock s)).sched.endDue = false := by
  have hbare := settle_sched_bare (endClock s)
  rw [settle_clock, settle_active, settle_upcoming, settle_lastEnded, endClock_sched]
  rw [endClock_sched] at hbare
  exact ⟨rfl, rfl, rfl, rfl, congrArg Sched.endDue hbare⟩

/-- Settles O42: the clock's value is put, and the records derived from it touch no more than the memory; at its end they go. -/
theorem clockSetAndEnd : Obligations.ClockSetAndEnd := by
  intro s
  refine ⟨fun snd d w x y h hd hw hc hl => ?_, fun hq hdue hclock => ?_⟩
  · have hparse : parseClock [d, w] = some ⟨x, y⟩ := by simp only [parseClock, hd, hw]
    have hcmd : cmdSetclock snd [d, w] (nextEvent s) = yes (setClock ⟨x, y⟩ (nextEvent s)) clockFields := by
      simp only [cmdSetclock, hparse]
      exact gate_passes (s := nextEvent s) hc hl
    obtain ⟨hnow, hminute, hend, hmemory⟩ := setClock_settled ⟨x, y⟩ (nextEvent s)
    have hfields : yes (setClock ⟨x, y⟩ (nextEvent s)) clockFields = ⟨settle (setClock ⟨x, y⟩ (nextEvent s)),
        ["OK", "CLOCK", showDate x, showTime y, "WEEKDAY", showWeekday (weekdayOf x)], 0, none⟩ := by
      simp only [yes, clockFields, hnow]
    refine ⟨_, (run_verb h).trans (congrArg (fun a => Host.Outcome.next (answer snd a)) (hcmd.trans hfields)), hnow, hminute, hend,
      hmemory, fun hb he ha hu => ?_⟩
    rw [essence_settle, setClock_eq, essence_withLock, deriveRecords_bare (s := clockPut ⟨x, y⟩ (nextEvent s)) hb he ha hu]
    exact essence_nextEvent (clockPut ⟨x, y⟩ s)
  · have hrun : exec .clockEnd s = .next (settle (endClock (nextEvent s))) := by
      refine onTimeLoose_of_due hq ?_
      rw [clockEndDue, hdue, Bool.true_and, Option.isSome_iff_ne_none]
      exact hclock
    obtain ⟨hclock', hactive, hupcoming, hlast, hend⟩ := endClock_settled (nextEvent s)
    refine ⟨_, hrun, hclock', hactive, hupcoming, hlast, hend, by rw [settle_work, endClock_work, nextEvent_work],
      fun hrecord hm => ?_, fun ha hu => ?_⟩
    · rw [settle_count]
      exact endClock_count (s := nextEvent s) hrecord hm
    · rw [essence_settle, essence_endClock (s := nextEvent s) ha hu]
      exact essence_nextEvent { s with sched := { s.sched with clock := none, minuteDue := false, endDue := false, lastEnded := none } }

end Clock

end Sys2Proof.Agenda

/-! PROOFS. The booking commands (O45). -/

namespace Sys2Proof.BookingOrders

open Sys2Proof Sys2Proof.Machine Sys2Proof.Upkeep Sys2Proof.Steps Sys2Proof.Lamps Sys2Proof.Counts Sys2Proof.Picture Sys2Proof.Refusals
  Sys2Proof.Accepted Sys2Proof.LampOrders Sys2Proof.Agenda

set_option Elab.async false

/-! ## The places of the table -/

section Places

variable {s t x : State} {n m : Nat} {bk : Booking}

theorem firstEmpty_spec {α : Type} {l : List (Option α)} {k n : Nat} (h : firstEmpty k l = some n) : k ≤ n ∧ n - k < l.length := by
  induction l generalizing k with
  | nil => cases h
  | cons x l ih =>
    cases x with
    | none =>
      cases h
      simp
    | some y =>
      obtain ⟨hle, hlt⟩ := ih (k := k + 1) h
      exact ⟨by omega, by simp only [List.length_cons]; omega⟩

theorem place_some_lt {α : Type} {l : List (Option α)} {n : Nat} {a : α} (h : place l n = some a) : 1 ≤ n ∧ n - 1 < l.length := by
  cases n with
  | zero => cases h
  | succ k =>
    refine ⟨Nat.succ_pos k, ?_⟩
    by_contra hlt
    rw [place, List.getD_eq_default _ _ (by simpa using hlt)] at h
    cases h

theorem place_setPlace_same {α : Type} {l : List (Option α)} {n : Nat} {v : Option α} (h1 : 1 ≤ n) (h2 : n - 1 < l.length) :
    place (setPlace l n v) n = v := by
  obtain ⟨k, rfl⟩ : ∃ k, n = k + 1 := ⟨n - 1, by omega⟩
  have hk : k < l.length := by simpa using h2
  simp [place, setPlace, List.getD_eq_getElem?_getD, hk]

theorem place_setPlace_other {α : Type} {l : List (Option α)} {n m : Nat} {v : Option α} (h : m ≠ n) :
    place (setPlace l n v) m = place l m := by
  cases n with
  | zero => rfl
  | succ k =>
    cases m with
    | zero => rfl
    | succ j =>
      have hkj : k ≠ j := fun e => h (by rw [e])
      simp [place, setPlace, List.getD_eq_getElem?_getD, hkj]

end Places

/-! ## Beside the bookings -/

section Beside

variable {s x t : State}

theorem syncScan_sel_exam (hsel : t.sel = s.sel) (hup : t.uptime = s.uptime)
    (ha : t.work.settings.autoscan = s.work.settings.autoscan) (he : examRunning t = examRunning s) :
    (syncScan t).sel = (syncScan s).sel := by
  unfold syncScan
  rw [he, hsel, ha]
  split
  · simp only [scanReturns, modSel, hsel, hup]
  · exact hsel

/-- Settling changes nothing beside the bookings, where the running booking's lock is what it was. -/
theorem sameBesideBookings_settle (h : sameBesideBookings s x) (he : examRunning { x with
      work := { x.work with bookings := s.work.bookings, exceptions := s.work.exceptions } } = examRunning x) :
    sameBesideBookings s (settle x) := by
  unfold sameBesideBookings at h ⊢
  refine Eq.trans ?_ h
  refine essence_ext ?_ ?_ ?_ ?_ ?_ ?_ ?_ rfl rfl ?_ ?_ ?_ ?_ (settle_lamp_bare x) (settle_mode_bare x) (settle_heat_bare x)
    (settle_sched_bare x) ?_ <;> try simp
  refine syncScan_sel_again ?_ ?_ ?_ ?_ ?_ <;> try simp
  rw [settle_sel]
  exact syncScan_sel_exam rfl rfl rfl he.symm

theorem sameBesideBookings_of_blocks (h1 : x.pending = s.pending := by simp) (h2 : x.uptime = s.uptime := by simp)
    (h3 : x.choices = s.choices := by simp) (h4 : x.secondsDone = s.secondsDone := by simp)
    (h5 : x.cadenceDone = s.cadenceDone := by simp) (h6 : x.pins = s.pins := by simp)
    (h7 : ({ x.work with bookings := s.work.bookings, exceptions := s.work.exceptions } : Records) = s.work := by simp)
    (h8 : x.lamp = s.lamp := by simp) (h9 : x.mode = s.mode := by simp) (h10 : x.heat = s.heat := by simp)
    (h11 : x.ports = s.ports := by simp) (h12 : x.sel = s.sel := by simp) (h13 : x.geo = s.geo := by simp)
    (h14 : x.sched = s.sched := by simp) (h15 : x.lock = s.lock := by simp) (h16 : x.comms = s.comms := by simp) :
    sameBesideBookings s x := by
  refine essence_ext h1 h2 h3 h4 h5 h6 h7 rfl rfl h11 h13 h15 h16 (by rw [h8]) (by rw [h9]) (by rw [h10]) (by rw [h14])
    (syncScan_sel_congr h12 h2 ?_ ?_ (by rw [h14])) <;> rw [h7]

/-- The running booking's lock is read from the active record and its place alone. -/
theorem examRunning_congr (hs : t.sched.active = s.sched.active)
    (hp : ∀ o, s.sched.active = some o → o.phase = .running → place t.work.bookings o.booking = place s.work.bookings o.booking) :
    examRunning t = examRunning s := by
  have hrun : runningBooking t = runningBooking s := by
    unfold runningBooking
    rw [hs]
    split
    · split
      · exact hp _ ‹_› ‹_›
      · rfl
    · rfl
  unfold examRunning
  rw [hrun]

end Beside

/-! ## The checks -/

section Checks

variable {s : State} {n : Nat} {bk : Booking}

theorem judgeBooking_passes {k : State → Answer} (hr : refsFound s bk = true) (hp : pastNow s bk = false) (hc : conflict s n bk = none) :
    judgeBooking n bk s k = k s := by
  simp [judgeBooking, hr, hp, hc]

theorem not_whollyPast {c : HallClock} (hp : pastNow s bk = false) (hc : s.sched.clock = some c) : whollyPast c bk = false := by
  unfold pastNow at hp
  rwa [hc] at hp

theorem unnamed_active {o : Occ} (hu : unnamed s n = true) (ho : s.sched.active = some o) : o.booking ≠ n := by
  unfold unnamed at hu
  rw [ho] at hu
  simpa using (Bool.and_eq_true_iff.1 hu).1

theorem bookingBusy_unnamed (hu : unnamed s n = true) : bookingBusy s n = false := by
  unfold unnamed at hu
  unfold bookingBusy
  obtain ⟨ha, hb⟩ := Bool.and_eq_true_iff.1 hu
  cases h1 : s.sched.upcoming <;> cases h2 : s.sched.active <;> simp_all

/-- A record that is not in the past, of a booking that no record names, stays in its place through an evaluation. -/
theorem evaluate_spares {x : State} {edge : Bool} (hb : place x.work.bookings n = some bk) (hp : pastNow x bk = false)
    (hu : unnamed x n = true) : place (evaluate edge x).work.bookings n = some bk := by
  have hwanes : Wanes (fun m => m ≠ n) x (evaluate edge x) := by
    refine evaluate_wanes (fun c m bk' hc hm hpast _ => ?_) fun o ho => unnamed_active hu ho
    rintro rfl
    rw [hb] at hm
    cases hm
    rw [not_whollyPast hp hc] at hpast
    cases hpast
  rw [hwanes.spared (fun h => h rfl), hb]

theorem evaluate_exceptions (x : State) (edge : Bool) : ∀ e ∈ (evaluate edge x).work.exceptions, e ∈ x.work.exceptions :=
  (evaluate_wanes (P := fun _ => True) (fun _ _ _ _ _ _ _ => trivial) fun _ _ => trivial).exceptions

end Checks

/-! ## BOOK, REBOOK and UNBOOK -/

section Orders

variable {s x : State} {snd : Sender} {n : Nat} {bk : Booking} {v : Option Booking} {l : List Exc}

/-- The table with one place replaced and the exceptions with it, before the writes. -/
def tabled (n : Nat) (v : Option Booking) (l : List Exc) (s : State) : State :=
  { s with work := { s.work with bookings := setPlace s.work.bookings n v, exceptions := l } }

theorem tabled_nextEvent : tabled n v l (nextEvent s) = nextEvent (tabled n v l s) := rfl

/-- Beside the bookings nothing changes by a new table whose writes are asked for. -/
theorem settle_tabled {y : State} (hy : y = ask snd (.booking n) (tabled n v l (nextEvent s)) ∨
      y = ask snd .exceptions (ask snd (.booking n) (tabled n v l (nextEvent s))))
    (ho : ∀ o, s.sched.active = some o → o.phase = .running → o.booking ≠ n) :
    (settle y).work = { s.work with bookings := setPlace s.work.bookings n v, exceptions := l } ∧ sameBesideBookings s (settle y) := by
  have hwork : y.work = { s.work with bookings := setPlace s.work.bookings n v, exceptions := l } := by
    rcases hy with rfl | rfl <;> simp [tabled]
  have hsched : y.sched = s.sched := by rcases hy with rfl | rfl <;> simp [tabled]
  refine ⟨by rw [settle_work, hwork], sameBesideBookings_settle ?_ (examRunning_congr rfl fun o h hr => ?_)⟩
  · rcases hy with rfl | rfl <;> simp only [tabled] <;> exact sameBesideBookings_of_blocks
  · rw [hwork]
    rw [hsched] at h
    exact (place_setPlace_other (ho o h hr)).symm

theorem settle_ask_store (k : RecKey) (y : State) : (settle (ask snd k (nextEvent y))).store = (ask snd k y).store := by
  rw [settle_store, ask_nextEvent]
  rfl

theorem setPlace_set (h : 1 ≤ n) (r : List (Option Booking)) : setPlace r n v = r.set (n - 1) v := by
  obtain ⟨k, rfl⟩ : ∃ k, n = k + 1 := ⟨n - 1, by omega⟩
  rfl

/-- Settles O45, part BOOK. -/
theorem book_stored {args : List String} (hc : below snd .operator = false) (hl : lockedOut s snd.cls = false)
    (h : takesNow s snd args = true) (hp : parseBook args s = some bk) (hn : firstEmpty 1 s.work.bookings = some n)
    (hr : refsFound s bk = true) (hpast : pastNow s bk = false) (hconf : conflict s n bk = none) (hu : unnamed s n = true) :
    ∃ t, exec (.book snd args) s = .next (answer snd ⟨t, ["OK", "BOOK", showNat n], 1, none⟩) ∧
        place t.work.bookings n = some bk ∧
        (s.sched.clock = none →
          t.work = { s.work with bookings := s.work.bookings.set (n - 1) (some bk) } ∧
          t.store = (ask snd (.booking n) { s with work := t.work }).store ∧ sameBesideBookings s t) := by
  obtain ⟨h1, h2⟩ := firstEmpty_spec hn
  obtain ⟨y, hy⟩ : ∃ y, y = ask snd (.booking n) (tabled n (some bk) s.work.exceptions (nextEvent s)) := ⟨_, rfl⟩
  have hcmd : cmdBook snd args (nextEvent s) = yes (evaluate false y) (fun _ => ["BOOK", showNat n]) 1 := by
    have hgate : cmdBook snd args (nextEvent s) = addBooking snd bk (nextEvent s) := by
      rw [cmdBook, bookGate_passes (s := nextEvent s) hc hl]
      exact congrArg (fun o => match o with
        | none => no "ARGS" (nextEvent s)
        | some b => addBooking snd b (nextEvent s)) hp
    rw [hgate, addBooking]
    simp only [nextEvent_work, hn]
    rw [judgeBooking_passes (s := nextEvent s) hr hpast hconf, hy]
    rfl
  refine ⟨_, (run_verb h).trans (congrArg (fun a => Host.Outcome.next (answer snd a)) hcmd), ?_, fun hunset => ?_⟩
  · rw [settle_work]
    refine evaluate_spares ?_ ?_ ?_
    · rw [hy, ask_work]
      exact place_setPlace_same h1 h2
    · rw [← hpast, hy]
      simp [pastNow, tabled]
    · rw [← hu, unnamed_congr (s := s)]
      rw [hy]
      simp [tabled]
  · have hunset' : y.sched.clock = none := by
      rw [hy]
      simpa [tabled] using hunset
    obtain ⟨hwork, hbeside⟩ := settle_tabled (.inl hy) fun o ho _ => unnamed_active hu ho
    rw [evaluate_unset hunset']
    refine ⟨by rw [hwork, setPlace_set h1], ?_, hbeside⟩
    rw [hwork, hy, tabled_nextEvent, settle_ask_store]
    rfl

theorem bookingBusy_running {o : Occ} (hb : bookingBusy s n = false) (ho : s.sched.active = some o) (hr : o.phase = .running) :
    o.booking ≠ n := by
  unfold bookingBusy at hb
  rw [ho] at hb
  simpa [hr] using (Bool.or_eq_false_iff.1 hb).2

theorem dropped_eq (l : List Exc) (p : Exc → Bool) : (l.filter fun e => !p e).length = l.length - (l.filter p).length := by
  have h := List.length_eq_length_filter_add (l := l) p
  omega

/-- Settles O45, part REBOOK. -/
theorem rebook_stored {args : List String} {old : Booking} (hc : below snd .operator = false) (hl : lockedOut s snd.cls = false)
    (h : takesNow s snd args = true) (hp : parseRebook args s = some (n, some bk)) (hold : place s.work.bookings n = some old)
    (hbusy : bookingBusy s n = false) (hr : refsFound s bk = true) (hpast : pastNow s bk = false) (hconf : conflict s n bk = none) :
    let keeps (e : Exc) : Bool := e.booking != n || (bk.dates.isWeekly && bk.dates.onDate e.date)
    let kept := s.work.exceptions.filter keeps
    ∃ t, exec (.rebook snd args) s = .next (answer snd
        ⟨t, ["OK", "BOOK", showNat n, "DROPPED",
             showNat (if bk = old then 0 else s.work.exceptions.length - kept.length)], if bk = old then 0 else 2, none⟩) ∧
      (unnamed s n = true → place t.work.bookings n = some bk) ∧
      (bk ≠ old → ∀ e ∈ t.work.exceptions, e ∈ kept) ∧
      (s.sched.clock = none →
        (bk = old → essence t = essence s) ∧
        (bk ≠ old →
          t.work = { s.work with bookings := s.work.bookings.set (n - 1) (some bk), exceptions := kept } ∧
          t.store = (ask snd .exceptions (ask snd (.booking n) { s with work := t.work })).store ∧ sameBesideBookings s t)) := by
  intro keeps kept
  obtain ⟨h1, h2⟩ := place_some_lt hold
  have hgate : cmdRebook snd args (nextEvent s) = changeBooking snd n (some old) (some bk) (nextEvent s) := by
    rw [cmdRebook, bookGate_passes (s := nextEvent s) hc hl]
    refine (congrArg (fun o => match o with
      | none => no "ARGS" (nextEvent s)
      | some (m, b) => changeBooking snd m (place s.work.bookings m) b (nextEvent s)) hp).trans ?_
    simp only [hold]
  have hchange : changeBooking snd n (some old) (some bk) (nextEvent s) =
      if bk = old then yes (evaluate false (nextEvent s)) (rebookFields n 0)
      else yes (evaluate false (storeBooking snd n bk (nextEvent s))) (rebookFields n (droppedCount (nextEvent s) n bk)) 2 := by
    unfold changeBooking
    exact (if_neg (by rw [show bookingBusy (nextEvent s) n = false from hbusy]; exact Bool.false_ne_true)).trans
      (judgeBooking_passes (s := nextEvent s) hr hpast hconf)
  by_cases hsame : bk = old
  · subst hsame
    have hcmd := hgate.trans (hchange.trans (if_pos rfl))
    simp only [if_true, ne_eq, not_true_eq_false, false_imp_iff, and_true, true_and, true_imp_iff]
    refine ⟨_, (run_verb h).trans (congrArg (fun a => Host.Outcome.next (answer snd a)) hcmd), fun hu => ?_, fun hunset => ?_⟩
    · rw [settle_work]
      exact evaluate_spares (x := nextEvent s) hold hpast hu
    · rw [essence_settle, evaluate_unset (s := nextEvent s) hunset]
      exact essence_nextEvent s
  · obtain ⟨y, hy⟩ : ∃ y, y = ask snd .exceptions (ask snd (.booking n) (tabled n (some bk) kept (nextEvent s))) := ⟨_, rfl⟩
    have hcmd : cmdRebook snd args (nextEvent s) =
        yes (evaluate false y) (rebookFields n (s.work.exceptions.length - kept.length)) 2 := by
      rw [hgate, hchange, if_neg hsame, hy, droppedCount, dropped_eq]
      rfl
    rw [if_neg hsame, if_neg hsame]
    refine ⟨_, (run_verb h).trans (congrArg (fun a => Host.Outcome.next (answer snd a)) hcmd), fun hu => ?_, fun _ e he => ?_,
      fun hunset => ⟨fun e => absurd e hsame, fun _ => ?_⟩⟩
    · rw [settle_work]
      refine evaluate_spares ?_ ?_ ?_
      · rw [hy, ask_work, ask_work]
        exact place_setPlace_same h1 h2
      · rw [← hpast, hy]
        simp [pastNow, tabled]
      · rw [← hu, unnamed_congr (s := s)]
        rw [hy]
        simp [tabled]
    · rw [settle_work] at he
      have hin := evaluate_exceptions y false e he
      rw [hy, ask_work, ask_work] at hin
      exact hin
    · have hunset' : y.sched.clock = none := by
        rw [hy]
        simpa [tabled] using hunset
      obtain ⟨hwork, hbeside⟩ := settle_tabled (.inr hy) fun o ho hr => bookingBusy_running hbusy ho hr
      rw [evaluate_unset hunset']
      refine ⟨by rw [hwork, setPlace_set h1], ?_, hbeside⟩
      rw [hwork, hy, tabled_nextEvent, ask_nextEvent, settle_ask_store]
      rfl

/-! ## UNBOOK -/

/-- The exceptions that stay when a booking goes. -/
def othersOf (n : Nat) (s : State) : List Exc := s.work.exceptions.filter fun e => e.booking != n

theorem skipsOf_length (s : State) (n : Nat) : (skipsOf s n).length = s.work.exceptions.length - (othersOf n s).length := by
  have hp : (fun e : Exc => e.booking == n) = fun e => !(e.booking != n) := by
    funext e
    simp [bne]
  rw [skipsOf, List.length_map, othersOf, ← dropped_eq, hp]

theorem retireByCommand_eq (n : Nat) (x : State) :
    retireByCommand snd n x = ask snd .exceptions (ask snd (.booking n) (tabled n none (othersOf n x) x)) := rfl

theorem endGraceOf_other (h : ∀ o, s.sched.active = some o → o.booking ≠ n) : endGraceOf n s = s := by
  unfold endGraceOf
  split
  · exact if_neg (h _ ‹_›)
  · rfl

theorem cmdUnbook_passes {w : String} (hc : below snd .operator = false) (hl : lockedOut s snd.cls = false)
    (hn : parseNatIn 1 48 w = some n) (hfilled : place s.work.bookings n ≠ none) (hbusy : bookingBusy s n = false) :
    cmdUnbook snd [w] s = yes (retireByCommand snd n (endGraceOf n s))
      (fun _ => ["UNBOOK", showNat n, "SKIPS", showNat (s.work.exceptions.length - (othersOf n s).length)]) 2 := by
  have hparse : parseOnePlace 48 [w] = some n := hn
  rw [cmdUnbook, bookGate_passes hc hl]
  simp only [hparse]
  rw [removeBooking, if_neg (by simpa using hfilled), if_neg (by simp [hbusy]), skipsOf_length]

/-- Settles O45, part UNBOOK of a booking that no record names. -/
theorem unbook_unnamed {w : String} (hc : below snd .operator = false) (hl : lockedOut s snd.cls = false)
    (h : takesNow s snd [w] = true) (hn : parseNatIn 1 48 w = some n) (hfilled : place s.work.bookings n ≠ none)
    (hu : unnamed s n = true) :
    ∃ t, exec (.unbook snd [w]) s = .next (answer snd ⟨t, ["OK", "UNBOOK", showNat n, "SKIPS",
        showNat (s.work.exceptions.length - (othersOf n s).length)], 2, none⟩) ∧
      t.work = { s.work with bookings := s.work.bookings.set (n - 1) none, exceptions := othersOf n s } ∧
      t.store = (ask snd .exceptions (ask snd (.booking n) { s with work := t.work })).store ∧ placed s t [] ∧
      sameBesideBookings s t := by
  have hcmd := cmdUnbook_passes (s := nextEvent s) hc hl hn hfilled (bookingBusy_unnamed hu)
  obtain ⟨bk, hbk⟩ := Option.ne_none_iff_exists'.1 hfilled
  obtain ⟨h1, -⟩ := place_some_lt hbk
  obtain ⟨y, hy⟩ : ∃ y, y = ask snd .exceptions (ask snd (.booking n) (tabled n none (othersOf n s) (nextEvent s))) := ⟨_, rfl⟩
  have hretire : retireByCommand snd n (endGraceOf n (nextEvent s)) = y := by
    rw [endGraceOf_other (s := nextEvent s) fun o ho => unnamed_active hu ho, retireByCommand_eq, hy]
    rfl
  rw [hretire] at hcmd
  obtain ⟨hwork, hbeside⟩ := settle_tabled (.inr hy) fun o ho _ => unnamed_active hu ho
  refine ⟨_, (run_verb h).trans (congrArg (fun a => Host.Outcome.next (answer snd a)) hcmd), by rw [hwork, setPlace_set h1], ?_,
    placed_settle (by rw [hy]; simp [tabled]) (by rw [hy]; simp [tabled]), hbeside⟩
  rw [hwork, hy, tabled_nextEvent, ask_nextEvent, settle_ask_store]
  rfl

/-! ### A Grace that UNBOOK ends -/

/-- A write that a command has asked for stays asked for through another. -/
theorem writeAsked_ask {k k' : RecKey} (h : writeAsked snd k x) : writeAsked snd k (ask snd k' x) := by
  rcases h with ⟨j, hj, hk, hw⟩ | ⟨r, hr, hk, hw⟩
  · refine .inl ⟨j, ?_, hk, hw⟩
    unfold ask askFor startWrite
    split
    · exact hj
    · simp [hj]
  · unfold ask askFor
    split
    · refine .inr ⟨_, List.mem_map.2 ⟨r, hr, rfl⟩, ?_⟩
      split
      · exact ⟨hk, fun h => List.mem_append_left _ (hw h)⟩
      · exact ⟨hk, hw⟩
    · exact startWrite_asks (r := r) (List.mem_append_left _ hr) hk hw

/-- A lamp's write is in progress. -/
def lampWrites (x : State) : Prop := ∃ j, x.store.busy = some j ∧ ∃ b, j.key = .lamp b

/-- Nothing is in progress and nothing waits. -/
def storeFree (x : State) : Prop := x.store.busy = none ∧ x.store.cmdQ = [] ∧ x.store.ownQ = []

theorem startWrite_busy {j : WriteJob} (h : x.store.busy = some j) : (startWrite x).store.busy = some j := by
  simp only [startWrite, h]

theorem askOwn_busy {k : RecKey} {j : WriteJob} (h : x.store.busy = some j) : (askOwn k x).store.busy = some j := by
  unfold askOwn
  split
  · exact h
  · exact startWrite_busy h

theorem lampWrites_ask {k : RecKey} (h : lampWrites x) : lampWrites (ask snd k x) := by
  obtain ⟨j, hj, hk⟩ := h
  refine ⟨j, ?_, hk⟩
  unfold ask askFor
  split
  · exact hj
  · exact startWrite_busy hj

theorem askOwn_free {b : Bay} (h : storeFree x) : lampWrites (askOwn (.lamp b) x) := by
  obtain ⟨hb, hc, ho⟩ := h
  refine ⟨⟨.lamp b, x.work, []⟩, ?_, b, rfl⟩
  simp [askOwn, writeWaits, startWrite, hb, hc, ho, beginWrite_store]

/-- An extinguish from a free store starts the bay's write where it has unsaved seconds, and else leaves the store and the counts. -/
theorem extinguish_free {b : Bay} (h : storeFree x) :
    lampWrites (extinguish b x) ∨ storeFree (extinguish b x) ∧ (extinguish b x).wear = x.wear ∧ x.wear.get b = 0 := by
  unfold extinguish leaveBurning
  dsimp only
  split
  · rename_i hserves
    refine .inr ⟨h, rfl, ?_⟩
    exact beq_iff_eq.1 (Bool.and_eq_true_iff.1 hserves).2
  · exact .inl (askOwn_free h)

theorem extinguish_writes {b : Bay} (h : lampWrites x) : lampWrites (extinguish b x) := by
  obtain ⟨j, hj, hk⟩ := h
  refine ⟨j, ?_, hk⟩
  unfold extinguish leaveBurning
  dsimp only
  split
  · exact hj
  · exact askOwn_busy hj

theorem outWhere_writes {w : PerBay Bool} {b : Bay} (h : lampWrites x) : lampWrites (outWhere w b x) := by
  unfold outWhere
  split
  · exact extinguish_writes h
  · exact h

theorem outWhere_free {w : PerBay Bool} {b : Bay} (h : storeFree x) :
    lampWrites (outWhere w b x) ∨ storeFree (outWhere w b x) ∧ (outWhere w b x).wear = x.wear := by
  unfold outWhere
  split
  · exact (extinguish_free h).imp id fun hz => ⟨hz.1, hz.2.1⟩
  · exact .inr ⟨h, rfl⟩

theorem outWhere_starts {w : PerBay Bool} {b : Bay} (h : storeFree x) (hlit : (bay x b).st = .lit) (hw : w.get b = false)
    (hwear : x.wear.get b ≠ 0) : lampWrites (outWhere w b x) := by
  rw [outWhere, if_pos ⟨hlit, hw⟩]
  exact (extinguish_free h).elim id fun hz => absurd hz.2.2 hwear

/-- A Lit bay with unsaved seconds that leaves the wanted set has its lamp's write, or the other lamp's, in progress. -/
theorem putWanted_writes {w : PerBay Bool} {b : Bay} (h : storeFree x) (hlit : (bay x b).st = .lit) (hw : w.get b = false)
    (hwear : x.wear.get b ≠ 0) : lampWrites (putWanted w x) := by
  rw [putWanted_eq]
  generalize hy : ({ x with lamp := { x.lamp with wanted := w } } : State) = y
  have hfree : storeFree y := by subst hy; exact h
  have hlity : (bay y b).st = .lit := by subst hy; exact hlit
  have hweary : y.wear.get b ≠ 0 := by subst hy; exact hwear
  cases b with
  | bayA => exact outWhere_writes (outWhere_starts hfree hlity hw hweary)
  | bayB =>
    rcases outWhere_free (w := w) (b := .bayA) hfree with hz | ⟨hz, hwz⟩
    · exact outWhere_writes hz
    · refine outWhere_starts hz ?_ hw (by rwa [hwz])
      unfold outWhere
      split
      · rw [bay_extinguish]
        exact hlity
      · exact hlity

theorem drop_writes {b : Bay} {o : DemandOrigin} (h : storeFree x) (hlit : (bay x b).st = .lit) (hcount : x.lamp.count ≠ 0)
    (hwear : x.wear.get b ≠ 0) : lampWrites (drop o x) := by
  rw [drop, setDemand, if_neg (Ne.symm hcount)]
  exact putWanted_writes h hlit (by cases b <;> rfl) hwear

/-- The record in Grace ends by UNBOOK, before the booking goes: the record, its notice and the schedule's drop. -/
theorem endGraceOf_eq {o : Occ} (ho : s.sched.active = some o) (hn : o.booking = n) :
    endGraceOf n s = scheduleDrop (endNotice o (emptyActive o s)) := by
  simp only [endGraceOf, ho, if_pos hn]

/-- The engine's actions are withheld under the maintenance flag alone: no booking's lock is the level Maintenance. -/
theorem withheld_eq (s : State) : withheld s = s.lock.maint := by
  unfold withheld lockLevel
  cases s.lock.maint
  · split
    · rename_i h
      cases h
    · split
      · rename_i bk _
        cases bk.lock <;> rfl
      · cases s.work.settings.idlelock <;> rfl
  · rfl

/-- The state in which a record in Grace has ended, before the drop. -/
theorem endNotice_emptied (o : Occ) (s : State) : endNotice o (emptyActive o s) =
    if s.lock.maint = true then emptyActive o s else notify .booking .active (occFields o ["END"]) (emptyActive o s) := by
  rw [endNotice, withheld_eq (emptyActive o s)]
  rfl

theorem recordCalls_upcoming (h : s.sched.active = none) : recordCalls s = s.sched.upcoming.isSome := by
  simp [recordCalls, h]

/-- What the end of a record in Grace leaves, before the schedule's drop. -/
structure EndedGrace (o : Occ) (s g : State) : Prop where
  sched : g.sched = { s.sched with active := none, lastEnded := some (o.booking, o.date) }
  work : g.work = s.work
  lamp : g.lamp = s.lamp
  wear : g.wear = s.wear
  store : g.store = s.store
  lock : g.lock = s.lock
  faults : g.faults = s.faults
  notices : g.notices = if s.lock.maint = true then s.notices else s.notices.put (bookingNotice .active o ["END"])

theorem endNotice_ended (o : Occ) (s : State) : EndedGrace o s (endNotice o (emptyActive o s)) := by
  rw [endNotice_emptied]
  constructor <;> split <;> rfl

/-- With no active record the schedule's drop is made outside Maintenance where there is no upcoming one, and with one it is not. -/
theorem scheduleDrop_emptied {g : State} (ha : g.sched.active = none) :
    (g.sched.upcoming = none → g.lock.maint = false → scheduleDrop g = drop .schedule g) ∧
      (g.sched.upcoming ≠ none ∨ g.lock.maint = true → scheduleDrop g = g) := by
  have hcalls : recordCalls g = g.sched.upcoming.isSome := recordCalls_upcoming ha
  have hwith : withheld g = g.lock.maint := withheld_eq g
  refine ⟨fun hu hm => ?_, fun hor => ?_⟩
  · exact scheduleDrop_drops (by rw [hcalls, hu]; rfl) (by rw [hwith, hm])
  · rw [scheduleDrop, hcalls, hwith, if_pos]
    rcases hor with hu | hm
    · simp [Option.isSome_iff_ne_none.2 hu]
    · simp [hm]

theorem scheduleDrop_rest (g : State) :
    (scheduleDrop g).faults = g.faults ∧ (scheduleDrop g).notices = g.notices := by
  unfold scheduleDrop
  split
  · exact ⟨rfl, rfl⟩
  · simp

/-- Settles O45, part UNBOOK of the booking in Grace. -/
theorem unbook_grace {w : String} {o : Occ} (hc : below snd .operator = false) (hl : lockedOut s snd.cls = false)
    (h : takesNow s snd [w] = true) (hn : parseNatIn 1 48 w = some n) (hfilled : place s.work.bookings n ≠ none)
    (ho : s.sched.active = some o) (hon : o.booking = n) (hbusy : bookingBusy s n = false) :
    ∃ t, exec (.unbook snd [w]) s = .next (answer snd ⟨t, ["OK", "UNBOOK", showNat n, "SKIPS",
        showNat (s.work.exceptions.length - (othersOf n s).length)], 2, none⟩) ∧
      place t.work.bookings n = none ∧ t.work.exceptions = othersOf n s ∧ t.sched.active = none ∧
      t.sched.lastEnded = some (n, o.date) ∧ t.sched.upcoming = s.sched.upcoming ∧
      (s.sched.upcoming = none → s.lock.maint = false →
        t.lamp.count = 0 ∧ (s.lamp.count ≠ 0 → t.lamp.origin = .schedule)) ∧
      (s.sched.upcoming ≠ none → t.lamp.count = s.lamp.count ∧ t.lamp.origin = s.lamp.origin ∧
        t.lamp.wanted = s.lamp.wanted) ∧
      placed s t (if s.lock.maint = true then [] else [bookingNotice .active o ["END"]]) ∧
      writeAsked snd (.booking n) t ∧ writeAsked snd .exceptions t ∧
      (∀ b, s.store.busy = none → s.store.cmdQ = [] → s.store.ownQ = [] → s.sched.upcoming = none → s.lock.maint = false →
        s.lamp.count ≠ 0 → s.lamp.wanted.get b = true → (bay s b).st = .lit → s.wear.get b ≠ 0 →
        ∃ j, t.store.busy = some j ∧ ∃ x, j.key = .lamp x) := by
  have hcmd := cmdUnbook_passes (s := nextEvent s) hc hl hn hfilled hbusy
  obtain ⟨g, hg⟩ : ∃ g, g = endNotice o (emptyActive o (nextEvent s)) := ⟨_, rfl⟩
  have hend : EndedGrace o (nextEvent s) g := hg ▸ endNotice_ended o (nextEvent s)
  obtain ⟨hdrops, hstays⟩ := scheduleDrop_emptied (g := g) (by rw [hend.sched])
  rw [hend.sched, hend.lock, nextEvent_sched, nextEvent_lock] at hdrops hstays
  have hsteady := scheduleDrop_steady g
  have hsched := scheduleDrop_sched g
  obtain ⟨hfaults, hnotices⟩ := scheduleDrop_rest g
  rw [endGraceOf_eq (s := nextEvent s) ho hon, ← hg] at hcmd
  obtain ⟨z, hz⟩ : ∃ z, z = scheduleDrop g := ⟨_, rfl⟩
  rw [← hz] at hcmd hdrops hstays hsteady hsched hfaults hnotices
  have hzwork : z.work = s.work := by rw [hsteady.work, hend.work, nextEvent_work]
  have hothers : othersOf n z = othersOf n s := by rw [othersOf, hzwork, othersOf]
  have hzsched : z.sched = { s.sched with active := none, lastEnded := some (o.booking, o.date) } := by
    rw [hsched, hend.sched, nextEvent_sched]
  obtain ⟨y, hy⟩ : ∃ y, y = retireByCommand snd n z := ⟨_, rfl⟩
  rw [← hy] at hcmd
  rw [retireByCommand_eq, hothers] at hy
  have hysched : y.sched = z.sched := by rw [hy]; simp [tabled]
  have hylamp : y.lamp = z.lamp := by rw [hy]; simp [tabled]
  have hywork : y.work = { s.work with bookings := setPlace s.work.bookings n none, exceptions := othersOf n s } := by
    rw [hy, ask_work, ask_work, tabled, hzwork]
  refine ⟨_, (run_verb h).trans (congrArg (fun a => Host.Outcome.next (answer snd a)) hcmd), ?_, ?_, ?_, ?_, ?_, fun hu hm => ⟨?_, ?_⟩,
    fun hu => ⟨?_, ?_, ?_⟩, placed_settle ?_ ?_, writeAsked_settle ?_, writeAsked_settle ?_,
    fun b hfree1 hfree2 hfree3 hu hm hcount hw hlit hwear => ?_⟩
  · rw [settle_work, hywork, place_setPlace_none, if_pos rfl]
  · rw [settle_work, hywork]
  · rw [settle_active, hysched, hzsched]
  · rw [settle_lastEnded, hysched, hzsched, hon]
  · rw [settle_upcoming, hysched, hzsched]
  · rw [settle_count, hylamp, hdrops hu hm]
    exact (setDemand_rest ..).1
  · intro hcount
    rw [settle_origin, hylamp, hdrops hu hm]
    exact (drop_empties (by rw [hend.lamp]; exact hcount)).2.1
  · rw [settle_count, hylamp, hstays (.inl hu), hend.lamp, nextEvent_lamp]
  · rw [settle_origin, hylamp, hstays (.inl hu), hend.lamp, nextEvent_lamp]
  · rw [settle_wanted, hylamp, hstays (.inl hu), hend.lamp, nextEvent_lamp]
  · rw [hy, ask_faults, ask_faults, tabled, hfaults, hend.faults, nextEvent_faults]
  · rw [hy, ask_notices, ask_notices, tabled, hnotices, hend.notices, nextEvent_lock, nextEvent_notices]
    split <;> rfl
  · rw [hy]
    exact writeAsked_ask (ask_asked ..)
  · rw [hy]
    exact ask_asked ..
  · rw [settle_store]
    have hlamp : lampWrites z := by
      rw [hdrops hu hm]
      refine drop_writes (b := b) ⟨?_, ?_, ?_⟩ ?_ ?_ ?_
      · rw [hend.store]; exact hfree1
      · rw [hend.store]; exact hfree2
      · rw [hend.store]; exact hfree3
      · rw [bay, hend.lamp]; exact hlit
      · rw [hend.lamp]; exact hcount
      · rw [hend.wear]; exact hwear
    rw [hy]
    exact lampWrites_ask (lampWrites_ask hlamp)

end Orders

/-- Settles O45: each command replaces one place and asks for its writes; the evaluation that follows spares the place. -/
theorem bookingsStored : Obligations.BookingsStored := by
  intro s snd hc hl
  refine ⟨fun args bk n h hp hn hr hpast hconf hu => book_stored hc hl h hp hn hr hpast hconf hu,
    fun args n old bk h hp hold hbusy hr hpast hconf => rebook_stored hc hl h hp hold hbusy hr hpast hconf,
    fun w n h hn hfilled => ⟨fun hu => ?_, fun o ho hon _ hbusy => ?_⟩⟩
  · exact unbook_unnamed hc hl h hn hfilled hu
  · exact unbook_grace hc hl h hn hfilled ho hon hbusy

end Sys2Proof.BookingOrders

/-! PROOFS. Running over, stopping early, and idle auto-off (O44). -/

namespace Sys2Proof.Endings

open Sys2Proof Sys2Proof.Machine Sys2Proof.Upkeep Sys2Proof.Steps Sys2Proof.Lamps Sys2Proof.Counts Sys2Proof.Picture Sys2Proof.Refusals
  Sys2Proof.Accepted Sys2Proof.LampOrders Sys2Proof.Agenda Sys2Proof.BookingOrders

set_option Elab.async false

/-! ## The LOCK notice of a change of level -/

section Levels

variable {s t x : State} {f : State → State}

theorem levelNotice_congr (hl : lockLevel t = lockLevel x) (hu : t.lock.unlocked = x.lock.unlocked) : levelNotice s t = levelNotice s x := by
  rw [levelNotice, levelNotice, hl, hu]

theorem withLock_rest (f : State → State) (s : State) :
    (withLock f s).notices = (levelNotice s (f s)).foldl (fun q n => q.put n) (f s).notices ∧ (withLock f s).faults = (f s).faults ∧
      (withLock f s).lock = (f s).lock := by
  unfold withLock levelNotice
  dsimp only
  split <;> exact ⟨rfl, rfl, rfl⟩

theorem lockLevel_settle (x : State) : lockLevel (settle x) = lockLevel x :=
  lockLevel_congr (settle_lock x) (settle_active x) (settle_work x)

theorem lockLevel_withLock (f : State → State) (s : State) : lockLevel (withLock f s) = lockLevel (f s) :=
  lockLevel_congr (withLock_rest f s).2.2 (congrArg Sched.active (withLock_sched f s)) (withLock_work f s)

/-- What a command places that ends in a change of the lock level. -/
theorem placed_withLock {l : List Notice} (hf : (f x).faults = s.faults) (hn : (f x).notices = l.foldl (fun q n => q.put n) s.notices)
    (hx : lockLevel x = lockLevel s) : placed s (settle (withLock f x)) (l ++ levelNotice s (settle (withLock f x))) := by
  obtain ⟨hnotices, hfaults, hlock⟩ := withLock_rest f x
  have hlevel : levelNotice s (settle (withLock f x)) = levelNotice x (f x) := by
    rw [levelNotice_congr (x := f x) ((lockLevel_settle _).trans (lockLevel_withLock f x)) (by rw [settle_lock, hlock]), levelNotice,
      levelNotice, hx]
  refine placed_settle (hfaults.trans hf) ?_
  rw [hnotices, hn, hlevel, List.foldl_append]

end Levels

/-! ## EXTEND -/

section Ends

variable {s x : State} {snd : Sender} {c : HallClock} {o : Occ}

/-- The active record is put. -/
def putActiveOcc (o : Occ) (s : State) : State := modSched (fun y => { y with active := some o }) s

/-- The RUNNING notice is placed. -/
def noticeRunning (o : Occ) (s : State) : State :=
  notify .booking .active ([showNat o.booking, showDate o.date] ++ (["RUNNING", showMinute o.stop] ++ if o.late then ["LATE"] else [])) s

theorem runningNotice_eq {o : Occ} (h : s.sched.active = some o) : runningNotice s = noticeRunning o s := by
  simp only [runningNotice, h]
  rfl

/-- The record that an EXTEND makes (R145). -/
def extended (o : Occ) (e : Nat) : Occ := { o with stop := e, phase := .running }

theorem extendTo_eq (o : Occ) (e : Nat) (s : State) :
    extendTo o e s = noticeRunning (extended o e) (withLock (putActiveOcc (extended o e)) s) := by
  refine runningNotice_eq ?_
  rw [withLock_sched]
  rfl

theorem extendTo_rest (o : Occ) (e : Nat) (s : State) :
    (extendTo o e s).sched.active = some (extended o e) ∧ essence (extendTo o e s) = essence (putActiveOcc (extended o e) s) ∧
      (extendTo o e s).faults = s.faults ∧
      (extendTo o e s).notices = (levelNotice s (extendTo o e s) ++ [runningNoticeOf (extended o e)]).foldl (fun q n => q.put n) s.notices := by
  rw [extendTo_eq]
  obtain ⟨hnotices, hfaults, hlock⟩ := withLock_rest (putActiveOcc (extended o e)) s
  have hlevel : levelNotice s (noticeRunning (extended o e) (withLock (putActiveOcc (extended o e)) s)) =
      levelNotice s (putActiveOcc (extended o e) s) :=
    levelNotice_congr (lockLevel_withLock ..) (congrArg LockUnit.unlocked hlock)
  refine ⟨?_, ?_, ?_, ?_⟩
  · rw [noticeRunning, notify_sched, withLock_sched]
    rfl
  · rw [noticeRunning, essence_notify, essence_withLock]
  · rw [noticeRunning, notify_faults, hfaults]
    rfl
  · rw [hlevel, noticeRunning, notify_notices, hnotices, List.foldl_append]
    rfl

/-- The notices and the faults stand as at a command's start. -/
theorem levelNotice_nextEvent (s t : State) : levelNotice (nextEvent s) t = levelNotice s t := rfl

theorem levelNotice_settle (s x : State) : levelNotice s (settle x) = levelNotice s x :=
  levelNotice_congr (lockLevel_settle x) (by rw [settle_lock])

/-- Settles O44, part EXTEND. -/
theorem extend_stored {w : String} {m : Nat} (hl : lockedOut s snd.cls = false) (hclock : s.sched.clock = some c)
    (ho : s.sched.active = some o) (h : takesNow s snd [w] = true) (hm : parseNatIn 1 60 w = some m)
    (hc : below snd .presenter = false) :
    let e := if o.phase = .grace then (c.abs / 60 - o.date * 1440) + 1 + m else o.stop + m
    let o' : Occ := { o with stop := e, phase := .running }
    e ≤ 1440 → extendConflict s o e = none →
    ∃ t, exec (.extend snd [w]) s = .next (answer snd ⟨t, ["OK", "EXTEND", showNat o.booking, "END", showMinute e], 0, none⟩) ∧
      t.sched.active = some o' ∧ essence t = essence { s with sched := { s.sched with active := some o' } } ∧
      placed s t (levelNotice s t ++ [runningNoticeOf o']) := by
  intro e o' he hconf
  have hend : extendedEnd c o m = e := by
    unfold extendedEnd minuteOn
    cases hp : o.phase <;> simp [e, hp]
  have hcmd : cmdExtend snd [w] (nextEvent s) =
      yes (extendTo o e (nextEvent s)) (fun _ => ["EXTEND", showNat o.booking, "END", showMinute e]) := by
    have hparse : parseExtend [w] = some m := hm
    have hconf' : extendConflict (nextEvent s) o e = none := hconf
    simp only [cmdExtend, hparse]
    rw [gate_passes (s := nextEvent s) hc hl]
    simp only [extendBy, nextEvent_sched, hclock, ho, hend, if_neg (Nat.not_lt.2 he), hconf']
  obtain ⟨hactive, hessence, hfaults, hnotices⟩ := extendTo_rest o e (nextEvent s)
  refine ⟨_, (run_verb h).trans (congrArg (fun a => Host.Outcome.next (answer snd a)) hcmd), ?_, ?_, ?_⟩
  · rw [settle_active, hactive]
    rfl
  · rw [essence_settle, hessence]
    exact essence_nextEvent (putActiveOcc o' s)
  · rw [levelNotice_settle]
    exact placed_settle hfaults hnotices

/-! ## ENDNOW -/

/-- A record whose phase has ended into Grace at a minute. -/
def graced (o : Occ) (m : Nat) : Occ := { o with stop := m, phase := .grace }

theorem enterGrace_at (o : Occ) (m : Nat) (s : State) : enterGrace (putActiveOcc { o with stop := m } s) =
    if s.lock.maint = true then putActiveOcc (graced o m) s
    else notify .booking .active (graceNotice (graced o m)).fields (clearUnlocked (putActiveOcc (graced o m) s)) := by
  have hwith : withheld (putActiveOcc { o with stop := m } s) = s.lock.maint := withheld_eq _
  show (if withheld (putActiveOcc { o with stop := m } s) = true then _ else _) = _
  rw [hwith]
  rfl

/-- The lock as a phase's end leaves it outside Maintenance (R142). -/
def relocked (s : State) : LockUnit := if s.lock.maint = true then s.lock else { s.lock with unlocked := false, unlockedBy := none }

/-- What the end of a phase into Grace leaves. -/
structure Graced (o : Occ) (s g : State) : Prop where
  sched : g.sched = { s.sched with active := some o }
  lock : g.lock = relocked s
  lamp : g.lamp = s.lamp
  faults : g.faults = s.faults
  notices : g.notices = (if s.lock.maint = true then [] else [graceNotice o]).foldl (fun q n => q.put n) s.notices
  essence : essence g = essence { s with sched := g.sched, lock := g.lock }

theorem enterGrace_graced (o : Occ) (m : Nat) (s : State) : Graced (graced o m) s (enterGrace (putActiveOcc { o with stop := m } s)) := by
  rw [enterGrace_at]
  by_cases hm : s.lock.maint = true
  · rw [if_pos hm]
    exact ⟨rfl, (if_pos hm).symm, rfl, rfl, by rw [if_pos hm]; rfl, rfl⟩
  · rw [if_neg hm]
    exact ⟨rfl, (if_neg hm).symm, rfl, rfl, by rw [if_neg hm]; rfl, by rw [essence_notify]; rfl⟩

/-- A retirement touches neither the lamps nor the lock, and places no notice. -/
theorem retireEnded_rest (o : Occ) (s : State) :
    (retireEnded o s).lamp = s.lamp ∧ (retireEnded o s).lock = s.lock ∧ (retireEnded o s).faults = s.faults ∧
      (retireEnded o s).notices = s.notices := by
  have hretire : (retireBooking o.booking s).lamp = s.lamp ∧ (retireBooking o.booking s).lock = s.lock ∧
      (retireBooking o.booking s).faults = s.faults ∧ (retireBooking o.booking s).notices = s.notices := by
    unfold retireBooking writeExceptions emptyBooking
    split <;> simp
  unfold retireEnded
  split
  · generalize retireBooking o.booking s = r at hretire
    have hite (p : Prop) [Decidable p] : (if p then r else s).lamp = s.lamp ∧ (if p then r else s).lock = s.lock ∧
        (if p then r else s).faults = s.faults ∧ (if p then r else s).notices = s.notices := by
      split
      · exact hretire
      · exact ⟨rfl, rfl, rfl, rfl⟩
    exact hite _
  · exact ⟨rfl, rfl, rfl, rfl⟩

/-- What the end of the active record leaves, before the schedule's drop. -/
structure Ended (o : Occ) (s g : State) : Prop where
  sched : g.sched = { s.sched with active := none, lastEnded := some (o.booking, o.date) }
  lock : g.lock = s.lock
  lamp : g.lamp = s.lamp
  faults : g.faults = s.faults
  notices : g.notices = (if s.lock.maint = true then [] else [bookingNotice .active o ["END"]]).foldl (fun q n => q.put n) s.notices

theorem endActive_ended (h : s.sched.active = some o) : Ended o s (endActive s) := by
  have hend : endActive s = endNotice o (retireEnded o (emptyActive o s)) := by simp only [endActive, h]
  obtain ⟨hlamp, hlock, hfaults, hnotices⟩ := retireEnded_rest o (emptyActive o s)
  have hwith : withheld (retireEnded o (emptyActive o s)) = s.lock.maint := by
    rw [withheld_eq, hlock]
    rfl
  have hnotice : endNotice o (retireEnded o (emptyActive o s)) = if s.lock.maint = true then retireEnded o (emptyActive o s)
      else notify .booking .active (occFields o ["END"]) (retireEnded o (emptyActive o s)) := by
    rw [endNotice, hwith]
  refine ⟨endActive_sched h, ?_, ?_, ?_, ?_⟩ <;> rw [hend, hnotice] <;> split
  · exact hlock
  · exact hlock
  · exact hlamp
  · exact hlamp
  · exact hfaults
  · exact hfaults
  · rw [hnotices]
    rfl
  · rw [notify_notices, hnotices]
    rfl

/-- The schedule's drop after the end of the active record. -/
structure Dropped (s t : State) : Prop where
  drops : s.sched.upcoming = none → s.lock.maint = false → t.lamp.count = 0
  stays : s.sched.upcoming ≠ none ∨ s.lock.maint = true →
    t.lamp.count = s.lamp.count ∧ t.lamp.origin = s.lamp.origin ∧ t.lamp.wanted = s.lamp.wanted
  sched : t.sched = s.sched
  lock : t.lock = s.lock
  faults : t.faults = s.faults
  notices : t.notices = s.notices

theorem scheduleDrop_dropped (h : s.sched.active = none) : Dropped s (scheduleDrop s) := by
  obtain ⟨hdrops, hstays⟩ := scheduleDrop_emptied h
  obtain ⟨hfaults, hnotices⟩ := scheduleDrop_rest s
  refine ⟨fun hu hm => ?_, fun hor => ?_, scheduleDrop_sched s, ?_, hfaults, hnotices⟩
  · rw [hdrops hu hm]
    exact (setDemand_rest ..).1
  · rw [hstays hor]
    exact ⟨rfl, rfl, rfl⟩
  · unfold scheduleDrop
    split
    · rfl
    · simp

theorem endPhase_grace (hclock : s.sched.clock = some c) (ho : s.sched.active = some o) (hg : o.phase = .grace) :
    endPhase s = yes (scheduleDrop (endActive s)) (fun _ => ["ENDNOW", showNat o.booking, "END"]) := by
  simp only [endPhase, hclock, ho, if_pos hg]

theorem endPhase_running (hclock : s.sched.clock = some c) (ho : s.sched.active = some o) (hg : o.phase ≠ .grace) :
    endPhase s = yes (endRunning o (c.abs / 60 - o.date * 1440) s) (fun _ => ["ENDNOW", showNat o.booking, "GRACE", "UNTIL",
      showMinute ((c.abs / 60 - o.date * 1440 + o.grace) % 1440)]) := by
  simp only [endPhase, hclock, ho, if_neg hg]
  rfl

/-- Settles O44, part ENDNOW of a Grace. -/
theorem endnow_grace (hl : lockedOut s snd.cls = false) (hclock : s.sched.clock = some c) (ho : s.sched.active = some o)
    (h : takesNow s snd [] = true) (hc : below snd .operator = false) (hg : o.phase = .grace) :
    ∃ t, exec (.endnow snd []) s = .next (answer snd ⟨t, ["OK", "ENDNOW", showNat o.booking, "END"], 0, none⟩) ∧
      t.sched.active = none ∧ t.sched.lastEnded = some (o.booking, o.date) ∧ t.sched.upcoming = s.sched.upcoming ∧
      (s.sched.upcoming = none → s.lock.maint = false → t.lamp.count = 0) ∧
      (s.sched.upcoming ≠ none ∨ s.lock.maint = true → t.lamp.count = s.lamp.count ∧ t.lamp.origin = s.lamp.origin ∧
        t.lamp.wanted = s.lamp.wanted) ∧ t.lock = s.lock ∧
      placed s t (if s.lock.maint = true then [] else [bookingNotice .active o ["END"]]) := by
  have hcmd : cmdEndnow snd [] (nextEvent s) =
      yes (scheduleDrop (endActive (nextEvent s))) (fun _ => ["ENDNOW", showNat o.booking, "END"]) :=
    (gate_passes (s := nextEvent s) hc hl).trans (endPhase_grace (s := nextEvent s) hclock ho hg)
  have hend := endActive_ended (s := nextEvent s) ho
  generalize endActive (nextEvent s) = g at hcmd hend
  have hdrop := scheduleDrop_dropped (s := g) (by rw [hend.sched])
  generalize scheduleDrop g = z at hcmd hdrop
  have hsched : z.sched = { s.sched with active := none, lastEnded := some (o.booking, o.date) } := by
    rw [hdrop.sched, hend.sched, nextEvent_sched]
  refine ⟨_, (run_verb h).trans (congrArg (fun a => Host.Outcome.next (answer snd a)) hcmd), ?_, ?_, ?_, fun hu hm => ?_, fun hor => ?_,
    ?_, placed_settle ?_ ?_⟩
  · rw [settle_active, hsched]
  · rw [settle_lastEnded, hsched]
  · rw [settle_upcoming, hsched]
  · rw [settle_count]
    exact hdrop.drops (by rw [hend.sched]; exact hu) (by rw [hend.lock]; exact hm)
  · rw [settle_count, settle_origin, settle_wanted]
    have hstays := hdrop.stays (by rw [hend.sched, hend.lock]; exact hor)
    rwa [hend.lamp] at hstays
  · rw [settle_lock, hdrop.lock, hend.lock, nextEvent_lock]
  · rw [hdrop.faults, hend.faults, nextEvent_faults]
  · rw [hdrop.notices, hend.notices, nextEvent_notices, nextEvent_lock]

/-- An ENDNOW of a phase before Grace, with the lock compared around it. -/
def endsInto (o : Occ) (m : Nat) (s : State) : State :=
  if o.grace = 0 then scheduleDrop (endActive (enterGrace (putActiveOcc { o with stop := m } s)))
  else enterGrace (putActiveOcc { o with stop := m } s)

theorem endRunning_eq (o : Occ) (m : Nat) (s : State) : endRunning o m s = withLock (endsInto o m) s := rfl

theorem endsInto_graced {m : Nat} (h : 0 < o.grace) : Graced (graced o m) s (endsInto o m s) := by
  rw [endsInto, if_neg (Nat.ne_of_gt h)]
  exact enterGrace_graced o m s

/-- A grace of 0 ends in the same step. -/
structure EndedNow (o : Occ) (s t : State) : Prop where
  sched : t.sched = { s.sched with active := none, lastEnded := some (o.booking, o.date) }
  lock : t.lock = relocked s
  drops : s.sched.upcoming = none → s.lock.maint = false → t.lamp.count = 0
  faults : t.faults = s.faults
  notices : t.notices = (if s.lock.maint = true then [] else [graceNotice o, bookingNotice .active o ["END"]]).foldl
    (fun q n => q.put n) s.notices

theorem relocked_maint (s : State) : (relocked s).maint = s.lock.maint := by
  unfold relocked
  split <;> rfl

theorem endsInto_ended {m : Nat} (h : o.grace = 0) : EndedNow (graced o m) s (endsInto o m s) := by
  have hgrace := enterGrace_graced o m s
  rw [endsInto, if_pos h]
  generalize enterGrace (putActiveOcc { o with stop := m } s) = g at hgrace
  have hend := endActive_ended (s := g) (o := graced o m) (by rw [hgrace.sched])
  generalize endActive g = e at hend
  have hdrop := scheduleDrop_dropped (s := e) (by rw [hend.sched])
  have hmaint : g.lock.maint = s.lock.maint := by rw [hgrace.lock, relocked_maint]
  refine ⟨?_, ?_, fun hu hm => ?_, ?_, ?_⟩
  · rw [hdrop.sched, hend.sched, hgrace.sched]
  · rw [hdrop.lock, hend.lock, hgrace.lock]
  · exact hdrop.drops (by rw [hend.sched, hgrace.sched]; exact hu) (by rw [hend.lock, hmaint, hm])
  · rw [hdrop.faults, hend.faults, hgrace.faults]
  · rw [hdrop.notices, hend.notices, hgrace.notices, hmaint]
    split <;> rfl

theorem withLock_lockUnit (f : State → State) (s : State) : (withLock f s).lock = (f s).lock := (withLock_rest f s).2.2

theorem relocked_nextEvent (s : State) : relocked (nextEvent s) = relocked s := rfl

/-- Settles O44, part ENDNOW of a phase before Grace. -/
theorem endnow_running (hl : lockedOut s snd.cls = false) (hclock : s.sched.clock = some c) (ho : s.sched.active = some o)
    (h : takesNow s snd [] = true) (hc : below snd .operator = false) (hg : o.phase ≠ .grace) :
    let now : Nat := c.abs / 60 - o.date * 1440
    ∃ t, exec (.endnow snd []) s = .next (answer snd
        ⟨t, ["OK", "ENDNOW", showNat o.booking, "GRACE", "UNTIL", showMinute ((now + o.grace) % 1440)], 0, none⟩) ∧
      t.lock = (if s.lock.maint = true then s.lock else { s.lock with unlocked := false, unlockedBy := none }) ∧
      (0 < o.grace →
        t.sched.active = some { o with stop := now, phase := .grace } ∧
        essence t = essence { s with sched := { s.sched with active := t.sched.active }, lock := t.lock } ∧
        placed s t ((if s.lock.maint = true then [] else [graceNotice { o with stop := now }]) ++ levelNotice s t)) ∧
      (o.grace = 0 →
        t.sched.active = none ∧ t.sched.lastEnded = some (o.booking, o.date) ∧ t.sched.upcoming = s.sched.upcoming ∧
        (s.sched.upcoming = none → s.lock.maint = false → t.lamp.count = 0) ∧
        placed s t ((if s.lock.maint = true then [] else
          [graceNotice { o with stop := now }, bookingNotice .active o ["END"]]) ++ levelNotice s t)) := by
  intro now
  have hcmd := (gate_passes (s := nextEvent s) hc hl).trans (endPhase_running (s := nextEvent s) hclock ho hg)
  have hpos : 0 < o.grace → Graced (graced o now) (nextEvent s) (endsInto o now (nextEvent s)) := endsInto_graced
  have hzero : o.grace = 0 → EndedNow (graced o now) (nextEvent s) (endsInto o now (nextEvent s)) := endsInto_ended
  have hplaced {l : List Notice} := placed_withLock (s := s) (f := endsInto o now) (x := nextEvent s) (l := l)
  have hlock := withLock_lockUnit (endsInto o now) (nextEvent s)
  have hsched := withLock_sched (endsInto o now) (nextEvent s)
  have hlamp := withLock_lamp (endsInto o now) (nextEvent s)
  have hessence := essence_withLock (endsInto o now) (nextEvent s)
  rw [endRunning_eq] at hcmd
  refine ⟨_, (run_verb h).trans (congrArg (fun a => Host.Outcome.next (answer snd a)) hcmd), ?_, fun hp => ⟨?_, ?_, ?_⟩,
    fun hz => ⟨?_, ?_, ?_, fun hu hm => ?_, ?_⟩⟩
  · rw [settle_lock, hlock]
    rcases Nat.eq_zero_or_pos o.grace with hz | hp
    · exact (hzero hz).lock
    · exact (hpos hp).lock
  · rw [settle_active, hsched, (hpos hp).sched]
    rfl
  · rw [essence_settle, hessence, settle_active, hsched, settle_lock, hlock, (hpos hp).essence, (hpos hp).sched]
    generalize (endsInto o now (nextEvent s)).lock = k
    exact essence_nextEvent { s with sched := { s.sched with active := some (graced o now) }, lock := k }
  · exact hplaced (hpos hp).faults (hpos hp).notices rfl
  · rw [settle_active, hsched, (hzero hz).sched]
  · rw [settle_lastEnded, hsched, (hzero hz).sched]
    rfl
  · rw [settle_upcoming, hsched, (hzero hz).sched]
    rfl
  · rw [settle_count, hlamp]
    exact (hzero hz).drops hu hm
  · exact hplaced (hzero hz).faults (hzero hz).notices rfl

end Ends

/-- Settles O44: each command leaves the state that its phase's rule gives, with the lock compared around it. -/
theorem extendEndnowAndIdleOff : Obligations.ExtendEndnowAndIdleOff := by
  refine ⟨fun s snd c o hl hclock ho => ⟨fun w m h hm hc => extend_stored hl hclock ho h hm hc, fun h hc =>
    ⟨fun hg => endnow_running hl hclock ho h hc hg, fun hg => endnow_grace hl hclock ho h hc hg⟩⟩, fun s hq ha hu hle hpos => ?_⟩
  have hrun : exec .idleAutoOff s = .next (settle (idleOff (nextEvent s))) :=
    onTimeLoose_of_due hq (by simp [idleDue, idleLimit, hle, hpos])
  have hdrop : drop .idle (nextEvent s) = nextEvent (drop .idle s) := drop_nextEvent s .idle
  have hoff : idleOff (nextEvent s) = modSched (fun x => { x with idle := 0 }) (clearUnlocked (nextEvent (drop .idle s))) := by
    rw [idleOff, hdrop]
  have hcount : (drop .idle s).lamp.count = 0 := (setDemand_rest ..).1
  refine ⟨_, hrun, ?_, ?_, fun h0 => ⟨?_, ?_⟩, ?_, ?_, placed_settle ?_ ?_⟩
  · exact settle_idleSound _ (.inl (by rw [settle_count, hoff]; exact hcount))
  · rw [settle_count, hoff]
    exact hcount
  · rw [settle_origin, hoff]
    exact (drop_empties h0).2.1
  · rw [settle_wanted, hoff]
    exact (drop_empties h0).2.2.1
  · rw [settle_lock, hoff]
    rfl
  · rw [essence_settle, hoff]
    exact essence_ext rfl rfl rfl rfl rfl rfl rfl rfl rfl rfl rfl rfl rfl rfl rfl rfl rfl (syncScan_sel_congr rfl rfl rfl rfl rfl)
  · simp [hoff, modSched, clearUnlocked]
  · simp [hoff, modSched, clearUnlocked]

end Sys2Proof.Endings

/-! PROOFS. The queries (O29). -/

namespace Sys2Proof.Queries

open Sys2Proof Sys2Proof.Machine Sys2Proof.Upkeep Sys2Proof.Steps Sys2Proof.Lamps Sys2Proof.Counts Sys2Proof.Picture Sys2Proof.Refusals
  Sys2Proof.Accepted Sys2Proof.LampOrders Sys2Proof.Agenda Sys2Proof.BookingOrders Sys2Proof.Endings

set_option Elab.async false

/-! ## A query that is taken at once -/

section Told

variable {i : Instr} {s : State} {snd : Sender} {args words : List String} {cmd : State → Answer} {v : String}

theorem told_verb (h : takesNow s snd args = true) (hi : exec i s = run snd (v :: args) cmd s)
    (hc : cmd (nextEvent s) = tell (nextEvent s) words) (hv : v.isEmpty = false := by rfl) :
    exec i s = .next (answer snd ⟨nextEvent s, "OK" :: words, 0, none⟩) := by
  rw [hi, run_verb h hv, hc]
  rfl

theorem query_nil (s : State) (fields : State → List String) : query [] s fields = tell s (fields s) := rfl

end Told

/-! ## The words of the fields -/

theorem wordsOrNone_eq (l : List String) : wordsOrNone l = if l = [] then ["NONE"] else l := by
  cases l <;> rfl

theorem muteWords_eq (s : State) : muteWords s =
    if ((if s.sel.st = .switching ∨ s.sel.st = .scanning ∨ s.sel.classTimer ≠ none then ["SWITCH"] else []) ++
      (if s.sel.muteLoss then ["LOSS"] else []) ++ (if s.sel.muteUser then ["USER"] else [])) = [] then ["NONE"]
    else (if s.sel.st = .switching ∨ s.sel.st = .scanning ∨ s.sel.classTimer ≠ none then ["SWITCH"] else []) ++
      (if s.sel.muteLoss then ["LOSS"] else []) ++ (if s.sel.muteUser then ["USER"] else []) := by
  have hswitch : (if muteSwitch s then ["SWITCH"] else ([] : List String)) =
      if s.sel.st = .switching ∨ s.sel.st = .scanning ∨ s.sel.classTimer ≠ none then ["SWITCH"] else [] := by
    refine if_congr ?_ rfl rfl
    simp [muteSwitch, Option.isSome_iff_ne_none, or_assoc]
  unfold muteWords
  dsimp only
  rw [hswitch]
  exact wordsOrNone_eq _

/-- A list of words cut to a room keeps a longest part that leaves room for MORE (R179). -/
def cost (l : List String) : Nat := (l.map fun w => w.length + 1).sum

theorem joinWords_cons (w : String) (l : List String) : (joinWords (w :: l)).length = w.length + cost l := by
  induction l generalizing w with
  | nil => simp [joinWords, cost, String.length_toList]
  | cons x l ih =>
    have h : (joinWords (w :: x :: l)).length = w.length + (1 + (joinWords (x :: l)).length) := by
      simp [joinWords, String.length_toList, Nat.add_comm, Nat.add_left_comm]
    rw [h, ih]
    simp [cost]
    omega

theorem fitWords_whole {room : Nat} {l : List String} (h : cost l ≤ room) : fitWords room l = l := by
  cases l with
  | nil => rfl
  | cons w l =>
    refine if_pos ?_
    rw [joinWords_cons]
    simp only [cost, List.map_cons, List.sum_cons] at h ⊢
    omega

theorem fitWords_cut {room : Nat} {l : List String} (h : room < cost l) (hroom : 5 ≤ room) :
    ∃ k, k < l.length ∧ fitWords room l = l.take k ++ ["MORE"] ∧ cost (l.take k) + 5 ≤ room ∧ room < cost (l.take (k + 1)) + 5 := by
  induction l generalizing room with
  | nil => simp [cost] at h
  | cons w l ih =>
    have hcost : cost (w :: l) = w.length + 1 + cost l := rfl
    have hlong : ¬(joinWords (w :: l)).length + 1 ≤ room := by
      rw [joinWords_cons]
      omega
    by_cases hfit : w.length + 6 ≤ room
    · obtain ⟨k, hk, heq, hle, hlt⟩ := ih (room := room - w.length - 1) (by omega) (by omega)
      refine ⟨k + 1, Nat.succ_lt_succ hk, ?_, ?_, ?_⟩
      · rw [fitWords, if_neg hlong, if_pos hfit, heq]
        rfl
      · have : cost ((w :: l).take (k + 1)) = w.length + 1 + cost (l.take k) := rfl
        omega
      · have : cost ((w :: l).take (k + 1 + 1)) = w.length + 1 + cost (l.take (k + 1)) := rfl
        omega
    · refine ⟨0, Nat.succ_pos _, ?_, ?_, ?_⟩
      · rw [fitWords, if_neg hlong, if_neg hfit]
        rfl
      · exact hroom
      · simp [cost]
        omega

theorem reply_length (l : List String) : (joinWords ("OK" :: "FAULTS" :: l)).length + 10 = cost l + 19 := by
  have h : cost ("FAULTS" :: l) = 7 + cost l := rfl
  rw [joinWords_cons, h]
  have : ("OK" : String).length = 2 := rfl
  omega

theorem cost_more (l : List String) : cost (l ++ ["MORE"]) = cost l + 5 := by
  rw [cost, List.map_append, List.sum_append]
  rfl

/-- The words of the filled slots are those of the numbers of the filled places. -/
theorem slotWords_eq (s : State) (f : Nat → String) (l : List (Option Code)) (k : Nat)
    (h : ∀ i c, l[i]? = some (some c) → f (k + i) = slotWord s (k + i) c) : slotWords s k l = (filledFrom k l).map f := by
  induction l generalizing k with
  | nil => rfl
  | cons x l ih =>
    have hrest : slotWords s (k + 1) l = (filledFrom (k + 1) l).map f := ih (k + 1) fun i c hi => by
      have := h (i + 1) c hi
      rwa [Nat.add_comm i 1, ← Nat.add_assoc] at this
    cases x with
    | none => exact hrest
    | some c =>
      have hfirst := h 0 c rfl
      exact congrArg₂ List.cons hfirst.symm hrest

/-! ## The next occurrence -/

theorem find_range' {p : Nat → Bool} {a n d : Nat} (h : (List.range' a n).find? p = some d) :
    p d = true ∧ a ≤ d ∧ d < a + n ∧ ∀ x, a ≤ x → x < d → p x = false := by
  induction n generalizing a with
  | zero => cases h
  | succ n ih =>
    rw [List.range'_succ, List.find?_cons] at h
    split at h
    · cases h
      exact ⟨‹_›, Nat.le_refl _, by omega, fun x h1 h2 => by omega⟩
    · rename_i hp
      obtain ⟨hd, hle, hlt, hbefore⟩ := ih h
      refine ⟨hd, by omega, by omega, fun x h1 h2 => ?_⟩
      rcases Nat.eq_or_lt_of_le h1 with rfl | h1
      · simpa using hp
      · exact hbefore x h1 h2

theorem onDate_first {b : BookDates} {d : Date} (h : b.onDate d = true) : b.span.1 ≤ d := by
  cases b with
  | once x =>
    have hx : x = d := by simpa [BookDates.onDate] using h
    exact Nat.le_of_eq hx
  | weekly days f u =>
    simp only [BookDates.onDate, Bool.and_eq_true, decide_eq_true_eq] at h
    exact h.1.1

theorem onDate_last {b : BookDates} {d : Date} (h : b.onDate d = true) (hd : d ≤ lastDate) : d ≤ b.span.2 := by
  cases b with
  | once x =>
    have hx : x = d := by simpa [BookDates.onDate] using h
    exact Nat.le_of_eq hx.symm
  | weekly days f u =>
    simp only [BookDates.onDate, Bool.and_eq_true, decide_eq_true_eq] at h
    exact Nat.le_min.2 ⟨h.1.2, hd⟩

theorem occurs_onDate {s : State} {n : Nat} {bk : Booking} {d : Date} (h : occurs s n bk d = true) : bk.dates.onDate d = true :=
  (Bool.and_eq_true_iff.1 h).1

theorem first_open_iff {date secs stop d : Nat} (hs : secs < 86400) (hb : stop ≤ 1440) :
    (if secs < stop * 60 then date else date + 1) ≤ d ↔ date * 86400 + secs < (d * 1440 + stop) * 60 := by
  constructor
  · intro h
    split at h <;> omega
  · intro h
    split <;> omega

/-- The dates before the first that a clock leaves open have ended, and the others have not (R135). -/
theorem nextFrom_spec {c : HallClock} {bk : Booking} (hs : c.secs < 86400) (hb : bk.stop ≤ 1440) (d : Date) :
    nextFrom c bk ≤ d ↔ c.abs < minuteAbs d bk.stop := first_open_iff hs hb

theorem lt_range_end {a b d : Nat} (h : d ≤ b) : d < a + (b + 1 - a) := by omega

theorem nextOccurrence_some {s : State} {n : Nat} {bk : Booking} {c : HallClock} {d : Date} (hc : s.sched.clock = some c)
    (hs : c.secs < 86400) (hb : bk.stop ≤ 1440) (h : nextOccurrence s n bk = some d) :
    occurs s n bk d = true ∧ c.abs < minuteAbs d bk.stop ∧ ∀ d', d' < d → occurs s n bk d' = true → minuteAbs d' bk.stop ≤ c.abs := by
  simp only [nextOccurrence, hc, firstOn, datesFrom] at h
  obtain ⟨hd, hle, hlt, hbefore⟩ := find_range' h
  refine ⟨hd, (nextFrom_spec hs hb d).1 (Nat.le_trans (Nat.le_max_right ..) hle), fun d' hd' hocc => ?_⟩
  by_contra hnot
  have hfrom := (nextFrom_spec hs hb d').2 (Nat.lt_of_not_le hnot)
  have hnone := hbefore d' (Nat.max_le.2 ⟨onDate_first (occurs_onDate hocc), hfrom⟩) hd'
  rw [hocc] at hnone
  cases hnone

theorem nextOccurrence_none {s : State} {n : Nat} {bk : Booking} {c : HallClock} (hc : s.sched.clock = some c)
    (hs : c.secs < 86400) (hb : bk.stop ≤ 1440) (h : nextOccurrence s n bk = none) (d : Date) (hd : d ≤ lastDate)
    (hocc : occurs s n bk d = true) : minuteAbs d bk.stop ≤ c.abs := by
  simp only [nextOccurrence, hc, firstOn, datesFrom, List.find?_eq_none] at h
  by_contra hnot
  have hfrom := (nextFrom_spec hs hb d).2 (Nat.lt_of_not_le hnot)
  have hdate := occurs_onDate hocc
  have hmax := Nat.max_le.2 ⟨onDate_first hdate, hfrom⟩
  exact h d (List.mem_range'_1.2 ⟨hmax, lt_range_end (onDate_last hdate hd)⟩) hocc

/-! ## The fields of single replies -/

theorem sourceMore_eq (s : State) : sourceMore s = (match s.sel.st, s.sel.req with
    | .switching, some r =>
      ["TARGET", showPort r.port, "REQ", match r.named with | some n => showNat n | none => "PORT", "ORIGIN",
       showSwOrigin r.origin, "LEFT", showNat (r.start + 5000 - s.uptime)]
    | .switching, none => []
    | .noSignal, _ => ["LOSS", showLoss s.sel.lossB, "IDLE", showNat ((s.uptime - s.sel.noSigFrom) / 1000)]
    | .scanning, _ => ["AT", showPort s.sel.scanPort, "DWELL", showNat (s.sel.dwellFrom + 3000 - s.uptime)]
    | .settled, _ => []) := by
  unfold sourceMore
  cases s.sel.st <;> cases s.sel.req <;> rfl

theorem linkWord_eq (s : State) :
    linkWord s = if s.geo.inFlight = none then "IDLE" else if s.geo.nextSlot = none then "SENDING" else "QUEUED" := by
  unfold linkWord
  cases s.geo.inFlight <;> cases s.geo.nextSlot <;> rfl

theorem appliedWord_eq (s : State) : appliedWord s = (match s.geo.appliedSet with
    | none => "NONE"
    | some x => showYes (decide (x = s.geo.computed))) := by
  unfold appliedWord
  cases s.geo.appliedSet <;> rfl

theorem wantedWord_eq (s : State) : wantedWord s =
    if s.lamp.wanted.a then (if s.lamp.wanted.b then "AB" else "A") else (if s.lamp.wanted.b then "B" else "NONE") := by
  unfold wantedWord
  cases s.lamp.wanted.a <;> cases s.lamp.wanted.b <;> rfl

/-- The word of one slot by its number (R167). -/
def slotAt (s : State) (n : Nat) : String :=
  match place s.work.codes n with
  | some c => showNat n ++ ":" ++ showOpt id c.label ++ ":" ++ showOpt showDate c.expiry ++ ":" ++
      (if usable s c then "USABLE" else "EXPIRED")
  | none => ""

theorem slotWords_all (s : State) : slotWords s 1 s.work.codes = (filled s.work.codes).map (slotAt s) := by
  refine slotWords_eq s (slotAt s) s.work.codes 1 fun i c hi => ?_
  have hplace : place s.work.codes (1 + i) = some c := by
    rw [Nat.add_comm, place, List.getD_eq_getElem?_getD, hi]
    rfl
  simp only [slotAt, hplace]
  rfl

theorem masterWord_eq (s : State) :
    (if s.work.master.isSome then "SET" else "EMPTY") = if s.work.master = none then "EMPTY" else "SET" := by
  cases s.work.master <;> rfl

theorem clockWord_eq (s : State) :
    (if s.sched.clock.isSome then "SET" else "UNSET") = if s.sched.clock = none then "UNSET" else "SET" := by
  cases s.sched.clock <;> rfl

theorem maskFields_eq {l : List Byte} (h : l.length = 3) :
    maskFields 1 l = [1, 2, 3].flatMap (fun n => ["M" ++ showNat n, showHex (l.getD (n - 1) 0)]) := by
  match l, h with
  | [a, b, c], _ => rfl

theorem lineFilterFields_eq {l : List Filter} (h : l.length = 8) :
    lineFilterFields 1 l = [1, 2, 3, 4, 5, 6, 7, 8].flatMap (fun n =>
      ["F" ++ showNat n, showHex (l.getD (n - 1) Filter.unused).code ++ ":" ++ ("M" ++ showNat (l.getD (n - 1) Filter.unused).mask) ++ ":" ++
        showCls (l.getD (n - 1) Filter.unused).cls ++ ":" ++ showOn (l.getD (n - 1) Filter.unused).on]) := by
  match l, h with
  | [a, b, c, d, e, f, g, i], _ => rfl

/-- The HOLD and WAIT fields of LAMPINFO in the rule's own numbers (R45). -/
theorem infoHolds_eq (s : State) (b : Bay) : infoHolds s b =
    (if (bay s b).st = .cooling ∨ (bay s b).st = .rest then ["HOLD", showNat ((darkEntry s b - s.uptime) / 1000)] else []) ++
      (match (bay s b).strikes with
        | t :: l => if 3 ≤ l.length then ["WAIT", showNat ((t + 3600000 - s.uptime) / 1000)] else []
        | [] => []) := by
  unfold infoHolds
  refine congrArg₂ (· ++ ·) ?_ ?_
  · by_cases hst : (bay s b).st = .cooling ∨ (bay s b).st = .rest
    · rw [holdOf, if_pos hst, if_pos hst]
      rfl
    · rw [holdOf, if_neg hst, if_neg hst]
  · rcases h : (bay s b).strikes with _ | ⟨t, l⟩
    · simp [waitOf, h]
    · by_cases hl : 3 ≤ l.length <;> simp [waitOf, h, hl, secondsTo, hour, second]

theorem skipWords_eq (s : State) (n : Nat) :
    (skipsOf s n).map showDate = (s.work.exceptions.filter (fun e => e.booking == n)).map (fun e => showDate e.date) := List.map_map

theorem parseSetting_showSetting (k : SettingName) : parseSetting (showSetting k) = some k := by cases k <;> decide

/-! ## The obligation -/

/-- Settles O29: each reply is the fields' equation, read in the state in which the query is taken. -/
theorem queriesChangeNothing : Obligations.QueriesChangeNothing := by
  intro s snd tells orNone bayModeWords holds faultWords
  have hfaults : Machine.faultWords s = faultWords := rfl
  have hcmdFaults (l : List String) (hl : wordsOrNone (fitWords faultRoom faultWords) = l) :
      cmdFaults snd [] (nextEvent s) = tell (nextEvent s) ("FAULTS" :: l) := by
    subst hl
    rfl
  refine ⟨fun h => ⟨?_, ?_, ?_, ?_, ?_, ?_, fun hc => ?_, fun c hc => ?_, ?_, ?_, ?_, fun h3 h8 => ?_, fun hnone => ?_,
    fun hsome => ⟨fun hshort => ?_, fun hlong => ?_⟩, ?_⟩, fun b h => ⟨fun r hr => ?_, fun hr => ?_⟩, fun w n p h hn hp => ?_,
    fun w n bk h hn hbk => ?_, fun k h => ?_⟩
  · exact told_verb h rfl rfl
  · exact told_verb h rfl rfl
  · exact told_verb h rfl rfl
  · refine told_verb h rfl ?_
    rw [cmdProfinfoTable, wordsOrNone_eq, wordsOrNone_eq]
    rfl
  · refine told_verb h rfl ?_
    rw [cmdSourceQuery, muteWords_eq, sourceMore_eq]
    rfl
  · refine told_verb h rfl ?_
    rw [cmdGeoinfo, query_nil, geoinfoFields, linkWord_eq, appliedWord_eq]
    rfl
  · refine told_verb h rfl ?_
    rw [cmdClock, query_nil]
    simp only [clockFields, nextEvent_sched, hc]
  · refine told_verb h rfl ?_
    rw [cmdClock, query_nil]
    simp only [clockFields, nextEvent_sched, hc]
  · refine told_verb h rfl ?_
    rw [cmdBooklist, query_nil, wordsOrNone_eq]
    rfl
  · exact told_verb h rfl rfl
  · refine told_verb h rfl ?_
    rw [cmdLockinfo, query_nil, lockinfoFields, wordsOrNone_eq, slotWords_all, masterWord_eq]
    rfl
  · refine told_verb h rfl ?_
    rw [cmdLineinfo, query_nil]
    simp only [nextEvent_work]
    rw [maskFields_eq h3, lineFilterFields_eq h8]
    rfl
  · exact told_verb h rfl (hcmdFaults _ (by rw [hnone]; rfl))
  · refine told_verb h rfl (hcmdFaults _ ?_)
    rw [reply_length] at hshort
    rw [fitWords_whole (by simp only [faultRoom]; omega), wordsOrNone_eq, if_neg hsome]
  · rw [reply_length] at hlong
    obtain ⟨k, hk, heq, hle, hlt⟩ := fitWords_cut (room := faultRoom) (l := faultWords) (by simp only [faultRoom]; omega) (by decide)
    refine ⟨k, hk, told_verb h rfl (hcmdFaults _ ?_), ?_, ?_⟩
    · rw [heq, wordsOrNone_eq, if_neg (by simp)]
    · rw [reply_length, cost_more]
      simp only [faultRoom] at hle
      omega
    · rw [reply_length, cost_more]
      simp only [faultRoom] at hlt
      omega
  · refine (run_verb h).trans ?_
    rw [cmdStatus, if_pos (show noArgs [] = true from rfl), statusFields, wantedWord_eq, clockWord_eq]
    rfl
  · refine told_verb h rfl ?_
    have hform : parseOneBay [showBay b] = some b := parseBay_showBay b
    have hr' : lampRec (nextEvent s) b = some r := hr
    simp only [cmdLampinfo, hform, lampinfoFields, hr', infoHolds_eq]
    rfl
  · refine told_verb h rfl ?_
    have hform : parseOneBay [showBay b] = some b := parseBay_showBay b
    have hr' : lampRec (nextEvent s) b = none := hr
    simp only [cmdLampinfo, hform, lampinfoFields, hr']
    rfl
  · refine told_verb h rfl ?_
    have hform : parseOnePlace 16 [w] = some n := hn
    have hp' : profileAt (nextEvent s) n = some p := hp
    simp only [cmdProfinfo, hform, hp', profinfoFields, Option.isNone_some, Bool.false_eq_true, if_false]
    have hactive : (s.sel.active == some n) = decide (s.sel.active = some n) := by
      rw [Bool.eq_iff_iff]
      simp
    rw [← hactive]
    rfl
  · refine ⟨nextOccurrence s n bk, told_verb h rfl ?_, fun hc => ?_, fun c hc hs hb => ⟨fun d hd => ?_, fun hnext d hd hocc => ?_⟩⟩
    · have hform : parseOnePlace 48 [w] = some n := hn
      simp only [cmdBookinfo, hform, nextEvent_work, hbk, bookinfoFields, wordsOrNone_eq, skipWords_eq]
      rfl
    · simp only [nextOccurrence, hc]
    · exact nextOccurrence_some hc hs hb hd
    · exact nextOccurrence_none hc hs hb hnext d hd hocc
  · refine told_verb h rfl ?_
    simp only [cmdSettingQuery, parseSetting_showSetting]
    rfl

end Sys2Proof.Queries

/-! PROOFS. The frames: writing and reading (O53). -/

namespace Sys2Proof.Frames

open Sys2Proof Sys2Proof.Machine Sys2Proof.Upkeep Sys2Proof.Steps Sys2Proof.Lamps Sys2Proof.Counts Sys2Proof.Picture Sys2Proof.Refusals
  Sys2Proof.Accepted Sys2Proof.LampOrders Sys2Proof.Agenda Sys2Proof.BookingOrders Sys2Proof.Endings

set_option Elab.async false

/-! ## A frame is read back (O53) -/

theorem show2_read : ∀ a : Fin 100, ∃ d1 d2, (show2 a).toList = [d1, d2] ∧ natOfChars [d1, d2] = some a.val := by
  have h : ∀ a : Fin 100, ((show2 a).toList.length = 2 ∧ natOfChars (show2 a).toList = some a.val) := by decide
  intro a
  obtain ⟨hlen, hval⟩ := h a
  match hl : (show2 a).toList, hlen with
  | [d1, d2], _ => exact ⟨d1, d2, rfl, by rw [← hl, hval]⟩

theorem hexVal_hexDigit : ∀ i : Fin 16, hexVal (hexDigit i) = some i.val := by decide

theorem hexOfChars_digits (b : Byte) : hexOfChars (hexDigit (b.toNat / 16)) (hexDigit (b.toNat % 16)) = some b := by
  have hlt := b.isLt
  have h1 := hexVal_hexDigit ⟨b.toNat / 16, by omega⟩
  have h2 := hexVal_hexDigit ⟨b.toNat % 16, by omega⟩
  simp only at h1 h2
  rw [hexOfChars, h1, h2]
  refine congrArg some (BitVec.eq_of_toNat_eq ?_)
  rw [BitVec.toNat_ofNat]
  omega

/-- A word without a space stands alone before one. -/
theorem splitWords_prefix {w : List Char} (h : ∀ c ∈ w, c ≠ ' ') (l : List Char) :
    splitWords (w ++ ' ' :: l) = w :: splitWords l ∧ splitWords w = [w] := by
  induction w with
  | nil => exact ⟨by simp [splitWords], rfl⟩
  | cons c w ih =>
    obtain ⟨h1, h2⟩ := ih fun x hx => h x (List.mem_cons_of_mem _ hx)
    have hc : c ≠ ' ' := h c List.mem_cons_self
    exact ⟨by simp [splitWords, hc, h1], by simp [splitWords, hc, h2]⟩

theorem splitWords_joinWords {words : List String} (hne : words ≠ []) (h : ∀ w ∈ words, ∀ c ∈ w.toList, c ≠ ' ') :
    (splitWords (joinWords words)).map String.ofList = words := by
  induction words with
  | nil => exact absurd rfl hne
  | cons w l ih =>
    obtain ⟨h1, h2⟩ := splitWords_prefix (h w List.mem_cons_self) (joinWords l)
    cases l with
    | nil => rw [joinWords, h2, List.map_singleton, String.ofList_toList]
    | cons x l =>
      rw [joinWords, h1, List.map_cons, ih (by simp) fun y hy => h y (List.mem_cons_of_mem _ hy), String.ofList_toList]
      exact List.cons_ne_nil x l

theorem wordsWf_spaceless {words : List String} (h : wordsWf words = true) : ∀ w ∈ words, ∀ c ∈ w.toList, c ≠ ' ' := by
  intro w hw c hc hspace
  have hword := List.all_eq_true.1 h w hw
  simp only [wordWf, Bool.and_eq_true, List.all_eq_true] at hword
  have := (hword.2 c hc).1
  rw [hspace] at this
  exact absurd this (by decide)

theorem splitCheck_append (l : List Char) (k : Byte) : splitCheck (l ++ '*' :: hexChars k) = some (l, k) := by
  simp [splitCheck, hexChars, hexOfChars_digits]

/-- What stands before the carriage return of a frame. -/
def frameText (start : Char) (addr : Nat) (orig : Byte) (words : List String) : List Char :=
  let inner := (show2 addr).toList ++ hexChars orig ++ (' ' :: joinWords words)
  start :: (inner ++ '*' :: hexChars (checkOf inner))

theorem frameOf_eq (start : Char) (addr : Nat) (orig : Byte) (words : List String) :
    frameOf start addr orig words = frameText start addr orig words ++ [Char.ofNat 13] := rfl

theorem goodFrame_frameText (start : Char) {addr : Nat} (orig : Byte) (words : List String) (ha : addr ≤ 99) :
    goodFrame (frameText start addr orig words) = some ⟨start, addr, orig, joinWords words⟩ := by
  obtain ⟨d1, d2, hd, hval⟩ := show2_read ⟨addr, by omega⟩
  simp only at hd hval
  have hcheck := splitCheck_append (joinWords words)
    (checkOf (d1 :: d2 :: hexDigit (orig.toNat / 16) :: hexDigit (orig.toNat % 16) :: ' ' :: joinWords words))
  have htext : frameText start addr orig words = start :: d1 :: d2 :: hexDigit (orig.toNat / 16) :: hexDigit (orig.toNat % 16) ::
      ' ' :: (joinWords words ++ '*' :: hexChars
        (checkOf (d1 :: d2 :: hexDigit (orig.toNat / 16) :: hexDigit (orig.toNat % 16) :: ' ' :: joinWords words))) := by
    simp only [frameText, hd]
    rfl
  rw [htext]
  simp only [goodFrame, hval, hexOfChars_digits, hcheck, if_true]

/-- Settles O53. -/
theorem frameReadsBack : Obligations.FrameReadsBack := by
  intro start addr orig words ha hne hwf
  have hdrop : (frameOf start addr orig words).dropLast = frameText start addr orig words := by
    rw [frameOf_eq, List.dropLast_concat]
  refine ⟨_, by rw [hdrop, frameOf_eq], by rw [hdrop]; exact goodFrame_frameText start orig words ha, rfl, rfl, rfl, ?_⟩
  exact splitWords_joinWords hne (wordsWf_spaceless hwf)

end Sys2Proof.Frames

/-! PROOFS. Line health, and the frames that a port takes: the rows that frames stand for (O54, O55, O52). -/

namespace Sys2Proof.Taken

open Sys2Proof Sys2Proof.Machine Sys2Proof.Upkeep Sys2Proof.Steps Sys2Proof.Lamps Sys2Proof.Counts Sys2Proof.Picture Sys2Proof.Refusals
  Sys2Proof.Accepted Sys2Proof.LampOrders Sys2Proof.Agenda Sys2Proof.BookingOrders Sys2Proof.Endings Sys2Proof.Queries Sys2Proof.Frames

set_option Elab.async false

/-! ## The rows of the table by their words -/

/-- A row runs the command that its words stand for in the table of verbs. -/
structure RunsWords (i : Instr) (snd : Sender) (words : List String) (cmd : State → Answer) : Prop where
  exec : ∀ s, exec i s = run snd words cmd s
  body : ∀ s, runBody snd words s = judge words cmd s
  verb : ∃ v args, words = v :: args ∧ v ∈ verbs

theorem RunsWords.of_verb {i : Instr} {snd : Sender} {v : String} {args : List String} {cmd : State → Answer}
    (hexec : ∀ s, Machine.exec i s = run snd (v :: args) cmd s) (hcmd : commandOf snd v args = cmd) (hv : v ∈ verbs := by decide) :
    RunsWords i snd (v :: args) cmd :=
  ⟨hexec, fun s => by rw [runBody, if_pos hv, hcmd], v, args, rfl, hv⟩

theorem commandOf_settingQuery (snd : Sender) (w : String) : commandOf snd "SETTING" [w] = cmdSettingQuery snd [w] := by
  funext s
  simp only [commandOf, cmdSettingQuery]
  cases parseSetting w with
  | none => rfl
  | some k => cases k <;> rfl

theorem runsWords_of_commandWords {i : Instr} {snd : Sender} {words : List String} (h : commandWords i = some (snd, words)) :
    ∃ cmd, RunsWords i snd words cmd := by
  cases i
  case ceilingPersist _ args =>
    match args, h with
    | [_], rfl => exact ⟨_, .of_verb (fun _ => rfl) (by simp only [commandOf])⟩
  case ceilingTemp _ args =>
    match args, h with
    | [_], rfl => exact ⟨_, .of_verb (fun _ => rfl) (by simp only [commandOf])⟩
  case settingQuery _ args =>
    match args, h with
    | [_], rfl => exact ⟨_, .of_verb (fun _ => rfl) (commandOf_settingQuery ..)⟩
  all_goals
    cases h
  all_goals
    exact ⟨_, .of_verb (fun _ => rfl) rfl⟩

/-! ## What commands leave of the line's health

Every command leaves the two channels as they are, and the line as Attentive and as error-free as it was; a RESTART makes it so. -/

/-- The line is Attentive with an error count of 0. -/
def Calm (s : State) : Prop := s.comms.deaf = false ∧ s.comms.errCount = 0

/-- From one state to the next a calm line stays calm. -/
def Calms (s t : State) : Prop := Calm s → Calm t

/-- From one state to the next both channels stand, and a calm line stays calm. -/
structure Hush (s t : State) : Prop where
  calm : Calms s t
  line : t.comms.line = s.comms.line
  lectern : t.comms.lectern = s.comms.lectern

section Hush

variable {s t u : State}

theorem Hush.refl (s : State) : Hush s s := ⟨id, rfl, rfl⟩

theorem Hush.trans (h : Hush s t) (h' : Hush t u) : Hush s u :=
  ⟨fun hs => h'.calm (h.calm hs), h'.line.trans h.line, h'.lectern.trans h.lectern⟩

/-- An operation of a block other than the two ports. -/
theorem Hush.same (h : t.comms = s.comms := by simp) : Hush s t :=
  ⟨fun hs => by rwa [Calm, h], by rw [h], by rw [h]⟩

theorem Hush.ite {c : Prop} [Decidable c] (ht : Hush s t) (hu : Hush s u) : Hush s (if c then t else u) := by
  split
  · exact ht
  · exact hu

theorem Hush.chan (h : Hush s t) (p : CmdPort) : chan t p = chan s p := by
  cases p
  · exact h.line
  · exact h.lectern

theorem withLock_hush {f : State → State} (h : Hush s (f s)) : Hush s (withLock f s) := by
  unfold withLock
  exact .ite h (h.trans .same)

end Hush

/-! ### The operations of the lamps and the picture -/

@[simp] theorem resetConditioning_comms (b : Bay) (s : State) : (resetConditioning b s).comms = s.comms := by
  simp [resetConditioning]
@[simp] theorem fitLamp_comms (b : Bay) (r : LampRecord) (s : State) : (fitLamp b r s).comms = s.comms := by
  simp [fitLamp, enterDark]
@[simp] theorem takeLamp_comms (b : Bay) (s : State) : (takeLamp b s).comms = s.comms := by simp [takeLamp]
@[simp] theorem reviveLamp_comms (b : Bay) (s : State) : (reviveLamp b s).comms = s.comms := by simp [reviveLamp]
@[simp] theorem recompute_comms (old new : Option Profile) (s : State) : (recompute old new s).comms = s.comms := by
  unfold recompute
  split <;> simp
@[simp] theorem dropNamed_comms (n : Nat) (new : Option Profile) (s : State) : (dropNamed n new s).comms = s.comms := by
  unfold dropNamed
  split <;> simp
@[simp] theorem fallBack_comms (s : State) : (fallBack s).comms = s.comms := by simp [fallBack]
@[simp] theorem changeInSettled_comms (n : Nat) (old new : Option Profile) (s : State) : (changeInSettled n old new s).comms = s.comms := by
  unfold changeInSettled
  repeat' split
  all_goals simp
@[simp] theorem changeInNoSignal_comms (n : Nat) (old new : Option Profile) (s : State) : (changeInNoSignal n old new s).comms = s.comms := by
  unfold changeInNoSignal
  dsimp only
  repeat' split
  all_goals simp
@[simp] theorem changeInFlight_comms (n : Nat) (old new : Option Profile) (s : State) : (changeInFlight n old new s).comms = s.comms := by
  unfold changeInFlight
  repeat' split
  all_goals simp
@[simp] theorem tableChange_comms (n : Nat) (old new : Option Profile) (s : State) : (tableChange n old new s).comms = s.comms := by
  unfold tableChange
  dsimp only
  split <;> simp
@[simp] theorem trimChange_comms (n : Nat) (old new : Option Profile) (s : State) : (trimChange n old new s).comms = s.comms := by
  unfold trimChange
  repeat' split
  all_goals simp
@[simp] theorem nudgeBy_comms (dv dh : Int) (s : State) : (nudgeBy dv dh s).comms = s.comms := by simp [nudgeBy]

/-! ### The operations of the schedule -/

/-- What no operation of the schedule touches: the ports and their frames, the Fault Table, the Heat Monitor, the pins and the uptime. -/
abbrev Apart (s t : State) : Prop :=
  t.comms = s.comms ∧ t.faults = s.faults ∧ t.heat = s.heat ∧ t.pins = s.pins ∧ t.uptime = s.uptime

theorem apart_trans {s t u : State} (h : Apart s t) (h' : Apart t u) : Apart s u := by
  obtain ⟨h1, h2, h3, h4, h5⟩ := h
  rwa [Apart, h1, h2, h3, h4, h5] at h'

@[simp] theorem writeExceptions_apart (l : List Exc) (s : State) : Apart s (writeExceptions l s) := by
  unfold writeExceptions
  split <;> simp [Apart]
@[simp] theorem emptyBooking_apart (n : Nat) (s : State) : Apart s (emptyBooking n s) := by simp [Apart, emptyBooking]
@[simp] theorem retireBooking_apart (n : Nat) (s : State) : Apart s (retireBooking n s) := by simp [Apart, retireBooking]
@[simp] theorem retireIfPast_apart (c : HallClock) (n : Nat) (s : State) : Apart s (retireIfPast c s n) := by
  unfold retireIfPast
  repeat' split
  all_goals simp [Apart]
theorem foldl_apart {α : Type} {f : State → α → State} (h : ∀ x a, Apart x (f x a)) (l : List α) (s : State) :
    Apart s (l.foldl f s) := by
  induction l generalizing s with
  | nil => exact ⟨rfl, rfl, rfl, rfl, rfl⟩
  | cons a l ih => exact apart_trans (h s a) (ih (f s a))

@[simp] theorem retirePast_apart (c : HallClock) (s : State) : Apart s (retirePast c s) := by
  simp [Apart, retirePast, retireExceptions, foldl_apart]
@[simp] theorem prewarmActions_apart (s : State) : Apart s (prewarmActions s) := by
  unfold prewarmActions
  repeat' split
  all_goals simp [Apart]
@[simp] theorem runningRaise_apart (r : Bool) (o : Occ) (bk : Booking) (s : State) : Apart s (runningRaise r o bk s) := by
  unfold runningRaise
  split <;> simp [Apart]
@[simp] theorem bookedMode_apart (bk : Booking) (s : State) : Apart s (bookedMode bk s) := by
  unfold bookedMode
  split <;> simp [Apart]
@[simp] theorem clearPresenter_apart (s : State) : Apart s (clearPresenter s) := by simp [Apart, clearPresenter]
@[simp] theorem runningEffects_apart (r : Bool) (o : Occ) (bk : Booking) (s : State) : Apart s (runningEffects r o bk s) := by
  simp [Apart, runningEffects]
@[simp] theorem runningNotice_apart (s : State) : Apart s (runningNotice s) := by
  unfold runningNotice
  split <;> simp [Apart]
@[simp] theorem markLate_apart (l : Bool) (s : State) : Apart s (markLate l s) := ⟨rfl, rfl, rfl, rfl, rfl⟩
@[simp] theorem emptyActive_apart (o : Occ) (s : State) : Apart s (emptyActive o s) := ⟨rfl, rfl, rfl, rfl, rfl⟩
@[simp] theorem runningActions_apart (r l : Bool) (s : State) : Apart s (runningActions r l s) := by
  unfold runningActions
  repeat' split
  all_goals simp [Apart]
@[simp] theorem enterRunning_apart (n : Nat) (bk : Booking) (d : Date) (l : Bool) (s : State) : Apart s (enterRunning n bk d l s) := by
  simp [Apart, enterRunning]
@[simp] theorem enterPrewarm_apart (n : Nat) (bk : Booking) (d : Date) (s : State) : Apart s (enterPrewarm n bk d s) := by
  simp [Apart, enterPrewarm]
@[simp] theorem enterGrace_apart (s : State) : Apart s (enterGrace s) := by
  unfold enterGrace
  dsimp only
  repeat' split
  all_goals simp [Apart]
@[simp] theorem retireEnded_apart (o : Occ) (s : State) : Apart s (retireEnded o s) := by
  unfold retireEnded
  repeat' split
  all_goals simp [Apart]
@[simp] theorem endNotice_apart (o : Occ) (s : State) : Apart s (endNotice o s) := by
  unfold endNotice
  split <;> simp [Apart]
@[simp] theorem endActive_apart (s : State) : Apart s (endActive s) := by
  unfold endActive
  split <;> simp [Apart]
@[simp] theorem scheduleDrop_apart (s : State) : Apart s (scheduleDrop s) := by
  unfold scheduleDrop
  split <;> simp [Apart]
@[simp] theorem evalRunningEnds_apart (c : HallClock) (s : State) : Apart s (evalRunningEnds c s) := by
  unfold evalRunningEnds
  repeat' split
  all_goals simp [Apart]
@[simp] theorem evalNextInGrace_apart (c : HallClock) (s : State) : Apart s (evalNextInGrace c s) := by
  unfold evalNextInGrace
  split <;> simp [Apart]
@[simp] theorem evalRunningBegins_apart (c : HallClock) (e : Bool) (s : State) : Apart s (evalRunningBegins c e s) := by
  unfold evalRunningBegins
  repeat' split
  all_goals simp [Apart]
@[simp] theorem evalPrewarmBegins_apart (c : HallClock) (s : State) : Apart s (evalPrewarmBegins c s) := by
  unfold evalPrewarmBegins
  repeat' split
  all_goals simp [Apart]
@[simp] theorem judgeRecords_apart (c : HallClock) (e : Bool) (s : State) : Apart s (judgeRecords c e s) := by
  unfold judgeRecords
  dsimp only
  split <;> simp [Apart]
theorem withLock_apart {f : State → State} {s : State} (h : Apart s (f s)) : Apart s (withLock f s) := by
  obtain ⟨h1, h2, h3, h4, h5⟩ := h
  unfold withLock
  dsimp only
  split <;> simp [Apart, h1, h2, h3, h4, h5]

@[simp] theorem evaluate_apart (e : Bool) (s : State) : Apart s (evaluate e s) := by
  unfold evaluate
  split
  · exact ⟨rfl, rfl, rfl, rfl, rfl⟩
  · exact withLock_apart (by simp [Apart])
@[simp] theorem releaseFlag_apart (s : State) : Apart s (releaseFlag s) := by
  unfold releaseFlag
  split <;> simp [Apart]
@[simp] theorem dropActive_apart (c : HallClock) (s : State) : Apart s (dropActive c s) := by
  unfold dropActive
  split <;> simp [Apart]
@[simp] theorem keepUpcoming_apart (c : HallClock) (s : State) : Apart s (keepUpcoming c s) := by
  unfold keepUpcoming
  repeat' split
  all_goals simp [Apart]
@[simp] theorem enterAtSet_apart (c : HallClock) (l : List (Nat × Booking)) (s : State) : Apart s (enterAtSet c l s) := by
  unfold enterAtSet
  repeat' split
  all_goals simp [Apart]
@[simp] theorem deriveRecords_apart (c : HallClock) (s : State) : Apart s (deriveRecords c s) := by
  unfold deriveRecords
  dsimp only
  split <;> simp [Apart]
@[simp] theorem setClock_apart (c : HallClock) (s : State) : Apart s (setClock c s) := withLock_apart (by simp [Apart])
@[simp] theorem retakeActions_apart (s : State) : Apart s (retakeActions s) := by
  unfold retakeActions
  split <;> simp [Apart]
@[simp] theorem idleOff_apart (s : State) : Apart s (idleOff s) := by simp [Apart, idleOff]
@[simp] theorem extendTo_apart (o : Occ) (e : Nat) (s : State) : Apart s (extendTo o e s) :=
  apart_trans (withLock_apart (by simp [Apart])) (runningNotice_apart _)
@[simp] theorem endRunning_apart (o : Occ) (m : Nat) (s : State) : Apart s (endRunning o m s) := by
  refine withLock_apart ?_
  dsimp only
  split <;> simp [Apart]
@[simp] theorem endGraceOf_apart (n : Nat) (s : State) : Apart s (endGraceOf n s) := by
  unfold endGraceOf
  repeat' split
  all_goals simp [Apart]
/-! ### The commands -/

theorem withLock_comms {f : State → State} {s : State} (h : (f s).comms = s.comms) : (withLock f s).comms = s.comms := by
  unfold withLock
  dsimp only
  split <;> simp [h]

section Answers

variable {s : State} {snd : Sender} {args : List String}

theorem yes_hush {x : State} {f : State → List String} {n : Nat} (h : x.comms = s.comms := by simp) : Hush s (yes x f n).st :=
  .same (by simp [yes, h])

theorem no_hush {r : String} : Hush s (no r s).st := .refl s

theorem ite_hush {c : Prop} [Decidable c] {x y : Answer} (hx : Hush s x.st) (hy : Hush s y.st) :
    Hush s (if c then x else y).st := by
  split
  · exact hx
  · exact hy

/-- A check that refuses leaves the state, and one that passes goes on. -/
theorem no_or_hush {c : Prop} [Decidable c] {r : String} {x : Answer} (hx : Hush s x.st) : Hush s (if c then no r s else x).st :=
  ite_hush no_hush hx

theorem gate_hush {c : Cls} {ok : Bool} {k : State → Answer} (h : Hush s (k s).st) : Hush s (gate snd c ok s k).st :=
  no_or_hush (no_or_hush (no_or_hush h))

theorem gate_no_hush {c : Cls} {ok : Bool} {r : String} : Hush s (gate snd c ok s (fun x => no r x)).st := gate_hush no_hush

theorem recordGate_hush {α : Type} {form : Option α} {m : Bool} {k : α → Answer} (h : ∀ a, Hush s (k a).st) :
    Hush s (recordGate snd form m s k).st := by
  unfold recordGate
  refine no_or_hush ?_
  split
  · exact no_hush
  · exact no_or_hush (h _)

theorem query_hush {f : State → List String} : Hush s (query args s f).st := ite_hush (.refl s) no_hush

theorem putSetting_hush {k : SettingName} {f : Settings → Settings} {e : State → State} (h : ∀ x, (e x).comms = x.comms) :
    Hush s (putSetting snd k f e s).st := by
  unfold putSetting
  refine ite_hush yes_hush (yes_hush (withLock_comms ?_))
  rw [h]
  simp

theorem cmdSetting_hush {α : Type} {k : SettingName} {c : Cls} {parse : String → Option α} {f : α → Settings → Settings}
    {e : State → State} (h : ∀ x, (e x).comms = x.comms := by intro x; simp) :
    Hush s (cmdSetting snd k c parse f e args s).st := by
  unfold cmdSetting
  split
  · exact .refl s
  · split
    · exact gate_hush (putSetting_hush h)
    · exact gate_no_hush
  · exact gate_no_hush

theorem cmdAddress_hush : Hush s (cmdAddress snd args s).st := by
  have h : Hush s (cmdSetting snd .address .facility (parseClamped 1 62) (fun v x => { x with address := v }) id args s).st :=
    cmdSetting_hush
  exact ite_hush h h

theorem ifDue_comms {due : State → Bool} {f : State → State} (h : ∀ x, (f x).comms = x.comms) (s : State) :
    (ifDue due f s).comms = s.comms := by
  unfold ifDue happen
  split
  · rw [settle_comms, h, nextEvent_comms]
  · rfl

theorem fuGrant_comms (s : State) : (fuGrant s).comms = s.comms := ifDue_comms grantIgniter_comms s

theorem cmdLampon_hush : Hush s (cmdLampon snd args s).st := by
  refine no_or_hush (no_or_hush (no_or_hush (no_or_hush (no_or_hush (no_or_hush (yes_hush ?_))))))
  rw [fuGrant_comms]
  simp

theorem cmdLampoff_hush : Hush s (cmdLampoff snd args s).st := by
  refine gate_hush (yes_hush ?_)
  unfold lampsOff
  split <;> simp

theorem cmdInstall_hush : Hush s (cmdInstall snd args s).st :=
  recordGate_hush fun a => ite_hush (yes_hush (by simp [newRecord])) no_hush

theorem cmdReplace_hush : Hush s (cmdReplace snd args s).st := by
  refine recordGate_hush fun a => no_or_hush (ite_hush (yes_hush ?_) no_hush)
  unfold goodNotice
  split <;> simp [newRecord]

theorem cmdRemove_hush : Hush s (cmdRemove snd args s).st := 
  recordGate_hush fun b => no_or_hush (ite_hush no_hush (yes_hush (by simp)))

theorem cmdRevive_hush : Hush s (cmdRevive snd args s).st := recordGate_hush fun b => no_or_hush (ite_hush yes_hush no_hush)

theorem cmdLampinfo_hush : Hush s (cmdLampinfo snd args s).st := by
  unfold cmdLampinfo
  split <;> exact .refl s

theorem cmdMode_hush : Hush s (cmdMode snd args s).st := by
  unfold cmdMode
  split
  · exact gate_hush (yes_hush rfl)
  · exact gate_no_hush

theorem cmdCeilingPersist_hush : Hush s (cmdCeilingPersist snd args s).st := by
  unfold cmdCeilingPersist
  refine no_or_hush ?_
  split
  · exact no_hush
  · exact ite_hush yes_hush (no_or_hush (yes_hush (by simp [setCeiling])))

theorem cmdCeilingTemp_hush : Hush s (cmdCeilingTemp snd args s).st := by
  unfold cmdCeilingTemp
  refine no_or_hush ?_
  split
  · exact no_hush
  · exact yes_hush rfl

theorem cmdCeilingCleartemp_hush : Hush s (cmdCeilingCleartemp snd s).st := no_or_hush (yes_hush rfl)

theorem changeProfile_comms (n : Nat) (p : Option Profile) : (changeProfile snd n p s).comms = s.comms := by
  simp [changeProfile, putProfile]

theorem cmdProfile_hush : Hush s (cmdProfile snd args s).st := by
  unfold cmdProfile
  split
  · refine gate_hush ?_
    unfold storeProfile
    split
    · exact .refl s
    · exact ite_hush yes_hush (yes_hush (changeProfile_comms ..))
  · exact gate_no_hush

theorem cmdUnprofile_hush : Hush s (cmdUnprofile snd args s).st := by
  unfold cmdUnprofile
  split
  · exact gate_hush (no_or_hush (no_or_hush (yes_hush (changeProfile_comms ..))))
  · exact gate_no_hush

theorem cmdTrim_hush : Hush s (cmdTrim snd args s).st := by
  unfold cmdTrim
  split
  · refine gate_hush ?_
    unfold storeTrim
    dsimp only
    split
    · exact no_hush
    · exact ite_hush yes_hush (yes_hush (by simp [putProfile]))
  · exact gate_no_hush

theorem cmdProfinfo_hush : Hush s (cmdProfinfo snd args s).st := by
  unfold cmdProfinfo
  split
  · exact .refl s
  · split
    · exact no_or_hush (.refl s)
    · exact no_hush

theorem requestSource_hush (p : VPort) (n : Option Nat) : Hush s (requestSource snd p n s).st := no_or_hush yes_hush

theorem cmdSource_hush : Hush s (cmdSource snd args s).st := by
  unfold cmdSource
  split
  · exact .refl s
  · split
    · refine gate_hush ?_
      unfold switchTo
      split
      · exact requestSource_hush _ _
      · split
        · exact requestSource_hush _ _
        · exact no_hush
    · exact gate_no_hush
  · exact gate_no_hush

theorem cmdMute_hush (on : Bool) : Hush s (cmdMute on snd s).st := no_or_hush (no_or_hush (yes_hush rfl))

theorem cmdNudge_hush : Hush s (cmdNudge snd args s).st := by
  unfold cmdNudge
  split
  · exact gate_hush yes_hush
  · exact gate_no_hush

theorem cmdLimits_hush : Hush s (cmdLimits snd args s).st := by
  unfold cmdLimits
  refine no_or_hush ?_
  split
  · exact no_hush
  · exact ite_hush yes_hush (yes_hush (by simp [setLimits]))

theorem cmdSetclock_hush : Hush s (cmdSetclock snd args s).st := by
  unfold cmdSetclock
  split
  · exact gate_hush yes_hush
  · exact gate_no_hush

theorem bookGate_hush {k : State → Answer} (h : Hush s (k s).st) : Hush s (bookGate snd s k).st := no_or_hush (no_or_hush h)

theorem judgeBooking_hush {n : Nat} {bk : Booking} {k : State → Answer} (h : Hush s (k s).st) :
    Hush s (judgeBooking n bk s k).st := by
  unfold judgeBooking
  refine no_or_hush (no_or_hush ?_)
  split
  · exact .refl s
  · exact h

theorem cmdBook_hush : Hush s (cmdBook snd args s).st := by
  refine bookGate_hush ?_
  split
  · exact no_hush
  · unfold addBooking
    split
    · exact no_hush
    · exact judgeBooking_hush yes_hush

theorem changeBooking_hush (n : Nat) (o b : Option Booking) : Hush s (changeBooking snd n o b s).st := by
  unfold changeBooking
  split
  · exact no_or_hush (judgeBooking_hush (ite_hush yes_hush (yes_hush (by simp [storeBooking]))))
  · exact no_hush

theorem cmdRebook_hush : Hush s (cmdRebook snd args s).st := by
  refine bookGate_hush ?_
  split
  · exact no_hush
  · exact changeBooking_hush _ _ _

theorem cmdUnbook_hush : Hush s (cmdUnbook snd args s).st := by
  refine bookGate_hush ?_
  split
  · exact no_hush
  · refine no_or_hush (no_or_hush (yes_hush ?_))
    simp [retireByCommand]

theorem cmdSkip_hush : Hush s (cmdSkip snd args s).st := by
  refine bookGate_hush ?_
  split
  · exact no_hush
  · split
    · exact no_hush
    · exact no_or_hush (no_or_hush (no_or_hush (no_or_hush (no_or_hush (no_or_hush yes_hush)))))

theorem cmdUnskip_hush : Hush s (cmdUnskip snd args s).st := by
  refine bookGate_hush ?_
  split
  · exact no_hush
  · unfold removeSkip
    refine no_or_hush ?_
    split
    · exact .refl s
    · exact yes_hush

theorem cmdBookinfo_hush : Hush s (cmdBookinfo snd args s).st := by
  unfold cmdBookinfo
  split
  · exact no_hush
  · split
    · exact no_hush
    · exact .refl s

theorem cmdExtend_hush : Hush s (cmdExtend snd args s).st := by
  unfold cmdExtend
  split
  · refine gate_hush ?_
    unfold extendBy
    split
    · exact no_hush
    · exact no_hush
    · dsimp only
      refine no_or_hush ?_
      split
      · exact .refl s
      · exact yes_hush
  · exact gate_no_hush

theorem cmdEndnow_hush : Hush s (cmdEndnow snd args s).st := by
  refine gate_hush ?_
  unfold endPhase
  split
  · exact no_hush
  · exact no_hush
  · exact ite_hush yes_hush yes_hush

theorem cmdRelock_hush : Hush s (cmdRelock snd args s).st := no_or_hush (no_or_hush (no_or_hush yes_hush))

theorem cmdUnlock_hush : Hush s (cmdUnlock snd args s).st := by
  unfold cmdUnlock
  refine no_or_hush ?_
  split
  · exact no_hush
  · refine no_or_hush ?_
    unfold tryUnlock
    refine no_or_hush ?_
    split
    · exact yes_hush rfl
    · exact .same rfl

theorem cmdAttempts_hush : Hush s (cmdAttempts snd args s).st := gate_hush (no_or_hush (yes_hush rfl))

theorem cmdSetcode_hush : Hush s (cmdSetcode snd args s).st := by
  unfold cmdSetcode
  split
  · refine gate_hush ?_
    unfold storeCode
    refine no_or_hush ?_
    split
    · exact .refl s
    · exact ite_hush (.refl s) (yes_hush (by simp [putCode]))
  · exact gate_no_hush

theorem cmdDelcode_hush : Hush s (cmdDelcode snd args s).st := by
  unfold cmdDelcode
  split
  · exact gate_hush (no_or_hush (no_or_hush (no_or_hush (yes_hush (by simp [putCode])))))
  · exact gate_no_hush

theorem cmdSetmaster_hush : Hush s (cmdSetmaster snd args s).st := by
  unfold cmdSetmaster
  split
  · refine gate_hush (no_or_hush (no_or_hush (ite_hush (.same rfl) ?_)))
    split
    · exact .refl s
    · exact yes_hush (by simp [putMaster])
  · exact gate_no_hush

theorem cmdFreeze_hush : Hush s (cmdFreeze snd args s).st := gate_hush (yes_hush rfl)

theorem cmdMaintOn_hush : Hush s (cmdMaintOn snd s).st :=
  no_or_hush (no_or_hush (ite_hush yes_hush (yes_hush (withLock_comms (by simp)))))

theorem cmdMaintOff_hush : Hush s (cmdMaintOff snd s).st := by
  refine no_or_hush (ite_hush (yes_hush ?_) yes_hush)
  rw [leaveMaint, (retakeActions_apart _).1]
  exact withLock_comms rfl

theorem cmdFilter_hush : Hush s (cmdFilter snd args s).st := by
  unfold cmdFilter
  split
  · exact gate_hush (no_or_hush (ite_hush yes_hush yes_hush))
  · exact gate_no_hush

theorem cmdMask_hush : Hush s (cmdMask snd args s).st := by
  unfold cmdMask
  split
  · exact gate_hush (ite_hush yes_hush yes_hush)
  · exact gate_no_hush

theorem cmdSettingQuery_hush : Hush s (cmdSettingQuery snd args s).st := by
  unfold cmdSettingQuery
  split
  · split <;> exact .refl s
  · exact no_hush

theorem cmdClearfault_hush : Hush s (cmdClearfault snd args s).st := by
  unfold cmdClearfault
  split
  · exact gate_hush (yes_hush rfl)
  · exact gate_no_hush

theorem cmdStatus_hush : Hush s (cmdStatus snd args s).st := ite_hush (.same rfl) no_hush

/-! ### RESTART -/

theorem strikingEnds_comms (b : Bay) (s : State) : (strikingEnds b s).comms = s.comms := by
  unfold strikingEnds
  split <;> simp

theorem restartBay_comms (b : Bay) (s : State) : (restartBay b s).comms = s.comms := by
  unfold restartBay
  dsimp only
  split <;> simp [strikingEnds_comms]

theorem restartNotice_comms (b : Bay) (s : State) : (restartNotice b s).comms = s.comms := by
  unfold restartNotice
  split <;> simp

theorem restartCause_comms (b : Bay) (s : State) : (restartCause b s).comms = s.comms := by
  unfold restartCause
  split <;> simp

theorem restartLamps_comms (s : State) : (restartLamps s).comms = s.comms := by
  rw [restartLamps, restartCause_comms, restartCause_comms, restartNotice_comms, restartNotice_comms, restartDemand, restartBay_comms,
    restartBay_comms]

theorem handFallback_comms (s : State) : (handFallback s).comms = s.comms := by simp [handFallback]

theorem writeBacks_comms (l : List RecKey) (s : State) : (writeBacks l s).comms = s.comms :=
  (foldl_apart (fun x k => by simp [Apart]) l s).1

@[simp] theorem emptyQueue_comms (s : State) : (emptyQueue s).comms = s.comms := rfl
@[simp] theorem restartHeat_comms (s : State) : (restartHeat s).comms = s.comms := rfl
@[simp] theorem restartMode_comms (s : State) : (restartMode s).comms = s.comms := rfl
@[simp] theorem restartFan_comms (s : State) : (restartFan s).comms = s.comms := rfl
@[simp] theorem restartSel_comms (s : State) : (restartSel s).comms = s.comms := rfl
@[simp] theorem restartGeo_comms (s : State) : (restartGeo s).comms = s.comms := rfl
@[simp] theorem holdStore_comms (s : State) : (holdStore s).comms = s.comms := rfl
theorem restartLine_comms (s : State) : (restartLine s).comms = { s.comms with errCount := 0, deaf := false } := rfl
theorem restartFilters_comms (s : State) : (restartFilters s).comms = s.comms := writeBacks_comms ..

theorem restartBlocks_comms (s : State) : (restartBlocks s).comms = { s.comms with errCount := 0, deaf := false } := by
  simp only [restartBlocks, restartFilters_comms, restartLine_comms, clearUnlocked_comms, handFallback_comms, restartGeo_comms,
    restartSel_comms, restartFan_comms, restartLamps_comms, restartMode_comms, restartHeat_comms, emptyQueue_comms]

theorem follow_comms (s : State) : (follow s).comms = s.comms := by simp [follow]
theorem rejudgeFaults_comms (s : State) : (rejudgeFaults s).comms = s.comms := by simp [rejudgeFaults]
theorem restartSchedule_comms (s : State) : (restartSchedule s).comms = s.comms := by simp [restartSchedule]
theorem releaseStore_comms (s : State) : (releaseStore s).comms = s.comms := by rw [releaseStore, startWrite_comms]

theorem restartAll_comms (s : State) : (restartAll s).comms = { s.comms with errCount := 0, deaf := false } := by
  simp only [restartAll, releaseStore_comms, rejudgeFaults_comms, follow_comms, restartSchedule_comms, syncMode_comms,
    restartBlocks_comms, holdStore_comms]

theorem cmdRestart_hush : Hush s (cmdRestart snd args s).st := by
  refine gate_hush (ite_hush ⟨id, rfl, rfl⟩ ?_)
  have h : (yes (restartAll s) fun _ => ["RESTART"]).st.comms = { s.comms with errCount := 0, deaf := false } := by
    rw [yes, settle_comms, restartAll_comms]
  exact ⟨fun _ => by rw [Calm, h]; exact ⟨rfl, rfl⟩, by rw [h], by rw [h]⟩

theorem commandOf_hush (snd : Sender) (verb : String) (args : List String) (s : State) : Hush s (commandOf snd verb args s).st := by
  unfold commandOf
  split
  · exact cmdRestart_hush
  · exact cmdLampon_hush
  · exact cmdLampoff_hush
  · exact cmdInstall_hush
  · exact cmdReplace_hush
  · exact cmdRemove_hush
  · exact cmdRevive_hush
  · exact cmdLampinfo_hush
  · exact cmdMode_hush
  · exact query_hush
  · exact query_hush
  · exact query_hush
  · exact cmdProfile_hush
  · exact cmdUnprofile_hush
  · exact cmdTrim_hush
  · exact cmdProfinfo_hush
  · exact cmdSource_hush
  · exact cmdNudge_hush
  · exact cmdLimits_hush
  · exact query_hush
  · exact cmdSetclock_hush
  · exact query_hush
  · exact cmdBook_hush
  · exact cmdRebook_hush
  · exact cmdUnbook_hush
  · exact cmdSkip_hush
  · exact cmdUnskip_hush
  · exact cmdBookinfo_hush
  · exact query_hush
  · exact cmdExtend_hush
  · exact cmdEndnow_hush
  · exact query_hush
  · exact cmdRelock_hush
  · exact cmdUnlock_hush
  · exact cmdAttempts_hush
  · exact cmdSetcode_hush
  · exact cmdDelcode_hush
  · exact cmdSetmaster_hush
  · exact cmdFreeze_hush
  · exact query_hush
  · exact cmdFilter_hush
  · exact cmdMask_hush
  · exact query_hush
  · exact cmdClearfault_hush
  · exact query_hush
  · exact cmdStatus_hush
  · split
    · exact cmdMute_hush _
    · exact cmdMute_hush _
    · exact no_or_hush no_hush
  · split
    · exact cmdMaintOn_hush
    · exact cmdMaintOff_hush
    · exact no_or_hush no_hush
  · split
    · exact cmdCeilingCleartemp_hush
    · exact cmdCeilingPersist_hush
    · exact cmdCeilingTemp_hush
    · exact no_or_hush no_hush
  · split
    · exact cmdSettingQuery_hush
    · rename_i k _
      generalize parseSetting k = o
      split
      · exact cmdAddress_hush
      · exact cmdSetting_hush
      · exact cmdSetting_hush fun x => by simp [mountChange]
      · exact cmdSetting_hush
      · exact cmdSetting_hush
      · exact cmdSetting_hush
      · exact cmdSetting_hush
      · exact cmdSetting_hush
      · refine cmdSetting_hush fun x => ?_
        unfold idleChange
        split <;> simp
      · exact cmdSetting_hush
      · exact no_hush
  · exact no_hush

theorem runBody_hush (snd : Sender) (words : List String) (s : State) : Hush s (runBody snd words s).st := by
  unfold runBody
  split
  · exact no_hush
  · refine ite_hush (no_or_hush (commandOf_hush ..)) no_hush

/-! ### The ports -/

theorem Calms.ite {c : Prop} [Decidable c] {x t u : State} (ht : Calms x t) (hu : Calms x u) : Calms x (if c then t else u) := by
  split
  · exact ht
  · exact hu

theorem modChan_calms (p : CmdPort) (f : Channel → Channel) (s : State) : Calms s (modChan p f s) := by
  cases p <;> exact id

theorem sendIfReady_calms (p : CmdPort) (s : State) : Calms s (sendIfReady p s) := by
  refine .ite ?_ id
  unfold sendReply
  split
  · exact fun h => modChan_calms _ _ _ (modChan_calms _ _ _ h)
  · exact id

theorem answer_calms {a : Answer} (h : Hush s a.st) : Calms s (answer snd a) := by
  unfold answer
  exact .ite h.calm fun hs => sendIfReady_calms _ _ (modChan_calms _ _ _ (h.calm hs))

/-! ### The events before a command -/

theorem levelChanges_comms (s : State) : (levelChanges s).comms = s.comms := by
  unfold levelChanges
  split <;> simp [heatNotice, setLevel, enterShutdown]

theorem wearCarries_comms (b : Bay) (s : State) : (wearCarries b s).comms = s.comms := by simp [wearCarries]

theorem hallChanges_comms (s : State) : (hallChanges s).comms = s.comms := by simp [hallChanges]

theorem confirmTilt_comms (s : State) : (confirmTilt s).comms = s.comms := by
  unfold confirmTilt
  split <;> simp

theorem strikeSucceeds_comms (b : Bay) (s : State) : (strikeSucceeds b s).comms = s.comms := by simp [strikeSucceeds]

theorem completeCore_comms (s : State) : (completeCore s).comms = s.comms := by
  have hstrike (b : Bay) (x : State) : (fuStrike b x).comms = x.comms := ifDue_comms (strikeSucceeds_comms b) x
  have hrun (b : Bay) (x : State) : (fuFullRun b x).comms = x.comms := ifDue_comms (modBayMode_comms b _) x
  have hdue (b : Bay) (x : State) : (fuConditioning b x).comms = x.comms := ifDue_comms (modBayMode_comms b _) x
  have heco (b : Bay) (x : State) : (fuEco b x).comms = x.comms := ifDue_comms (f := ecoMinutePasses b) (fun _ => rfl) x
  have hcarry (b : Bay) (x : State) : (fuCarry b x).comms = x.comms := ifDue_comms (wearCarries_comms b) x
  have hconfirm (x : State) : (fuConfirm x).comms = x.comms := ifDue_comms confirmTilt_comms x
  have htilt (x : State) : (fuTilt x).comms = x.comms := ifDue_comms (f := tiltInvalidBegins) (fun _ => rfl) x
  have hhall (x : State) : (fuHall x).comms = x.comms := ifDue_comms hallChanges_comms x
  have hlevel (x : State) : (fuLevel x).comms = x.comms := ifDue_comms levelChanges_comms x
  have hsensor (x : State) : (fuSensor x).comms = x.comms := ifDue_comms (f := sensorFaultChanges) (fun _ => rfl) x
  simp only [completeCore, completeStrikes, completeCounts, hstrike, hrun, hdue, heco, hcarry, hconfirm, htilt, hhall, hlevel, hsensor]

theorem ready_comms (s : State) : (ready s).comms = s.comms := by rw [ready, nextEvent_comms, completeCore_comms]

theorem drainList_calms (p : CmdPort) (l : List (Sender × List String)) (s : State) : Calms s (drainList p l s) := by
  induction l generalizing s with
  | nil => exact modChan_calms _ _ _
  | cons m l ih =>
    have hready : Hush s (ready s) := .same (ready_comms s)
    exact .ite (modChan_calms _ _ _) fun hs => ih _ (answer_calms (runBody_hush ..) (hready.calm hs))

theorem drain_calms (p : CmdPort) (s : State) : Calms s (drain p s) := .ite id (.ite id (drainList_calms _ _ _))

theorem serve_calms (p : CmdPort) (s : State) : Calms s (serve p s) := fun hs => drain_calms p _ (sendIfReady_calms p s hs)

end Answers

/-! ## A frame that waits is taken as its row -/

theorem portBusy_congr {s t : State} (h : t.comms = s.comms) (p : CmdPort) : portBusy t p = portBusy s p := by
  cases p <;> simp only [portBusy, chan, h]

theorem deafTo_congr {s t : State} (h : t.comms = s.comms) (snd : Sender) : deafTo t snd = deafTo s snd := by
  simp only [deafTo, h]

/-- A port can take a frame: the line is not Deaf, no reply waits there, and no RESTART. -/
structure Takes (s : State) (p : CmdPort) : Prop where
  hears : p = .line → s.comms.deaf = false
  reply : (chan s p).reply = none
  restart : s.comms.restartBy = none

theorem Takes.free {s : State} {p : CmdPort} (h : Takes s p) : portBusy s p = false := by
  rw [portBusy, h.reply, h.restart]
  rfl

theorem Takes.hearing {s : State} {p : CmdPort} (h : Takes s p) : ¬(p = .line ∧ s.comms.deaf = true) := by
  rintro ⟨hp, hd⟩
  rw [h.hears hp] at hd
  cases hd

theorem Takes.heard {s : State} {snd : Sender} (h : Takes s snd.port) : deafTo s snd = false := by
  unfold deafTo
  cases hp : snd.port with
  | line => rw [h.hears hp]; rfl
  | lectern => rfl

theorem exec_taken {i : Instr} {s : State} {snd : Sender} {words : List String} {cmd : State → Answer} (h : RunsWords i snd words cmd)
    (ht : Takes s snd.port) : exec i s = .next (answer snd (runBody snd words (ready s))) := by
  rw [h.exec, h.body, run, takeOn, deafTo_congr (ready_comms s), portBusy_congr (ready_comms s), ht.heard, ht.free]
  rfl

/-- A single frame that waits on a port where it can be taken is taken as the row of its words. -/
theorem drain_one {i : Instr} {s : State} {snd : Sender} {words : List String} (hw : commandWords i = some (snd, words))
    (ht : Takes s snd.port) (hin : (chan s snd.port).inbox = [(snd, words)]) :
    ∃ u, exec i s = .next u ∧ drain snd.port s = modChan snd.port (fun c => { c with inbox := [] }) u := by
  obtain ⟨cmd, hrow⟩ := runsWords_of_commandWords hw
  refine ⟨_, exec_taken hrow ht, ?_⟩
  rw [drain, if_neg ht.hearing, hin, if_neg (by simp), drainList, if_neg (by simp [ht.free])]
  rfl

theorem drain_empty {s : State} {p : CmdPort} (h : (chan s p).inbox = []) : drain p s = s := by
  unfold drain
  rw [h]
  split <;> rfl

theorem sendIfReady_none {s : State} {p : CmdPort} (h : (chan s p).reply = none) : sendIfReady p s = s := by
  rw [sendIfReady, replyReady, h]
  rfl

theorem serve_idle {s : State} {p : CmdPort} (hr : (chan s p).reply = none) (hi : (chan s p).inbox = []) : serve p s = s := by
  rw [serve, sendIfReady_none hr, drain_empty hi]

/-! ## Line health (O54) -/

section LineHealth

variable {s : State}

theorem countBad_low (h : s.comms.errCount + 8 < 192) :
    countBad s = { s with comms := { s.comms with errCount := s.comms.errCount + 8 } } := by
  have e : satAdd 255 s.comms.errCount 8 = s.comms.errCount + 8 := by
    unfold satAdd
    omega
  simp only [countBad, e]
  exact if_neg (by omega)

/-- What the line is when a bad frame has made it Deaf. -/
structure Deafened (s t : State) : Prop where
  deaf : t.comms.deaf = true
  errors : t.comms.errCount = min 255 (s.comms.errCount + 8)
  rx : t.comms.line.rx = none
  reply : t.comms.line.reply = none
  inbox : ∀ f ∈ t.comms.line.inbox, f ∈ s.comms.line.inbox
  work : t.work = s.work

theorem countBad_high (h : 192 ≤ s.comms.errCount + 8) : Deafened s (countBad s) := by
  have e : 192 ≤ satAdd 255 s.comms.errCount 8 := by
    unfold satAdd
    omega
  have heq : countBad s = enterDeaf { s with comms := { s.comms with errCount := satAdd 255 s.comms.errCount 8 } } := if_pos e
  rw [heq]
  exact ⟨rfl, rfl, rfl, rfl, fun f hf => (List.mem_filter.1 hf).1, rfl⟩

theorem Deafened.settled {t : State} (h : Deafened s t) : Deafened s (settle t) :=
  ⟨by rw [settle_comms, h.deaf], by rw [settle_comms, h.errors], by rw [settle_comms, h.rx], by rw [settle_comms, h.reply],
    by rw [settle_comms]; exact h.inbox, by rw [settle_work, h.work]⟩

/-- The line's health and its frames stand, but for the open one. -/
theorem Deafened.of_same {x t : State} (h : Deafened x t) (he : x.comms.errCount = s.comms.errCount)
    (hi : x.comms.line.inbox = s.comms.line.inbox) (hw : x.work = s.work) : Deafened s t :=
  ⟨h.deaf, he ▸ h.errors, h.rx, h.reply, hi ▸ h.inbox, hw ▸ h.work⟩

/-- The start character that a bad frame ends with. -/
def startOf : BadCause → Option Char
  | .newStart c => some c
  | .framingError | .overlength | .failedCheck | .lecternFramingError => none

theorem badFrame_line {cause : BadCause} (h : cause ≠ .lecternFramingError) (s : State) :
    badFrame cause s = lineBadFrame (startOf cause) s := by
  cases cause
  case lecternFramingError => exact absurd rfl h
  all_goals rfl

theorem lineBadFrame_low {start : Option Char} (hs : sending s .line = false) (hd : s.comms.deaf = false)
    (hlow : s.comms.errCount + 8 < 192) (hstart : ∀ c, start = some c → startChar c = true) :
    lineBadFrame start s = { s with comms := { s.comms with
      errCount := s.comms.errCount + 8
      line := { s.comms.line with lastChar := s.uptime, rx := start.map fun c => [c] } } } := by
  have hbad : lineBad (heard .line s) = { s with comms := { s.comms with
      errCount := s.comms.errCount + 8, line := { s.comms.line with lastChar := s.uptime, rx := none } } } :=
    countBad_low hlow
  rw [lineBadFrame, hs, hd, hbad]
  cases start with
  | none => rfl
  | some c => simp [hstart c rfl, hd, setRx, modChan]

theorem lineBadFrame_high {start : Option Char} (hs : sending s .line = false) (hd : s.comms.deaf = false)
    (hhigh : 192 ≤ s.comms.errCount + 8) : Deafened s (lineBadFrame start s) := by
  have hbad : Deafened s (lineBad (heard .line s)) :=
    (countBad_high (s := setRx .line none (heard .line s)) hhigh).of_same rfl rfl rfl
  rw [lineBadFrame, hs, hd]
  cases start with
  | none => exact hbad
  | some c => simpa [hbad.deaf] using hbad

theorem lineBadFrame_sending {start : Option Char} (hs : sending s .line = true) : lineBadFrame start s = s := if_pos hs

theorem lineBadFrame_deaf {start : Option Char} (hs : sending s .line = false) (hd : s.comms.deaf = true) :
    lineBadFrame start s = heard .line s := by
  rw [lineBadFrame, hs, hd]
  rfl

theorem startOf_wf {cause : BadCause} (h : cause.wf = true) : ∀ c, startOf cause = some c → startChar c = true := by
  intro c hc
  cases cause
  case newStart c' =>
    cases hc
    exact h
  all_goals cases hc

theorem badFrame_counts {cause : BadCause} (hq : quiescent s = true) (hwf : cause.wf = true) (hc : cause ≠ .lecternFramingError)
    (hs : sending s .line = false) (hd : s.comms.deaf = false) (hlow : s.comms.errCount + 8 < 192) :
    goesTo (.badFrame cause) s { s with comms := { s.comms with
      errCount := s.comms.errCount + 8
      line := { s.comms.line with lastChar := s.uptime, rx := (startOf cause).map fun c => [c] } } } := by
  refine goesTo_act hq rfl ?_
  rw [badFrame_line hc, lineBadFrame_low (s := nextEvent s) hs hd hlow (startOf_wf hwf)]
  exact essence_congr rfl rfl rfl rfl rfl

theorem deafEnds_calm (s : State) : Calm (deafEnds s) := ⟨rfl, rfl⟩

theorem settle_calms (s : State) : Calms s (settle s) := fun h => by rwa [Calm, settle_comms]

/-- Settles O54. -/
theorem badFramesCounted : Obligations.BadFramesCounted := by
  intro s hq deafened
  have hdeafened {t : State} (h : Deafened s t) : deafened (settle t) := by
    obtain ⟨hdeaf, herr, hrx, hreply, hin, hwork⟩ := h.settled
    exact ⟨hdeaf, herr, hrx, hreply, hin, hwork⟩
  refine ⟨fun cause hwf hc hs hd => ⟨fun hlow => ?_, fun hhigh => ?_⟩, fun cause hc => ⟨fun hs => ?_, fun hs hd => ?_⟩, ?_,
    fun hrx hgap => ?_, fun hd hidle => ?_⟩
  · have h := badFrame_counts hq hwf hc hs hd hlow
    cases cause <;> exact h
  · refine ⟨_, act_of_quiescent hq, hdeafened ?_⟩
    rw [badFrame_line hc]
    exact (lineBadFrame_high (s := nextEvent s) hs hd hhigh).of_same rfl rfl rfl
  · refine goesTo_act hq rfl ?_
    rw [badFrame_line hc, lineBadFrame_sending (s := nextEvent s) hs]
    exact essence_nextEvent s
  · refine goesTo_act hq rfl ?_
    rw [badFrame_line hc, lineBadFrame_deaf (s := nextEvent s) hs hd]
    exact essence_congr rfl rfl rfl rfl rfl
  · exact goesTo_act hq rfl (essence_congr rfl rfl rfl rfl rfl)
  · have hdue : gapPassed s .line = true := by
      rw [gapPassed, Bool.and_eq_true]
      exact ⟨Option.isSome_iff_ne_none.2 hrx, decide_eq_true hgap⟩
    refine ⟨fun hlow => goesTo_time (due := fun x => gapPassed x .line) hq hdue rfl ?_, fun hhigh => ?_⟩
    · rw [lineBad, countBad_low (s := setRx .line none (nextEvent s)) hlow]
      exact essence_congr rfl rfl rfl rfl rfl
    · refine ⟨_, onTime_of_due (due := fun x => gapPassed x .line) hq hdue, hdeafened ?_⟩
      exact (countBad_high (s := setRx .line none (nextEvent s)) hhigh).of_same rfl rfl rfl
  · have hdue : deafOver s = true := by
      rw [deafOver, hd]
      exact decide_eq_true hidle
    have hcalm := settle_calms _ (serve_calms .line _ (settle_calms _ (deafEnds_calm (nextEvent s))))
    refine ⟨_, onTimeLoose_of_due hq hdue, hcalm.1, hcalm.2, fun hreply hin => ?_, fun i snd words _ hw hp hreply hrestart hin => ?_⟩
    · have hcomms := settle_comms (deafEnds (nextEvent s))
      rw [serve_idle (by rw [chan, hcomms]; exact hreply) (by rw [chan, hcomms]; exact hin), essence_settle, essence_settle]
      exact essence_congr rfl rfl rfl rfl rfl
    · have hcomms := settle_comms (deafEnds (nextEvent s))
      have htakes : Takes (settle (deafEnds (nextEvent s))) snd.port := by
        rw [hp]
        exact ⟨fun _ => by rw [hcomms]; rfl, by rw [chan, hcomms]; exact hreply, by rw [hcomms]; exact hrestart⟩
      obtain ⟨u, hu, hdrain⟩ := drain_one hw htakes (by rw [hp, chan, hcomms]; exact hin)
      refine ⟨u, hu, congrArg settle ?_⟩
      rw [serve, sendIfReady_none (by rw [chan, hcomms]; exact hreply)]
      rw [hp] at hdrain
      exact hdrain

end LineHealth

end Sys2Proof.Taken

/-! PROOFS. Command frames: the characters of a good frame on either port, and what becomes of it (O52). -/

namespace Sys2Proof.CommandFrames

open Sys2Proof Sys2Proof.Machine Sys2Proof.Upkeep Sys2Proof.Steps Sys2Proof.Lamps Sys2Proof.Counts Sys2Proof.Picture Sys2Proof.Refusals
  Sys2Proof.Accepted Sys2Proof.LampOrders Sys2Proof.Agenda Sys2Proof.BookingOrders Sys2Proof.Endings Sys2Proof.Queries Sys2Proof.Frames
  Sys2Proof.Taken

set_option Elab.async false

/-! ## The characters of a frame -/

/-- A character that neither opens nor closes a frame. -/
def inner (c : Char) : Prop := startChar c = false ∧ c ≠ Char.ofNat 13

theorem inner_hexDigit : ∀ i : Fin 16, inner (hexDigit i) := by
  unfold inner
  decide

theorem inner_hexChars (b : Byte) : ∀ c ∈ hexChars b, inner c := by
  have hlt := b.isLt
  intro c hc
  simp only [hexChars, List.mem_cons, List.not_mem_nil, or_false] at hc
  rcases hc with rfl | rfl
  · exact inner_hexDigit ⟨b.toNat / 16, by omega⟩
  · exact inner_hexDigit ⟨b.toNat % 16, by omega⟩

theorem inner_show2 (a : Fin 100) : ∀ c ∈ (show2 a).toList, inner c := by
  have h : ∀ a : Fin 100, (show2 a).toList.all (fun c => !startChar c && c != Char.ofNat 13) = true := by decide
  intro c hc
  have hall := List.all_eq_true.1 (h a) c hc
  simpa [inner] using hall

theorem inner_joinWords {words : List String} (h : ∀ w ∈ words, ∀ c ∈ w.toList, inner c) : ∀ c ∈ joinWords words, inner c := by
  induction words with
  | nil => simp [joinWords]
  | cons w l ih =>
    have htail := ih fun x hx => h x (List.mem_cons_of_mem _ hx)
    have hhead := h w List.mem_cons_self
    cases l with
    | nil => exact hhead
    | cons x l =>
      intro c hc
      rw [joinWords, List.mem_append, List.mem_cons] at hc
      · rcases hc with hc | rfl | hc
        · exact hhead c hc
        · unfold inner; decide
        · exact htail c hc
      · exact List.cons_ne_nil x l

/-- What stands in a frame between its start character and its carriage return. -/
def frameRest (addr : Nat) (orig : Byte) (words : List String) : List Char :=
  let body := (show2 addr).toList ++ hexChars orig ++ (' ' :: joinWords words)
  body ++ '*' :: hexChars (checkOf body)

theorem frameText_cons (start : Char) (addr : Nat) (orig : Byte) (words : List String) :
    frameText start addr orig words = start :: frameRest addr orig words := rfl

theorem inner_frameRest {addr : Nat} (orig : Byte) {words : List String} (ha : addr ≤ 99)
    (h : ∀ w ∈ words, ∀ c ∈ w.toList, inner c) : ∀ c ∈ frameRest addr orig words, inner c := by
  intro c hc
  simp only [frameRest, List.mem_append, List.mem_cons] at hc
  rcases hc with ((hc | hc) | rfl | hc) | rfl | hc
  · exact inner_show2 ⟨addr, by omega⟩ c hc
  · exact inner_hexChars orig c hc
  · unfold inner; decide
  · exact inner_joinWords h c hc
  · unfold inner; decide
  · exact inner_hexChars _ c hc

theorem frameOf_length (start : Char) {addr : Nat} (orig : Byte) (words : List String) (ha : addr ≤ 99) :
    (frameOf start addr orig words).length = (joinWords words).length + 10 := by
  obtain ⟨d1, d2, hd, -⟩ := show2_read ⟨addr, by omega⟩
  simp only at hd
  simp [frameOf, hd, hexChars]

/-! ## The receivers -/

/-- The line with a frame open, whose last character has just arrived. -/
def openLine (cs : List Char) (s : State) : State := setRx .line (some cs) (heard .line s)

theorem lineChar_open {c : Char} {cs : List Char} {s : State} (hs : sending s .line = false) (hd : s.comms.deaf = false)
    (hc : startChar c = false) : lineChar c (openLine cs s) = lineMore c cs (openLine cs s) := by
  have hsend : sending (openLine cs s) .line = false := hs
  have hdeaf : (openLine cs s).comms.deaf = false := hd
  have hgap : gapPassed (openLine cs s) .line = false := by
    simp [gapPassed, openLine, heard, setRx, modChan, chan, charGap]
  rw [lineChar, hsend, hdeaf, hgap]
  simp only [lineJudge, hc]
  rfl

theorem lineChars_inner {rest cs : List Char} {s : State} (hs : sending s .line = false) (hd : s.comms.deaf = false)
    (hrest : ∀ c ∈ rest, inner c) (hlen : cs.length + rest.length ≤ 95) (tail : List Char) :
    lineChars (rest ++ tail) (openLine cs s) = lineChars tail (openLine (cs ++ rest) s) := by
  induction rest generalizing cs with
  | nil => rw [List.nil_append, List.append_nil]
  | cons c rest ih =>
    obtain ⟨hstart, hcr⟩ := hrest c List.mem_cons_self
    rw [List.length_cons] at hlen
    have hmore : lineMore c cs (openLine cs s) = openLine (cs ++ [c]) s := by
      rw [lineMore, if_neg hcr, if_neg (by omega)]
      rfl
    rw [List.cons_append, lineChars, lineChar_open hs hd hstart, hmore,
      ih (fun x hx => hrest x (List.mem_cons_of_mem _ hx)) (by rw [List.length_append, List.length_singleton]; omega),
      List.append_assoc]
    rfl

/-- The line after a good frame has closed: it has heard a character now, and the frame is counted. -/
def lineHeard (s : State) : State :=
  { s with comms := { s.comms with errCount := s.comms.errCount - 1, line := { s.comms.line with lastChar := s.uptime } } }

theorem lineChars_frame {start : Char} {addr : Nat} {orig : Byte} {words : List String} {s : State} (ha : addr ≤ 99)
    (hstart : startChar start = true) (hw : ∀ w ∈ words, ∀ c ∈ w.toList, inner c)
    (hlen : (frameOf start addr orig words).length ≤ 96) (hs : sending s .line = false) (hd : s.comms.deaf = false)
    (hrx : s.comms.line.rx = none) :
    lineChars (frameOf start addr orig words) s = lineTake ⟨start, addr, orig, joinWords words⟩ (lineHeard s) := by
  have hgap : gapPassed s .line = false := by simp [gapPassed, chan, hrx]
  have hopen : lineChar start s = openLine [start] s := by
    rw [lineChar, hs, hd, hgap]
    simp [lineJudge, hstart, lineStart, heard, modChan, hrx, hd, openLine, setRx]
  have hheard : countGood (setRx .line none (openLine (frameText start addr orig words) s)) = lineHeard s := by
    simp [countGood, setRx, openLine, heard, modChan, lineHeard, hrx]
  rw [frameOf_eq, frameText_cons, List.length_append, List.length_cons, List.length_singleton] at hlen
  rw [frameOf_eq, frameText_cons, List.cons_append, lineChars, hopen,
    lineChars_inner hs hd (inner_frameRest orig ha hw) (by rw [List.length_singleton]; omega), lineChars,
    lineChar_open hs hd (by decide), lineMore, if_pos rfl, lineClose, List.singleton_append, ← frameText_cons,
    goodFrame_frameText start orig words ha, ← hheard]
  rfl

/-- The Lectern Port with a frame open, whose last character has just arrived. -/
def openLectern (cs : List Char) (s : State) : State := setRx .lectern (some cs) (heard .lectern s)

theorem lecternChar_open {c : Char} {cs : List Char} {s : State} (hc : startChar c = false) :
    lecternChar c (openLectern cs s) = lecternMore c cs (openLectern cs s) := by
  have hgap : gapPassed (openLectern cs s) .lectern = false := by
    simp [gapPassed, openLectern, heard, setRx, modChan, chan, charGap]
  rw [lecternChar, hgap]
  simp only [lecternJudge, hc]
  rfl

theorem lecternChars_inner {rest cs : List Char} {s : State} (hrest : ∀ c ∈ rest, inner c) (hlen : cs.length + rest.length ≤ 95)
    (tail : List Char) : lecternChars (rest ++ tail) (openLectern cs s) = lecternChars tail (openLectern (cs ++ rest) s) := by
  induction rest generalizing cs with
  | nil => rw [List.nil_append, List.append_nil]
  | cons c rest ih =>
    obtain ⟨hstart, hcr⟩ := hrest c List.mem_cons_self
    rw [List.length_cons] at hlen
    have hmore : lecternMore c cs (openLectern cs s) = openLectern (cs ++ [c]) s := by
      rw [lecternMore, if_neg hcr, if_neg (by omega)]
      rfl
    rw [List.cons_append, lecternChars, lecternChar_open hstart, hmore,
      ih (fun x hx => hrest x (List.mem_cons_of_mem _ hx)) (by rw [List.length_append, List.length_singleton]; omega),
      List.append_assoc]
    rfl

/-- The Lectern Port after a good frame has closed: it has heard a character now. -/
def lecternHeard (s : State) : State :=
  { s with comms := { s.comms with lectern := { s.comms.lectern with lastChar := s.uptime } } }

theorem lecternChars_frame {start : Char} {addr : Nat} {orig : Byte} {words : List String} {s : State} (ha : addr ≤ 99)
    (hstart : startChar start = true) (hw : ∀ w ∈ words, ∀ c ∈ w.toList, inner c)
    (hlen : (frameOf start addr orig words).length ≤ 96) (hrx : s.comms.lectern.rx = none) :
    lecternChars (frameOf start addr orig words) s = lecternTake ⟨start, addr, orig, joinWords words⟩ (lecternHeard s) := by
  have hgap : gapPassed s .lectern = false := by simp [gapPassed, chan, hrx]
  have hopen : lecternChar start s = openLectern [start] s := by
    rw [lecternChar, hgap]
    simp [lecternJudge, hstart, heard, modChan, openLectern, setRx]
  have hheard : setRx .lectern none (openLectern (frameText start addr orig words) s) = lecternHeard s := by
    simp [setRx, openLectern, heard, modChan, lecternHeard, hrx]
  rw [frameOf_eq, frameText_cons, List.length_append, List.length_cons, List.length_singleton] at hlen
  rw [frameOf_eq, frameText_cons, List.cons_append, lecternChars, hopen,
    lecternChars_inner (inner_frameRest orig ha hw) (by rw [List.length_singleton]; omega), lecternChars,
    lecternChar_open (by decide), lecternMore, if_pos rfl, List.singleton_append, ← frameText_cons,
    goodFrame_frameText start orig words ha, ← hheard]
  rfl

/-! ## What becomes of a good frame -/

/-- The verb of every command has a row in the table. -/
def verbRows (snd : Sender) : List Instr :=
  [.lampon snd [], .lampoff snd [], .install snd [], .replace snd [], .remove snd [], .revive snd [], .lampinfo snd [],
   .mode snd [], .modeinfo snd [], .heatinfo snd [], .ceilingCleartemp snd, .portinfo snd [], .profile snd [], .unprofile snd [],
   .trim snd [], .profinfo snd [], .source snd [], .muteOn snd, .nudge snd [], .limits snd [], .geoinfo snd [], .setclock snd [],
   .clock snd [], .book snd [], .rebook snd [], .unbook snd [], .skip snd [], .unskip snd [], .bookinfo snd [], .booklist snd [],
   .extend snd [], .endnow snd [], .occinfo snd [], .relock snd [], .unlock snd [], .attempts snd [], .setcode snd [],
   .delcode snd [], .setmaster snd [], .freeze snd [], .lockinfo snd [], .maintOn snd, .filter snd [], .mask snd [],
   .lineinfo snd [], .clearfault snd [], .faults snd [], .status snd [], .settingPlan snd [], .restart snd []]

/-- The verb of a row. -/
def verbOf (i : Instr) : Option String := (commandWords i).bind fun x => x.2.head?

theorem verbRows_verbs (snd : Sender) : (verbRows snd).map verbOf = verbs.map some := rfl

theorem mem_verbs_iff {v : String} : v ∈ verbs ↔ ∃ i snd l, commandWords i = some (snd, v :: l) := by
  constructor
  · intro hv
    have hmem : some v ∈ (verbRows ⟨.line, .viewer, 0, false⟩).map verbOf := by
      rw [verbRows_verbs]
      exact List.mem_map_of_mem hv
    obtain ⟨i, -, hi⟩ := List.mem_map.1 hmem
    cases hc : commandWords i with
    | none => simp [verbOf, hc] at hi
    | some x =>
      obtain ⟨snd, words⟩ := x
      match words with
      | [] => simp [verbOf, hc] at hi
      | w :: l =>
        simp only [verbOf, hc, Option.bind_some, List.head?_cons, Option.some.injEq] at hi
        exact ⟨i, snd, l, by rw [hc, hi]⟩
  · rintro ⟨i, snd, l, h⟩
    obtain ⟨cmd, hrow⟩ := runsWords_of_commandWords h
    obtain ⟨w, args, hwords, hw⟩ := hrow.verb
    cases hwords
    exact hw

theorem sender_of_wf {i : Instr} {snd : Sender} {words : List String} (hwf : i.wf = true) (h : commandWords i = some (snd, words)) :
    snd.wf true = true := by
  have hsnd (x : Sender) (hx : x.wf false = true) : x.wf true = true := by
    simp only [Sender.wf, Bool.and_eq_true] at hx ⊢
    exact ⟨hx.1, rfl⟩
  cases i
  case ceilingPersist _ args =>
    match args, h with
    | [_], rfl =>
      simp only [Instr.wf, Bool.and_eq_true] at hwf
      exact hsnd _ hwf.1
  case ceilingTemp _ args =>
    match args, h with
    | [_], rfl =>
      simp only [Instr.wf, Bool.and_eq_true] at hwf
      exact hsnd _ hwf.1
  case settingQuery _ args =>
    match args, h with
    | [_], rfl =>
      simp only [Instr.wf, Bool.and_eq_true] at hwf
      exact hsnd _ hwf.1.1
  all_goals
    cases h
  all_goals
    simp only [Instr.wf, Bool.and_eq_true] at hwf
  case lampoff => exact hwf.1
  case setclock => exact hwf.1
  all_goals
    grind

/-- A good frame's words, where none holds a space. -/
theorem frame_words {start : Char} {addr : Nat} {orig : Byte} {words : List String} (hne : words ≠ [])
    (h : ∀ w ∈ words, ∀ c ∈ w.toList, c ≠ ' ') : (Frame.mk start addr orig (joinWords words)).words = words :=
  splitWords_joinWords hne h

theorem inner_of_wf {words : List String} (hwf : wordsWf words = true) (h : ∀ w ∈ words, ∀ c ∈ w.toList, startChar c = false) :
    ∀ w ∈ words, ∀ c ∈ w.toList, inner c := by
  intro w hw c hc
  have hword := List.all_eq_true.1 hwf w hw
  simp only [wordWf, Bool.and_eq_true, List.all_eq_true] at hword
  have hprint := (hword.2 c hc).1
  refine ⟨h w hw c hc, fun hcr => ?_⟩
  rw [hcr] at hprint
  exact absurd hprint (by decide)

theorem takeBody_free {snd : Sender} {words : List String} {s : State} (h : portBusy s snd.port = false) :
    takeBody snd words s = answer snd (runBody snd words s) := by
  rw [takeBody, h]
  rfl

/-- A row taken from a quiescent state at a port that is free. -/
theorem exec_row {i : Instr} {s : State} {snd : Sender} {words : List String} (h : commandWords i = some (snd, words))
    (hq : quiescent s = true) (hd : deafTo s snd = false) (hb : portBusy s snd.port = false) :
    exec i s = .next (takeBody snd words (nextEvent s)) := by
  obtain ⟨cmd, hrow⟩ := runsWords_of_commandWords h
  have hb' : portBusy (nextEvent s) snd.port = false := hb
  have hd' : deafTo (nextEvent s) snd = false := hd
  rw [takeBody_free hb', hrow.body, hrow.exec, run, ready_of_quiescent hq, takeOn, hd', hb']
  rfl

/-! ## The answers that need no row -/

section Judged

variable {snd : Sender} {s : State} {l : List String}

theorem runBody_unknown {v : String} (h : v ∉ verbs) : runBody snd (v :: l) s = no "VERB" s := if_neg h

theorem runBody_spaced {v : String} (h : v ∈ verbs) (hl : "" ∈ l) : runBody snd (v :: l) s = no "ARGS" s := by
  have hfault : bodyFault (v :: l) = true := List.any_eq_true.2 ⟨"", List.mem_cons_of_mem _ hl, rfl⟩
  rw [runBody, if_pos h, judge, if_pos hfault]

theorem runBody_known {v : String} (h : v ∈ verbs) (hv : v.isEmpty = false) (hl : "" ∉ l) :
    runBody snd (v :: l) s = commandOf snd v l s := by
  have hfault : bodyFault (v :: l) = false := by
    refine bodyFault_cons hv (List.any_eq_false.2 fun w hw hempty => hl ?_)
    rw [← String.isEmpty_iff.1 hempty]
    exact hw
  rw [runBody, if_pos h, judge, hfault]
  rfl

theorem runBody_mute (hl : "" ∉ l) (hon : l ≠ ["ON"]) (hoff : l ≠ ["OFF"]) (hb : below snd .presenter = false) :
    runBody snd ("MUTE" :: l) s = no "ARGS" s := by
  rw [runBody_known (by decide) (by decide) hl]
  simp only [commandOf, hb]
  rfl

theorem runBody_maint (hl : "" ∉ l) (hon : l ≠ ["ON"]) (hoff : l ≠ ["OFF"]) (hb : below snd .facility = false) :
    runBody snd ("MAINT" :: l) s = no "ARGS" s := by
  rw [runBody_known (by decide) (by decide) hl]
  simp only [commandOf, hb]
  rfl

theorem runBody_ceiling (hl : "" ∉ l) (hclear : l ≠ ["CLEARTEMP"]) (hm : ∀ m, l ≠ [m, "PERSIST"] ∧ l ≠ [m, "TEMP"])
    (hb : below snd .facility = false) : runBody snd ("CEILING" :: l) s = no "ARGS" s := by
  rw [runBody_known (by decide) (by decide) hl]
  simp only [commandOf]
  split
  · exact absurd rfl hclear
  · exact absurd rfl (hm _).1
  · exact absurd rfl (hm _).2
  · rw [hb]
    rfl

theorem gate_comms {c : Cls} {ok : Bool} {k : State → Answer} (h : (k s).st.comms = s.comms) :
    (gate snd c ok s k).st.comms = s.comms := by
  unfold gate
  split
  · rfl
  · split
    · rfl
    · split
      · rfl
      · exact h

theorem cmdSetclock_comms (args : List String) : (cmdSetclock snd args s).st.comms = s.comms := by
  unfold cmdSetclock
  split
  · exact gate_comms (by simp [yes])
  · exact gate_comms rfl

theorem cmdLampoff_comms (args : List String) : (cmdLampoff snd args s).st.comms = s.comms := by
  refine gate_comms ?_
  rw [yes, settle_comms, lampsOff]
  split <;> simp

/-- The two commands that may be broadcast touch no port. -/
theorem runBody_broadcast_comms {words : List String} (h : words.head? = some "SETCLOCK" ∨ words.head? = some "LAMPOFF") :
    (runBody snd words s).st.comms = s.comms := by
  have hjudge {cmd : State → Answer} (hcmd : (cmd s).st.comms = s.comms) : (judge words cmd s).st.comms = s.comms := by
    unfold judge
    split
    · rfl
    · exact hcmd
  match words, h with
  | _ :: args, .inl rfl =>
    rw [runBody, if_pos (by decide)]
    exact hjudge (cmdSetclock_comms args)
  | _ :: args, .inr rfl =>
    rw [runBody, if_pos (by decide)]
    exact hjudge (cmdLampoff_comms args)

end Judged

/-! ## The frames of both ports -/

section Ports

variable {s : State} {start : Char} {a : Nat} {o : Byte} {words : List String}

/-- The words that a frame carries: a body of no words reads as one empty word. -/
def carried (words : List String) : List String := if words = [] then [""] else words

theorem frame_carried (h : ∀ w ∈ words, ∀ c ∈ w.toList, c ≠ ' ') : (Frame.mk start a o (joinWords words)).words = carried words := by
  unfold carried
  split
  · rename_i hnil
    rw [hnil]
    rfl
  · rename_i hne
    exact frame_words hne h

theorem exec_lineFrame (hq : quiescent s = true) (ha : a ≤ 99) (hstart : startChar start = true)
    (hw : ∀ w ∈ words, ∀ c ∈ w.toList, inner c) (hlen : (frameOf start a o words).length ≤ 96) (hs : sending s .line = false)
    (hd : s.comms.deaf = false) (hrx : s.comms.line.rx = none) :
    exec (.lineFrame (frameOf start a o words)) s =
      .next (settle (lineTake ⟨start, a, o, joinWords words⟩ (nextEvent (lineHeard s)))) := by
  have hchars := lineChars_frame (s := nextEvent s) ha hstart hw hlen hs hd hrx
  refine (actLoose_of_quiescent hq).trans ?_
  rw [hchars]
  rfl

theorem exec_lecternFrame (hq : quiescent s = true) (ha : a ≤ 99) (hstart : startChar start = true)
    (hw : ∀ w ∈ words, ∀ c ∈ w.toList, inner c) (hlen : (frameOf start a o words).length ≤ 96)
    (hrx : s.comms.lectern.rx = none) :
    exec (.lecternFrame (frameOf start a o words)) s =
      .next (settle (lecternTake ⟨start, a, o, joinWords words⟩ (nextEvent (lecternHeard s)))) := by
  have hchars := lecternChars_frame (s := nextEvent s) ha hstart hw hlen hrx
  refine (actLoose_of_quiescent hq).trans ?_
  rw [hchars]
  rfl

theorem lineTake_own {c : Cls} {body : List Char} (hc : classOf s o = some c) (ha : a = s.work.settings.address) (h1 : 1 ≤ a) :
    lineTake ⟨'>', a, o, body⟩ s = takeBody ⟨.line, c, o, false⟩ (Frame.mk '>' a o body).words s := by
  have h0 : a ≠ 0 := by omega
  simp [lineTake, hc, h0, ha.symm]

theorem lineTake_broadcast {c : Cls} {body : List Char} (hc : classOf s o = some c)
    (hb : broadcastVerb (Frame.mk '>' 0 o body).words = true) :
    lineTake ⟨'>', 0, o, body⟩ s = takeBody ⟨.line, c, o, true⟩ (Frame.mk '>' 0 o body).words s := by
  simp [lineTake, hc, hb]

/-- A good frame on the line that is not acted on. -/
theorem lineTake_other {body : List Char} (h : start ≠ '>' ∨ (a ≠ s.work.settings.address ∧ a ≠ 0) ∨ classOf s o = none ∨
    (a = 0 ∧ broadcastVerb (Frame.mk start a o body).words = false)) : lineTake ⟨start, a, o, body⟩ s = s := by
  unfold lineTake
  split
  · rfl
  · rename_i c hc
    rcases h with h | ⟨h, h0⟩ | h | ⟨h, hb⟩
    · simp [h]
    · simp [h, h0]
    · rw [h] at hc
      cases hc
    · simp [h, h ▸ hb]

theorem lecternTake_own {body : List Char} (ha : a = s.work.settings.address) (h1 : 1 ≤ a) :
    lecternTake ⟨'>', a, o, body⟩ s = takeBody ⟨.lectern, .presenter, o, false⟩ (Frame.mk '>' a o body).words s :=
  if_pos ⟨rfl, ha, Nat.one_le_iff_ne_zero.1 h1⟩

theorem lecternTake_other {body : List Char} (h : start ≠ '>' ∨ a ≠ s.work.settings.address ∨ a = 0) :
    lecternTake ⟨start, a, o, body⟩ s = s := by
  refine if_neg ?_
  rintro ⟨h1, h2, h3⟩
  rcases h with h | h | h
  · exact h h1
  · exact h h2
  · exact h3 h

end Ports

/-! ## The frame of a row -/

section Rows

variable {s : State} {i : Instr} {snd : Sender} {words : List String}

theorem words_ne_nil (hi : commandWords i = some (snd, words)) : words ≠ [] := by
  obtain ⟨cmd, hrow⟩ := runsWords_of_commandWords hi
  obtain ⟨v, args, hw, -⟩ := hrow.verb
  rw [hw]
  exact List.cons_ne_nil v args

/-- A body that a row's frame can carry on. -/
structure Carriable (words : List String) : Prop where
  wf : wordsWf words = true
  starts : ∀ w ∈ words, ∀ c ∈ w.toList, startChar c = false

/-- The line hears a frame: it is neither Deaf nor sending, and no frame is open. -/
structure LineHears (s : State) : Prop where
  attentive : s.comms.deaf = false
  closed : s.comms.line.rx = none
  silent : sending s .line = false

theorem lineHeard_deafTo (h : LineHears s) (snd : Sender) : deafTo (lineHeard s) snd = false := by
  have e : (lineHeard s).comms.deaf = s.comms.deaf := rfl
  rw [deafTo, e, h.attentive, Bool.and_false]

/-- A frame with the part's own address has the effect of its row. -/
theorem lineFrame_row (hi : commandWords i = some (snd, words)) (hw : Carriable words)
    (hlen : (frameOf '>' s.work.settings.address snd.orig words).length ≤ 96) (h1 : 1 ≤ s.work.settings.address)
    (h62 : s.work.settings.address ≤ 62) (hq : quiescent s = true) (hp : snd.port = .line) (hc : classOf s snd.orig = some snd.cls)
    (hears : LineHears s) (hb : portBusy s .line = false) (hbc : snd.broadcast = false) :
    ∃ t, exec i (lineHeard s) = .next t ∧
      exec (.lineFrame (frameOf '>' s.work.settings.address snd.orig words)) s = .next (settle t) := by
  have hsnd : snd = ⟨.line, snd.cls, snd.orig, false⟩ := by rw [← hp, ← hbc]
  refine ⟨_, exec_row hi hq (lineHeard_deafTo hears snd) (by rw [hp]; exact hb), ?_⟩
  rw [exec_lineFrame hq (by omega) rfl (inner_of_wf hw.wf hw.starts) hlen hears.silent hears.attentive hears.closed,
    lineTake_own (a := s.work.settings.address) (s := nextEvent (lineHeard s)) hc rfl h1,
    frame_words (words_ne_nil hi) (wordsWf_spaceless hw.wf), ← hsnd]

/-- A broadcast has the effect of its row, and no reply. -/
theorem broadcast_row (hi : commandWords i = some (snd, words)) (hw : Carriable words)
    (hlen : (frameOf '>' 0 snd.orig words).length ≤ 96) (hq : quiescent s = true) (hp : snd.port = .line)
    (hc : classOf s snd.orig = some snd.cls) (hears : LineHears s) (hb : portBusy s .line = false) (hbc : snd.broadcast = true)
    (hverb : words.head? = some "SETCLOCK" ∨ words.head? = some "LAMPOFF") :
    ∃ t, exec i (lineHeard s) = .next t ∧ exec (.lineFrame (frameOf '>' 0 snd.orig words)) s = .next (settle t) ∧
      t.comms.line.reply = none ∧ t.comms.line.sent = s.comms.line.sent := by
  have hsnd : snd = ⟨.line, snd.cls, snd.orig, true⟩ := by rw [← hp, ← hbc]
  have hcast : broadcastVerb words = true := by
    unfold broadcastVerb
    rcases hverb with h | h <;> simp [h]
  have hfree : portBusy (nextEvent (lineHeard s)) snd.port = false := by rw [hp]; exact hb
  have hwords : (Frame.mk '>' 0 snd.orig (joinWords words)).words = words :=
    frame_words (words_ne_nil hi) (wordsWf_spaceless hw.wf)
  have htake : takeBody snd words (nextEvent (lineHeard s)) = (runBody snd words (nextEvent (lineHeard s))).st := by
    rw [takeBody_free hfree, answer, hbc]
    rfl
  have hcomms := runBody_broadcast_comms (snd := snd) (s := nextEvent (lineHeard s)) hverb
  refine ⟨_, exec_row hi hq (lineHeard_deafTo hears snd) (by rw [hp]; exact hb), ?_, ?_, ?_⟩
  · rw [exec_lineFrame hq (by omega) rfl (inner_of_wf hw.wf hw.starts) hlen hears.silent hears.attentive hears.closed,
      lineTake_broadcast (s := nextEvent (lineHeard s)) hc (by rw [hwords]; exact hcast), hwords, ← hsnd]
  · rw [htake, hcomms]
    simp only [portBusy, Bool.or_eq_false_iff, Option.isSome_eq_false_iff, Option.isNone_iff_eq_none] at hb
    exact hb.1
  · rw [htake, hcomms]
    rfl

/-- A frame on the Lectern Port has the effect of its row. -/
theorem lecternFrame_row (hwf : i.wf = true) (hi : commandWords i = some (snd, words)) (hw : Carriable words)
    (hlen : (frameOf '>' s.work.settings.address snd.orig words).length ≤ 96) (h1 : 1 ≤ s.work.settings.address)
    (h62 : s.work.settings.address ≤ 62) (hq : quiescent s = true) (hp : snd.port = .lectern) (hbc : snd.broadcast = false)
    (hrx : s.comms.lectern.rx = none) (hb : portBusy s .lectern = false) :
    ∃ t, exec i (lecternHeard s) = .next t ∧
      exec (.lecternFrame (frameOf '>' s.work.settings.address snd.orig words)) s = .next (settle t) := by
  have hcls : snd.cls = .presenter := by
    have h := sender_of_wf hwf hi
    simp only [Sender.wf, hp, Bool.and_eq_true, beq_iff_eq] at h
    exact h.1.1
  have hsnd : snd = ⟨.lectern, .presenter, snd.orig, false⟩ := by rw [← hp, ← hbc, ← hcls]
  have hdeaf : deafTo (lecternHeard s) snd = false := by
    rw [deafTo, hp]
    rfl
  refine ⟨_, exec_row hi hq hdeaf (by rw [hp]; exact hb), ?_⟩
  rw [exec_lecternFrame hq (by omega) rfl (inner_of_wf hw.wf hw.starts) hlen hrx,
    lecternTake_own (a := s.work.settings.address) (s := nextEvent (lecternHeard s)) rfl h1,
    frame_words (words_ne_nil hi) (wordsWf_spaceless hw.wf), ← hsnd]

end Rows

/-! ## Every other frame, and the whole (O52) -/

/-- How a body is answered that no rule of a row judges, from a state in which its frame has been heard. -/
structure Judged (i : Instr) (snd : Sender) (words : List String) (s x : State) : Prop where
  taken : exec i s = .next (settle (takeBody snd words (nextEvent x)))
  free : portBusy x snd.port = false

theorem Judged.answered {i : Instr} {snd : Sender} {words : List String} {s x : State} {r : String} (h : Judged i snd words s x)
    (hr : runBody snd words (nextEvent x) = no r (nextEvent x)) :
    exec i s = .next (settle (answer snd ⟨nextEvent x, ["NO", r], 0, none⟩)) := by
  have hfree : portBusy (nextEvent x) snd.port = false := h.free
  rw [h.taken, takeBody_free hfree, hr]
  rfl

theorem broadcastVerb_carried {words : List String} (h1 : words.head? ≠ some "SETCLOCK") (h2 : words.head? ≠ some "LAMPOFF") :
    broadcastVerb (carried words) = false := by
  cases words with
  | nil => rfl
  | cons w l => simp_all [broadcastVerb, carried]

/-- Settles O52. -/
theorem frameDoesCommand : Obligations.FrameDoesCommand := by
  refine ⟨fun s i snd words hwf hi hww hst hlen h1 h62 hq => ?_, fun s start a o words hq hstart ha hw hlen => ?_⟩
  · intro heard
    refine ⟨fun hp hc hd hrx hs hb => ⟨fun hbc => ?_, fun hbc hverb => ?_⟩, fun hp hbc hrx hb => ?_⟩
    · exact lineFrame_row hi ⟨hww, hst⟩ hlen h1 h62 hq hp hc ⟨hd, hrx, hs⟩ hb hbc
    · refine broadcast_row hi ⟨hww, hst⟩ ?_ hq hp hc ⟨hd, hrx, hs⟩ hb hbc hverb
      rwa [frameOf_length _ _ _ (by omega)] at hlen ⊢
    · exact lecternFrame_row hwf hi ⟨hww, hst⟩ hlen h1 h62 hq hp hbc hrx hb
  · intro own verb line lectern refusedFrame judged
    have hinner : ∀ w ∈ words, ∀ c ∈ w.toList, inner c := fun w hmem c hc =>
      ⟨(hw w hmem c hc).1, (hw w hmem c hc).2.2⟩
    have hspace : ∀ w ∈ words, ∀ c ∈ w.toList, c ≠ ' ' := fun w hmem c hc => (hw w hmem c hc).2.1
    have hjudged {i : Instr} {snd : Sender} {x : State} (h : words ≠ [] → Judged i snd words s x) : judged i snd x := by
      refine ⟨fun v l hv hno => ?_, fun v l hv hyes hl => ?_, fun l hv hl hon hoff hb => ?_, fun l hv hl hon hoff hb => ?_,
        fun l hv hl hclear hm hb => ?_⟩
      all_goals
        have hj := h (by rw [hv]; simp)
        rw [hv] at hj
      · exact hj.answered (runBody_unknown fun hmem => hno (mem_verbs_iff.1 hmem))
      · exact hj.answered (runBody_spaced (mem_verbs_iff.2 hyes) hl)
      · exact hj.answered (runBody_mute hl hon hoff hb)
      · exact hj.answered (runBody_maint hl hon hoff hb)
      · exact hj.answered (runBody_ceiling hl hclear hm hb)
    refine ⟨fun hd hrx hs => ⟨fun hother => ?_, fun c hgt hown h1 hc hb => hjudged fun hne => ?_⟩,
      fun hrx => ⟨fun hother => ?_, fun hgt hown h1 hb => hjudged fun hne => ?_⟩⟩
    · refine ⟨_, exec_lineFrame hq ha hstart hinner hlen hs hd hrx, ?_⟩
      rw [lineTake_other (s := nextEvent (lineHeard s)), essence_settle]
      · exact essence_nextEvent _
      · rw [frame_carried hspace]
        exact hother.imp_right fun h => h.imp_right fun h => h.imp_right fun h => ⟨h.1, broadcastVerb_carried h.2.1 h.2.2⟩
    · refine ⟨?_, hb⟩
      subst hgt
      rw [exec_lineFrame hq ha hstart hinner hlen hs hd hrx, lineTake_own (s := nextEvent (lineHeard s)) hc hown h1,
        frame_words hne hspace]
      rfl
    · refine ⟨_, exec_lecternFrame hq ha hstart hinner hlen hrx, ?_⟩
      rw [lecternTake_other (s := nextEvent (lecternHeard s)) hother, essence_settle]
      exact essence_nextEvent _
    · refine ⟨?_, hb⟩
      subst hgt
      rw [exec_lecternFrame hq ha hstart hinner hlen hrx, lecternTake_own (s := nextEvent (lecternHeard s)) hown h1,
        frame_words hne hspace]
      rfl

end Sys2Proof.CommandFrames

/-! PROOFS. What the ports send, and what follows a write that ends (O55). -/

namespace Sys2Proof.Sending

open Sys2Proof Sys2Proof.Machine Sys2Proof.Upkeep Sys2Proof.Steps Sys2Proof.Lamps Sys2Proof.Counts Sys2Proof.Picture Sys2Proof.Refusals
  Sys2Proof.Accepted Sys2Proof.LampOrders Sys2Proof.Agenda Sys2Proof.BookingOrders Sys2Proof.Endings Sys2Proof.Queries Sys2Proof.Frames
  Sys2Proof.Taken Sys2Proof.CommandFrames

set_option Elab.async false

/-! ## The notice that is sent first -/

theorem bestNotice_none {l : List Notice} (h : bestNotice l = none) : l = [] := by
  cases l with
  | nil => rfl
  | cons n l =>
    rw [bestNotice] at h
    split at h
    · split at h <;> cases h
    · cases h

/-- The notice that is sent first has the highest priority, and is the oldest of it. -/
theorem bestNotice_split {l : List Notice} {n : Notice} (h : bestNotice l = some n) :
    ∃ before after, l = before ++ n :: after ∧ (∀ m ∈ before, m.kind.prio < n.kind.prio) ∧ ∀ m ∈ after, m.kind.prio ≤ n.kind.prio := by
  induction l generalizing n with
  | nil => cases h
  | cons a l ih =>
    rw [bestNotice] at h
    split at h
    · rename_i m hm
      obtain ⟨before, after, hl, hb, ha⟩ := ih hm
      split at h <;> cases h
      · rename_i hlt
        refine ⟨a :: before, after, by rw [hl]; rfl, fun x hx => ?_, ha⟩
        rcases List.mem_cons.1 hx with rfl | hx
        · exact hlt
        · exact hb x hx
      · rename_i hge
        refine ⟨[], l, rfl, by simp, fun x hx => ?_⟩
        rw [hl, List.mem_append, List.mem_cons] at hx
        rcases hx with hx | rfl | hx
        · have := hb x hx
          omega
        · omega
        · have := ha x hx
          omega
    · rename_i hnone
      cases h
      exact ⟨[], l, rfl, by simp, by simp [bestNotice_none hnone]⟩

theorem noticeSends_best {s : State} {n : Notice} (h : bestNotice s.notices.queue = some n) :
    noticeSends s = { s with
      notices := { s.notices with queue := s.notices.queue.erase n }
      comms := { s.comms with line := { s.comms.line with
        txUntil := some (s.uptime + sendTime (noticeFrame s n).length), sent := some (noticeFrame s n) } } } := by
  rw [noticeSends, h]
  rfl

/-- Where every entry of the Fault Table is true to its condition, settling places no FAULT notice. -/
theorem settle_notices_sound {x : State} (h : ∀ f, x.faults.get f = .active ↔ faultCond x f = true) : (settle x).notices = x.notices := by
  have hplaced : placed x (settle x) [] := placed_settle rfl rfl
  have hnone : (FaultId.all.filter fun f => x.faults.get f != .active && (settle x).faults.get f == .active) = [] := by
    rw [List.filter_eq_nil_iff]
    intro f _
    have hact := settle_active_iff (x := x) (f := f)
    rw [← h f] at hact
    by_cases hx : x.faults.get f = .active <;> simp [hact, hx]
  rw [hplaced, risen, hnone]
  rfl

/-! ## The reply that waits -/

/-- A waiting reply begins to be sent on its port. -/
def sentReply (p : CmdPort) (w : Waiting) (s : State) : State :=
  modChan p (fun c => { c with
    reply := none, txUntil := some (s.uptime + sendTime (replyFrame s w).length), sent := some (replyFrame s w) }) s

section Replies

variable {s : State} {p : CmdPort} {w : Waiting}

theorem replyReady_iff : replyReady s p = true ↔ ∃ w, (chan s p).reply = some w ∧ w.outstanding = 0 ∧ sending s p = false := by
  unfold replyReady
  cases (chan s p).reply <;> simp

theorem sendIfReady_ready (hw : (chan s p).reply = some w) (h0 : w.outstanding = 0) (hs : sending s p = false) :
    sendIfReady p s = sentReply p w s := by
  rw [sendIfReady, if_pos (replyReady_iff.2 ⟨w, hw, h0, hs⟩), sendReply, hw]
  cases p <;> rfl

theorem sendIfReady_waits (hw : (chan s p).reply = some w) (h0 : w.outstanding ≠ 0) : sendIfReady p s = s := by
  refine if_neg fun hr => h0 ?_
  obtain ⟨w', hw', h0', -⟩ := replyReady_iff.1 hr
  rw [hw] at hw'
  cases hw'
  exact h0'

theorem sentReply_chan : chan (sentReply p w s) p = { chan s p with
    reply := none, txUntil := some (s.uptime + sendTime (replyFrame s w).length), sent := some (replyFrame s w) } := by
  cases p <;> rfl

/-- A change of one port's channel leaves the other's. -/
theorem chan_modChan_other {q : CmdPort} {f : Channel → Channel} (h : p ≠ q) : chan (modChan p f s) q = chan s q := by
  cases p <;> cases q <;> first | rfl | exact absurd rfl h

theorem chan_modChan_same {f : Channel → Channel} : chan (modChan p f s) p = f (chan s p) := by cases p <;> rfl

theorem chan_settle (s : State) (p : CmdPort) : chan (settle s) p = chan s p := by cases p <;> simp [chan]

theorem sendIfReady_other {q : CmdPort} (h : p ≠ q) : chan (sendIfReady p s) q = chan s q := by
  unfold sendIfReady sendReply
  split
  · split
    · rw [transmit, chan_modChan_other h, chan_modChan_other h]
    · rfl
  · rfl

/-- A row that is taken on one port leaves the channel of the other. -/
theorem taken_other {i : Instr} {snd : Sender} {words : List String} {u : State} {q : CmdPort}
    (hi : commandWords i = some (snd, words)) (ht : Takes s snd.port) (hu : exec i s = .next u) (hq : snd.port ≠ q) :
    chan u q = chan s q := by
  obtain ⟨cmd, hrow⟩ := runsWords_of_commandWords hi
  rw [exec_taken hrow ht] at hu
  cases hu
  have hbody : chan (runBody snd words (ready s)).st q = chan s q := by
    rw [(runBody_hush ..).chan]
    cases q <;> simp only [chan, ready_comms]
  unfold answer
  split
  · exact hbody
  · rw [sendIfReady_other hq, chan_modChan_other hq, hbody]

/-- A reply is sent, and a single frame that waits behind it is taken as its row. -/
theorem serve_one {i : Instr} {snd : Sender} {words : List String} (hi : commandWords i = some (snd, words))
    (hw : (chan s snd.port).reply = some w) (h0 : w.outstanding = 0) (hs : sending s snd.port = false)
    (hd : snd.port = .line → s.comms.deaf = false) (hr : s.comms.restartBy = none) (hin : (chan s snd.port).inbox = [(snd, words)]) :
    ∃ u, exec i (sentReply snd.port w s) = .next u ∧ serve snd.port s = modChan snd.port (fun c => { c with inbox := [] }) u ∧
      ∀ q, snd.port ≠ q → chan u q = chan s q := by
  have hdeaf : (sentReply snd.port w s).comms.deaf = s.comms.deaf := by
    unfold sentReply
    cases snd.port <;> rfl
  have hrestart : (sentReply snd.port w s).comms.restartBy = s.comms.restartBy := by
    unfold sentReply
    cases snd.port <;> rfl
  have htakes : Takes (sentReply snd.port w s) snd.port :=
    ⟨fun hp => by rw [hdeaf, hd hp], by rw [sentReply_chan], by rw [hrestart, hr]⟩
  obtain ⟨u, hu, hdrain⟩ := drain_one hi htakes (by rw [sentReply_chan]; exact hin)
  refine ⟨u, hu, by rw [serve, sendIfReady_ready hw h0 hs, hdrain], fun q hq => ?_⟩
  rw [taken_other hi htakes hu hq]
  exact chan_modChan_other hq

/-- With no frame behind it a reply is sent, and nothing else happens on its port. -/
theorem serve_reply (hw : (chan s p).reply = some w) (h0 : w.outstanding = 0) (hs : sending s p = false) (hin : (chan s p).inbox = []) :
    serve p s = sentReply p w s := by
  rw [serve, sendIfReady_ready hw h0 hs, drain_empty (by rw [sentReply_chan]; exact hin)]

theorem serve_waits (hw : (chan s p).reply = some w) (h0 : w.outstanding ≠ 0) (hin : (chan s p).inbox = []) : serve p s = s := by
  rw [serve, sendIfReady_waits hw h0, drain_empty hin]

/-! ## A reply that a command leaves -/

/-- A reply that has been offered to its port is no longer ready. -/
theorem sendIfReady_done (p : CmdPort) (s : State) : replyReady (sendIfReady p s) p = false := by
  by_cases h : replyReady s p = true
  · obtain ⟨w, hw, h0, hs⟩ := replyReady_iff.1 h
    rw [sendIfReady_ready hw h0 hs, replyReady, sentReply_chan]
  · rw [sendIfReady, if_neg h]
    simpa using h

theorem sendIfReady_inbox (p : CmdPort) (s : State) : (chan (sendIfReady p s) p).inbox = (chan s p).inbox := by
  unfold sendIfReady sendReply
  split
  · split
    · cases p <;> rfl
    · rfl
  · rfl

/-- Nothing is left to do on a port. -/
def PortQuiet (s : State) (p : CmdPort) : Prop := replyReady s p = false ∧ (chan s p).inbox = []

theorem PortQuiet.serve (h : PortQuiet s p) : serve p s = s := by
  rw [Machine.serve, sendIfReady, if_neg (by simp [h.1]), drain_empty h.2]

theorem PortQuiet.of_idle (hr : (chan s p).reply = none) (hi : (chan s p).inbox = []) : PortQuiet s p := ⟨by rw [replyReady, hr], hi⟩

theorem replyReady_settle (s : State) (p : CmdPort) : replyReady (settle s) p = replyReady s p := by
  simp only [replyReady, sending, chan_settle, settle_uptime]

theorem PortQuiet.settled (h : PortQuiet s p) : PortQuiet (settle s) p := by
  rw [PortQuiet, replyReady_settle, chan_settle]
  exact h

/-- A command that leaves idle channels leaves, with its answer, nothing to do on a port. -/
theorem answer_quiet {snd : Sender} {a : Answer} (h : ∀ q, (chan a.st q).inbox = [] ∧ (chan a.st q).reply = none) (q : CmdPort) :
    PortQuiet (answer snd a) q := by
  unfold answer
  split
  · exact .of_idle (h q).2 (h q).1
  · by_cases hq : snd.port = q
    · subst hq
      exact ⟨sendIfReady_done .., by rw [sendIfReady_inbox, chan_modChan_same]; exact (h _).1⟩
    · have hchan : chan (sendIfReady snd.port (modChan snd.port (fun c => { c with
          reply := some ⟨snd.orig, a.words, a.addr, a.writes, false⟩ }) a.st)) q = chan a.st q := by
        rw [sendIfReady_other hq, chan_modChan_other hq]
      exact .of_idle (by rw [hchan]; exact (h q).2) (by rw [hchan]; exact (h q).1)

end Replies

/-! ## A write that ends -/

/-- The Settings Store after a write, before the next one starts. -/
def endedStore (j : WriteJob) (ok : Bool) (x : Store) : Store :=
  if ok then { x with
    stored := copyRec j.key j.snap x.stored, unsaved := x.unsaved.filter (fun k => k != j.key)
    unreadable := x.unreadable.filter (fun k => k != j.key), busy := none }
  else { x with unsaved := if j.key ∈ x.unsaved then x.unsaved else x.unsaved ++ [j.key], busy := none }

section Writes

variable {s : State} {j : WriteJob} {ok : Bool}

theorem recordWrite_eq (j : WriteJob) (ok : Bool) (s : State) : recordWrite j ok s = { s with store := endedStore j ok s.store } := by
  cases ok <;> rfl

theorem endedStore_rest (j : WriteJob) (ok : Bool) (x : Store) :
    (endedStore j ok x).busy = none ∧ (endedStore j ok x).cmdQ = x.cmdQ ∧ (endedStore j ok x).ownQ = x.ownQ := by
  cases ok <;> exact ⟨rfl, rfl, rfl⟩

/-- The unsaved seconds, where a write of a lamp record takes them. -/
def rezeroed (k : RecKey) (w : PerBay Nat) : PerBay Nat :=
  match k with
  | .lamp b => w.set b 0
  | _ => w

theorem beginWrite_eq (k : RecKey) (ws : List CmdPort) (s : State) :
    beginWrite k ws s = { s with wear := rezeroed k s.wear, store := { s.store with busy := some ⟨k, s.work, ws⟩ } } := by
  cases k <;> rfl

theorem startWrite_nothing (hc : s.store.cmdQ = []) (ho : s.store.ownQ = []) : startWrite s = s := by
  unfold startWrite
  rw [hc, ho]
  split <;> rfl

theorem startWrite_command {r : WriteReq} {rs : List WriteReq} (hb : s.store.busy = none) (hc : s.store.cmdQ = r :: rs) :
    startWrite s = { s with
      wear := rezeroed r.key s.wear, store := { s.store with cmdQ := rs, busy := some ⟨r.key, s.work, r.waiters⟩ } } := by
  rw [startWrite, hb, hc]
  exact beginWrite_eq ..

theorem startWrite_own {k : RecKey} {ks : List RecKey} (hb : s.store.busy = none) (hc : s.store.cmdQ = [])
    (ho : s.store.ownQ = k :: ks) : startWrite s = { s with
      wear := rezeroed k s.wear, store := { s.store with ownQ := ks, busy := some ⟨k, s.work, []⟩ } } := by
  rw [startWrite, hb, hc, ho]
  exact beginWrite_eq ..

theorem writeEnds_eq (hb : s.store.busy = some j) (ok : Bool) :
    writeEnds ok s = serve .lectern (serve .line (settle (afterWrite (j.waiters.foldl (tellWaiter ok)
      { s with store := endedStore j ok s.store })))) := by
  rw [writeEnds, hb]
  simp only [recordWrite_eq]

theorem afterWrite_none (h : s.comms.restartBy = none) : afterWrite s = startWrite s := by
  rw [afterWrite, h]

theorem startWrite_chan (s : State) (p : CmdPort) : chan (startWrite s) p = chan s p := by cases p <;> simp [chan]

/-- A write that no reply waits for, with nothing to do on the ports. -/
theorem writeEnds_alone (hb : s.store.busy = some j) (hw : j.waiters = []) (hr : s.comms.restartBy = none)
    (hp : ∀ p, (chan s p).inbox = [] ∧ (chan s p).reply = none) :
    writeEnds ok s = settle (startWrite { s with store := endedStore j ok s.store }) := by
  have hquiet (p : CmdPort) : PortQuiet (settle (startWrite { s with store := endedStore j ok s.store })) p := by
    refine PortQuiet.settled (.of_idle ?_ ?_) <;> rw [startWrite_chan]
    · cases p
      · exact (hp .line).2
      · exact (hp .lectern).2
    · cases p
      · exact (hp .line).1
      · exact (hp .lectern).1
  rw [writeEnds_eq hb, hw, List.foldl_nil, afterWrite_none (s := { s with store := endedStore j ok s.store }) hr, (hquiet .line).serve, (hquiet .lectern).serve]

/-- Of two ports, one has something to do. -/
theorem serve_both {x : State} {p q : CmdPort} (hpq : p ≠ q) (hx : PortQuiet x q) (hz : PortQuiet (serve p x) q) :
    serve .lectern (serve .line x) = serve p x := by
  cases p <;> cases q
  · exact absurd rfl hpq
  · exact hz.serve
  · rw [hx.serve]
  · exact absurd rfl hpq

theorem tellWaiter_some {p : CmdPort} {w : Waiting} (hw : (chan s p).reply = some w) (ok : Bool) :
    tellWaiter ok s p = modChan p (fun c => { c with
      reply := some { w with outstanding := w.outstanding - 1, failed := w.failed || !ok } }) s := by
  cases p
  all_goals
    simp only [chan] at hw
    simp [tellWaiter, modChan, hw]

theorem syncScan_modChan (p : CmdPort) (f : Channel → Channel) (s : State) : syncScan (modChan p f s) = modChan p f (syncScan s) := by
  rw [syncScan, syncScan, apply_ite (modChan p f)]
  cases p <;> rfl

theorem essence_modChan (p : CmdPort) (f : Channel → Channel) (s : State) : essence (modChan p f s) = modChan p f (essence s) := by
  unfold essence
  rw [syncScan_modChan]
  cases p <;> rfl

/-- The essence of a sent reply depends on no more than the essence. -/
theorem essence_sentReply_settle (p : CmdPort) (w : Waiting) (s : State) :
    essence (sentReply p w (settle s)) = essence (sentReply p w s) := by
  rw [sentReply, sentReply, essence_modChan, essence_modChan, essence_settle]
  simp only [replyFrame, settle_work, settle_uptime]

/-! ## A reply that waits for the write -/

/-- A reply that has one write less to wait for. -/
def Waiting.oneLess (w : Waiting) (ok : Bool) : Waiting := { w with outstanding := w.outstanding - 1, failed := w.failed || !ok }

/-- The write has ended, and the reply that waits for it is told. -/
def told (j : WriteJob) (ok : Bool) (p : CmdPort) (w : Waiting) (s : State) : State :=
  modChan p (fun c => { c with reply := some (Waiting.oneLess w ok) }) { s with store := endedStore j ok s.store }

theorem told_settled_chan (p : CmdPort) (w : Waiting) :
    chan (settle (told j ok p w s)) p = { chan s p with reply := some (Waiting.oneLess w ok) } := by
  rw [chan_settle, told, chan_modChan_same]
  cases p <;> rfl

theorem told_settled_other {p q : CmdPort} (w : Waiting) (h : p ≠ q) : chan (settle (told j ok p w s)) q = chan s q := by
  rw [chan_settle, told, chan_modChan_other h]
  cases q <;> rfl

theorem told_settled_sending (p : CmdPort) (w : Waiting) : sending (settle (told j ok p w s)) p = sending s p := by
  have hup : (told j ok p w s).uptime = s.uptime := by cases p <;> rfl
  simp only [sending, told_settled_chan, settle_uptime, hup]

/-- One port's reply waits for the write, and the other port is idle. -/
structure OneWaits (s : State) (j : WriteJob) (p q : CmdPort) (w : Waiting) : Prop where
  ports : p ≠ q
  busy : s.store.busy = some j
  waiters : j.waiters = [p]
  restart : s.comms.restartBy = none
  reply : (chan s p).reply = some w
  otherReply : (chan s q).reply = none
  otherInbox : (chan s q).inbox = []
  noCommand : s.store.cmdQ = []
  noOwn : s.store.ownQ = []

theorem OneWaits.writeEnds {p q : CmdPort} {w : Waiting} (h : OneWaits s j p q w) (hz : ∀ x, x = serve p (settle (told j ok p w s)) →
    chan x q = chan s q) : writeEnds ok s = serve p (settle (told j ok p w s)) := by
  have htold : tellWaiter ok { s with store := endedStore j ok s.store } p = told j ok p w s := by
    refine tellWaiter_some ?_ ok
    rw [← h.reply]
    cases p <;> rfl
  have hrest : (told j ok p w s).comms.restartBy = none ∧ (told j ok p w s).store = endedStore j ok s.store := by
    rw [← h.restart]
    cases p <;> exact ⟨rfl, rfl⟩
  have hstart : afterWrite (told j ok p w s) = told j ok p w s := by
    obtain ⟨-, hc, ho⟩ := endedStore_rest j ok s.store
    rw [afterWrite_none hrest.1]
    exact startWrite_nothing (by rw [hrest.2, hc, h.noCommand]) (by rw [hrest.2, ho, h.noOwn])
  have hquiet {x : State} (hx : chan x q = chan s q) : PortQuiet x q :=
    .of_idle (by rw [hx]; exact h.otherReply) (by rw [hx]; exact h.otherInbox)
  rw [writeEnds_eq h.busy, h.waiters, List.foldl_cons, List.foldl_nil, htold, hstart]
  exact serve_both h.ports (hquiet (told_settled_other w h.ports)) (hquiet (hz _ rfl))

/-- The reply waits on for another write. -/
theorem OneWaits.more {p q : CmdPort} {w : Waiting} (h : OneWaits s j p q w) (hmore : 1 < w.outstanding)
    (hin : (chan s p).inbox = []) : Machine.writeEnds ok s = settle (told j ok p w s) := by
  have hserve : serve p (settle (told j ok p w s)) = settle (told j ok p w s) := by
    refine serve_waits (w := Waiting.oneLess w ok) (by rw [told_settled_chan]) ?_ (by rw [told_settled_chan]; exact hin)
    show w.outstanding - 1 ≠ 0
    omega
  rw [h.writeEnds fun x hx => by rw [hx, hserve, told_settled_other w h.ports], hserve]

/-- The reply waited for this write alone, and no frame waits behind it. -/
theorem OneWaits.last {p q : CmdPort} {w : Waiting} (h : OneWaits s j p q w) (hlast : w.outstanding = 1)
    (hs : sending s p = false) (hin : (chan s p).inbox = []) :
    Machine.writeEnds ok s = sentReply p (Waiting.oneLess w ok) (settle (told j ok p w s)) := by
  have hserve : serve p (settle (told j ok p w s)) = sentReply p (Waiting.oneLess w ok) (settle (told j ok p w s)) := by
    refine serve_reply (by rw [told_settled_chan]) ?_ ?_ (by rw [told_settled_chan]; exact hin)
    · show w.outstanding - 1 = 0
      omega
    · rw [told_settled_sending, hs]
  rw [h.writeEnds fun x hx => ?_, hserve]
  rw [hx, hserve, sentReply, chan_modChan_other h.ports, told_settled_other w h.ports]

/-- A single frame that waits behind the reply is then taken as its row. -/
theorem OneWaits.taken {i : Instr} {snd : Sender} {words : List String} {q : CmdPort} {w : Waiting} (h : OneWaits s j snd.port q w)
    (hi : commandWords i = some (snd, words)) (hlast : w.outstanding = 1) (hs : sending s snd.port = false)
    (hd : snd.port = .line → s.comms.deaf = false) (hin : (chan s snd.port).inbox = [(snd, words)]) :
    ∃ u, exec i (sentReply snd.port (Waiting.oneLess w ok) (settle (told j ok snd.port w s))) = .next u ∧
      Machine.writeEnds ok s = modChan snd.port (fun c => { c with inbox := [] }) u := by
  have hcomms : (settle (told j ok snd.port w s)).comms.deaf = s.comms.deaf ∧
      (settle (told j ok snd.port w s)).comms.restartBy = s.comms.restartBy := by
    rw [settle_comms]
    unfold told
    cases snd.port <;> exact ⟨rfl, rfl⟩
  obtain ⟨u, hu, hserve, hother⟩ := serve_one (s := settle (told j ok snd.port w s)) (w := Waiting.oneLess w ok) hi
    (by rw [told_settled_chan]) (by show w.outstanding - 1 = 0; omega)
    (by rw [told_settled_sending, hs]) (fun hp => by rw [hcomms.1, hd hp])
    (by rw [hcomms.2, h.restart]) (by rw [told_settled_chan]; exact hin)
  refine ⟨u, hu, ?_⟩
  rw [h.writeEnds fun x hx => ?_, hserve]
  rw [hx, hserve, chan_modChan_other h.ports, hother q h.ports, told_settled_other w h.ports]

/-! ## A RESTART that waits for the write -/

/-- The state in which a RESTART that waited for the write is acted on. -/
def restartable (j : WriteJob) (ok : Bool) (s : State) : State :=
  { s with store := endedStore j ok s.store, comms := { s.comms with restartBy := none } }

/-- The write that ends brings no event that must be taken before the RESTART. -/
theorem ready_restartable (h : quiescent s = true) : ready (restartable j ok s) = nextEvent (restartable j ok s) := by
  simp only [quiescent, Bool.not_eq_true', Bool.or_eq_false_iff] at h
  obtain ⟨⟨⟨⟨⟨⟨⟨⟨⟨⟨⟨⟨⟨⟨⟨⟨⟨⟨⟨⟨⟨⟨hsensor, hlevel⟩, hhall⟩, hcarryA⟩, hcarryB⟩, -⟩, -⟩, hecoA⟩, hecoB⟩, hdueA⟩, hdueB⟩, hrunA⟩, hrunB⟩, -⟩, -⟩,
    -⟩, -⟩, -⟩, htilt⟩, hconfirm⟩, -⟩, hstrikeA⟩, hstrikeB⟩ := h
  generalize hz : restartable j ok s = z
  have e1 : fuSensor z = z := ifDue_of_not (by rw [← hz]; exact hsensor)
  have e2 : fuLevel z = z := ifDue_of_not (by rw [← hz]; exact hlevel)
  have e3 : fuHall z = z := ifDue_of_not (by rw [← hz]; exact hhall)
  have e4 : fuCarry .bayA z = z := ifDue_of_not (by rw [← hz]; exact hcarryA)
  have e5 : fuCarry .bayB z = z := ifDue_of_not (by rw [← hz]; exact hcarryB)
  have e6 : fuEco .bayA z = z := ifDue_of_not (by rw [← hz]; exact hecoA)
  have e7 : fuEco .bayB z = z := ifDue_of_not (by rw [← hz]; exact hecoB)
  have e8 : fuConditioning .bayA z = z := ifDue_of_not (by rw [← hz]; exact hdueA)
  have e9 : fuConditioning .bayB z = z := ifDue_of_not (by rw [← hz]; exact hdueB)
  have e10 : fuFullRun .bayA z = z := ifDue_of_not (by rw [← hz]; exact hrunA)
  have e11 : fuFullRun .bayB z = z := ifDue_of_not (by rw [← hz]; exact hrunB)
  have e12 : fuTilt z = z := ifDue_of_not (by rw [← hz]; exact htilt)
  have e13 : fuConfirm z = z := ifDue_of_not (by rw [← hz]; exact hconfirm)
  have e14 : fuStrike .bayA z = z := ifDue_of_not (by rw [← hz]; exact hstrikeA)
  have e15 : fuStrike .bayB z = z := ifDue_of_not (by rw [← hz]; exact hstrikeB)
  simp only [ready, completeCore, completeCounts, completeStrikes, e1, e2, e3, e4, e5, e6, e7, e8, e9, e10, e11, e12, e13, e14, e15]

/-- The answer of a RESTART. -/
def restarted (s : State) : Answer := yes (restartAll s) fun _ => ["RESTART"]

theorem exec_restart_waited {snd : Sender} (hq : quiescent s = true) (hc : below snd .facility = false) (hd : s.comms.deaf = false)
    (hp : ∀ p, (chan s p).inbox = [] ∧ (chan s p).reply = none) :
    exec (.restart snd []) (restartable j ok s) = .next (answer snd (restarted (nextEvent (restartable j ok s)))) := by
  have htakes : Takes (restartable j ok s) snd.port := by
    refine ⟨fun _ => hd, ?_, rfl⟩
    rw [← (hp snd.port).2]
    cases snd.port <;> rfl
  obtain ⟨cmd, hrow⟩ := runsWords_of_commandWords (i := .restart snd []) rfl
  have hbody (x : State) : runBody snd ["RESTART"] x = cmdRestart snd [] x := rfl
  have hbusy : (nextEvent (restartable j ok s)).store.busy = none := (endedStore_rest j ok s.store).1
  have hcmd : cmdRestart snd [] (nextEvent (restartable j ok s)) = restarted (nextEvent (restartable j ok s)) := by
    refine (gate_passes hc (lockedOut_facility hc)).trans ?_
    rw [hbusy]
    rfl
  rw [exec_taken hrow htakes, ready_restartable hq, hbody, hcmd]

/-- The write that ends acts on the RESTART that waits, and the ports have nothing left to do. -/
theorem writeEnds_restart {snd : Sender} (hb : s.store.busy = some j) (hw : j.waiters = []) (hr : s.comms.restartBy = some snd)
    (hp : ∀ p, (chan s p).inbox = [] ∧ (chan s p).reply = none) :
    writeEnds ok s = settle (answer snd (restarted (restartable j ok s))) := by
  have hchan (p : CmdPort) : chan (restarted (restartable j ok s)).st p = chan s p := by
    have hcomms : (restarted (restartable j ok s)).st.comms =
        { (restartable j ok s).comms with errCount := 0, deaf := false } := by
      rw [restarted, yes, settle_comms, restartAll_comms]
    cases p <;> simp only [chan, hcomms] <;> rfl
  have hquiet (p : CmdPort) : PortQuiet (settle (answer snd (restarted (restartable j ok s)))) p :=
    (answer_quiet (fun q => by rw [hchan]; exact hp q) p).settled
  have hafter : afterWrite { s with store := endedStore j ok s.store } = answer snd (restarted (restartable j ok s)) := by
    simp only [afterWrite, hr]
    rfl
  rw [writeEnds_eq hb, hw, List.foldl_nil, hafter, (hquiet .line).serve, (hquiet .lectern).serve]

end Writes

/-! ## The whole (O55) -/

theorem noticeSend_row {s : State} (hq : quiescent s = true) (hdue : noticeDue s = true) :
    ∃ n t, exec .noticeSend s = .next t ∧ bestNotice s.notices.queue = some n ∧
      essence t = essence { s with comms := { s.comms with line := { s.comms.line with
        txUntil := some (s.uptime + sendTime (noticeFrame s n).length), sent := some (noticeFrame s n) } } } ∧
      (faultsSound s → t.notices = { s.notices with queue := s.notices.queue.erase n }) := by
  cases hbest : bestNotice s.notices.queue with
  | none =>
    simp [noticeDue, bestNotice_none hbest] at hdue
  | some n =>
    have hsends := noticeSends_best (s := nextEvent s) hbest
    refine ⟨n, _, onTime_of_due hq hdue, rfl, ?_, fun hsound => ?_⟩
    · rw [essence_settle, hsends]
      exact essence_congr rfl rfl rfl rfl rfl
    · have hcond (f : FaultId) : faultCond (noticeSends (nextEvent s)) f = faultCond s f := by
        rw [hsends]
        exact faultCond_congr rfl rfl rfl rfl rfl rfl rfl rfl f
      have hfaults : (noticeSends (nextEvent s)).faults = s.faults := by rw [hsends]; rfl
      rw [settle_notices_sound fun f => by rw [hcond, hfaults]; exact (hsound f).1, hsends]
      rfl

/-- Settles O55. -/
theorem portsSendAndWritesEnd : Obligations.PortsSendAndWritesEnd := by
  intro s hq sent empty
  have hsent (p : CmdPort) (w : Waiting) (x : State) (hup : x.uptime = s.uptime)
      (haddr : x.work = s.work) : sentReply p w x = sent p w x := by
    simp only [sentReply, replyFrame, hup, haddr]
    rfl
  refine ⟨fun hdue => ?_, fun p w hw h0 hs => ?_, fun j ok hb => ?_⟩
  · obtain ⟨n, t, ht, hbest, he, hn⟩ := noticeSend_row hq hdue
    obtain ⟨before, after, hl, hbefore, hafter⟩ := bestNotice_split hbest
    exact ⟨n, t, ht, by rw [hl]; simp, ⟨before, after, hl, hbefore, hafter⟩, he, hn⟩
  · have hdue : replyReady s p = true := replyReady_iff.2 ⟨w, hw, h0, hs⟩
    have hexec : exec (.replySend p) s = .next (settle (serve p (nextEvent s))) :=
      onTimeLoose_of_due (due := fun x => replyReady x p) hq hdue
    have hw' : (chan (nextEvent s) p).reply = some w := by rw [← hw]; cases p <;> rfl
    have hchan : chan (nextEvent s) p = chan s p := by cases p <;> rfl
    refine ⟨fun hin => ⟨_, hexec, ?_⟩, fun i snd words _ hi hp hd hr hin => ?_⟩
    · rw [serve_reply hw' h0 hs (by rw [hchan]; exact hin), essence_settle, hsent p w (nextEvent s) rfl rfl]
      cases p <;> exact essence_congr rfl rfl rfl rfl rfl
    · subst hp
      obtain ⟨u, hu, hserve, -⟩ := serve_one hi hw' h0 hs hd hr (by rw [hchan]; exact hin)
      rw [hsent _ w (nextEvent s) rfl rfl] at hu
      exact ⟨u, hu, by rw [hexec, hserve]⟩
  · intro store rezero
    have hexec : exec (.storeWriteDone ok) s = .next (settle (writeEnds ok (nextEvent s))) := actLoose_of_quiescent hq
    have hchan (p : CmdPort) : chan (nextEvent s) p = chan s p := by cases p <;> rfl
    obtain ⟨hbusy, hcmd, hown⟩ := endedStore_rest j ok s.store
    refine ⟨fun hr => ⟨fun hp hw => ?_, fun p q w hpq hw hrep hqr hqi hc ho => ?_⟩, fun snd hr hc hd hp hw => ?_⟩
    · have hends : writeEnds ok (nextEvent s) = settle (startWrite { nextEvent s with store := endedStore j ok s.store }) :=
        writeEnds_alone hb hw hr fun p => by rw [hchan]; exact hp p
      rw [hends] at hexec
      refine ⟨fun hc ho => ⟨_, hexec, ?_⟩, fun r rs hc => ⟨_, hexec, ?_⟩, fun k ks hc ho => ⟨_, hexec, ?_⟩⟩ <;>
        rw [essence_settle, essence_settle]
      · rw [startWrite_nothing (hcmd.trans hc) (hown.trans ho)]
        exact essence_congr rfl rfl rfl rfl rfl
      · rw [startWrite_command hbusy (hcmd.trans hc)]
        obtain ⟨key, waiters⟩ := r
        cases key <;> exact essence_congr rfl rfl rfl rfl rfl
      · rw [startWrite_own hbusy (hcmd.trans hc) (hown.trans ho)]
        cases k <;> exact essence_congr rfl rfl rfl rfl rfl
    · intro w' x
      have hwaits : OneWaits (nextEvent s) j p q w :=
        ⟨hpq, hb, hw, hr, by rw [hchan]; exact hrep, by rw [hchan]; exact hqr, by rw [hchan]; exact hqi, hc, ho⟩
      have htold : told j ok p w (nextEvent s) = nextEvent x := by cases p <;> rfl
      have hx : (nextEvent x).uptime = s.uptime ∧ (nextEvent x).work = s.work := by cases p <;> exact ⟨rfl, rfl⟩
      have hess : essence (nextEvent x) = essence x := essence_nextEvent x
      refine ⟨fun hmore hin => ⟨_, hexec, ?_⟩, fun hlast hs => ⟨fun hin => ⟨_, hexec, ?_⟩, fun i snd words _ hi hp hd hin => ?_⟩⟩
      · rw [hwaits.more hmore (by rw [hchan]; exact hin), essence_settle, essence_settle, htold, hess]
      · rw [hwaits.last hlast hs (by rw [hchan]; exact hin), essence_settle, essence_sentReply_settle, htold]
        rw [hsent p _ (nextEvent x) hx.1 hx.2, essence_modChan, hess, ← essence_modChan]
        rfl
      · subst hp
        obtain ⟨u, hu, hends⟩ := hwaits.taken (ok := ok) hi hlast hs hd (by rw [hchan]; exact hin)
        rw [htold, hsent _ _ (settle (nextEvent x)) (by rw [settle_uptime, hx.1]) (by rw [settle_work, hx.2])] at hu
        exact ⟨u, hu, by rw [hexec, hends]⟩
    · refine ⟨_, exec_restart_waited hq hc hd hp, ?_⟩
      have hends : writeEnds ok (nextEvent s) = settle (answer snd (restarted (restartable j ok (nextEvent s)))) :=
        writeEnds_restart hb hw hr fun p => by rw [hchan]; exact hp p
      rw [hexec, hends]
      rfl

end Sys2Proof.Sending

/-! PROOFS. The Fault Table: FILTER, MASK, CLEARFAULT, and how each event moves its entries (O50). -/

namespace Sys2Proof.FaultTables

open Sys2Proof Sys2Proof.Machine Sys2Proof.Upkeep Sys2Proof.Steps Sys2Proof.Lamps Sys2Proof.Counts Sys2Proof.Picture Sys2Proof.Refusals
  Sys2Proof.Accepted Sys2Proof.LampOrders Sys2Proof.Agenda Sys2Proof.BookingOrders Sys2Proof.Endings Sys2Proof.Queries Sys2Proof.Frames
  Sys2Proof.Taken Sys2Proof.CommandFrames Sys2Proof.Sending

set_option Elab.async false

/-! ## What the events of the part leave of the Fault Table and the Notice Queue

An event that places no notice of its own leaves both to the settling that follows it; the others leave the table. -/

/-- From one state to the next the Fault Table and the Notice Queue stand. -/
abbrev Silent (s t : State) : Prop := t.faults = s.faults ∧ t.notices = s.notices

section Silent

variable (s : State) (b : Bay)

theorem countBad_silent : Silent s (countBad s) := by
  unfold countBad
  dsimp only
  split <;> exact ⟨rfl, rfl⟩

theorem lineBad_silent : Silent s (lineBad s) := countBad_silent _

theorem setRx_silent (p : CmdPort) (rx : Option (List Char)) : Silent s (setRx p rx s) := by cases p <;> exact ⟨rfl, rfl⟩

theorem lineBadFrame_silent (start : Option Char) : Silent s (lineBadFrame start s) := by
  have h : Silent s (lineBad (heard .line s)) := lineBad_silent _
  unfold lineBadFrame
  dsimp only
  split
  · exact ⟨rfl, rfl⟩
  · split
    · exact ⟨rfl, rfl⟩
    · split
      · split
        · exact h
        · exact h
      · exact h

theorem badFrame_silent (c : BadCause) : Silent s (badFrame c s) := by
  cases c
  case lecternFramingError => exact ⟨rfl, rfl⟩
  all_goals exact lineBadFrame_silent ..

theorem grantIgniter_silent : Silent s (grantIgniter s) := by
  unfold grantIgniter
  split <;> exact ⟨rfl, rfl⟩

theorem lampLoss_silent : Silent s (lampLoss b s) := by
  unfold lampLoss
  dsimp only
  repeat' split
  all_goals simp [Silent]

theorem litDrops_silent : Silent s (litDrops b s) := by
  unfold litDrops
  dsimp only
  split
  · exact lampLoss_silent ..
  · exact ⟨rfl, rfl⟩

theorem doorOpens_silent : Silent s (doorOpens b s) := by
  unfold doorOpens
  split <;> simp [Silent]

theorem doorCloses_silent : Silent s (doorCloses b s) := by
  unfold doorCloses
  split <;> simp [Silent]

theorem ballastAsserts_silent : Silent s (ballastAsserts b s) := by
  unfold ballastAsserts
  split <;> simp [Silent]

theorem lossBarEnds_silent : Silent s (lossBarEnds b s) := by simp [lossBarEnds, Silent]

theorem noteTop_silent : Silent s (noteTop b s) := by
  unfold noteTop
  split <;> simp [Silent]

theorem countWear_silent : Silent s (countWear b s) := by
  unfold countWear
  split
  · exact noteTop_silent s b
  · exact ⟨rfl, rfl⟩

theorem countMode_silent : Silent s (countMode b s) := by
  unfold countMode
  split <;> simp [Silent]

theorem silent_trans {s t u : State} (h : Silent s t) (h' : Silent t u) : Silent s u := ⟨h'.1.trans h.1, h'.2.trans h.2⟩

theorem litSecondPasses_silent : Silent s (litSecondPasses s) :=
  silent_trans (countWear_silent s .bayA) (silent_trans (countWear_silent _ .bayB)
    (silent_trans (countMode_silent _ .bayA) (countMode_silent _ .bayB)))

theorem askOwn_silent (k : RecKey) : Silent s (askOwn k s) := by simp [Silent]

theorem samplesTaken_silent (l : List PortReading) : Silent s (samplesTaken l s) := by
  unfold samplesTaken judgeSample
  dsimp only
  split <;> exact ⟨rfl, rfl⟩

theorem scanBegins_silent : Silent s (scanBegins s) := by
  unfold scanBegins
  split <;> exact ⟨rfl, rfl⟩

theorem dwellEnds_silent : Silent s (dwellEnds s) := by
  unfold dwellEnds
  split <;> exact ⟨rfl, rfl⟩

theorem cadence_silent : Silent s (cadence s) := by
  unfold cadence
  dsimp only
  split <;> simp [Silent]

theorem confirmTilt_silent : Silent s (confirmTilt s) := by
  unfold confirmTilt
  split <;> simp [Silent]

theorem warpAccepts_silent : Silent s (warpAccepts s) := by
  unfold warpAccepts
  split
  · exact ⟨rfl, rfl⟩
  · dsimp only
    split <;> exact ⟨rfl, rfl⟩

end Silent

section Tables

variable (s : State) (b : Bay)

theorem noticeSends_faults : (noticeSends s).faults = s.faults := by
  unfold noticeSends
  split <;> rfl

theorem strikeSucceeds_faults : (strikeSucceeds b s).faults = s.faults := by simp [strikeSucceeds]

theorem litAsserted_faults : (litAsserted b s).faults = s.faults := by
  unfold litAsserted
  dsimp only
  split
  · exact strikeSucceeds_faults ..
  · rfl

theorem strikeFails_faults : (strikeFails b s).faults = s.faults := by
  unfold strikeFails
  dsimp only
  split <;> simp [enterFailed]

theorem warmUpEnds_faults : (warmUpEnds b s).faults = s.faults := by
  unfold warmUpEnds
  split <;> simp

theorem enterDark_faults : (enterDark b s).faults = s.faults := rfl

theorem wearCarries_faults : (wearCarries b s).faults = s.faults := by simp [wearCarries]

theorem levelChanges_faults : (levelChanges s).faults = s.faults := by
  unfold levelChanges
  split <;> simp [heatNotice, setLevel, enterShutdown]

theorem hallChanges_faults : (hallChanges s).faults = s.faults := rfl

theorem switchLocks_faults : (switchLocks s).faults = s.faults := by
  unfold switchLocks
  split <;> simp

theorem switchTimesOut_faults : (switchTimesOut s).faults = s.faults := by
  unfold switchTimesOut
  split <;> simp

theorem signalLost_faults : (signalLost s).faults = s.faults := by simp [signalLost]

theorem startClassTimer_faults : (startClassTimer s).faults = s.faults := rfl

theorem classChanged_faults : (classChanged s).faults = s.faults := by
  unfold classChanged
  dsimp only
  split <;> simp [startClassTimer_faults]

theorem noSignalLocks_faults : (noSignalLocks s).faults = s.faults := by
  unfold noSignalLocks
  dsimp only
  repeat' split
  all_goals simp [startClassTimer_faults]

theorem dwellLocks_faults : (dwellLocks s).faults = s.faults := by simp [dwellLocks]

theorem minuteEdgePasses_faults : (minuteEdgePasses s).faults = s.faults := by simp [minuteEdgePasses]

theorem endClock_faults : (endClock s).faults = s.faults := by
  have h : Apart s (endClock s) := by
    refine withLock_apart ?_
    dsimp only
    split <;> simp [Apart]
  exact h.2.1

theorem idleOff_faults : (idleOff s).faults = s.faults := by simp

end Tables

/-! ## How the entries move -/

/-- An actionable entry that is not Clear does not become Clear. -/
structure Latches (s t : State) : Prop where
  keeps : ∀ f : FaultId, f.actionable = true → s.faults.get f ≠ .clear → t.faults.get f ≠ .clear

/-- The entries stand, or one settling has moved them. -/
def OneMove (s t : State) : Prop := t.faults = s.faults ∨ ∃ x, x.faults = s.faults ∧ t = settle x

section Moves

variable {s t u : State} {f : State → State}

theorem settle_get (x : State) (e : FaultId) :
    (settle x).faults.get e = (x.faults.get e).move e.actionable (faultCond (settle x) e) := by
  have hcond : faultCond (settle x) e = faultCond (follow x) e := faultCond_syncFaults (follow x) e
  have hfaults : (follow x).faults = x.faults := (follow_rest x).1
  rw [hcond, ← hfaults]
  simp only [settle, syncFaults, movedFaults, FaultTable.get_make]

theorem OneMove.latches (h : OneMove s t) : Latches s t := by
  refine ⟨fun e ha hne => ?_⟩
  rcases h with h | ⟨x, hx, rfl⟩
  · rw [h]
    exact hne
  · rw [settle_get, hx, ha]
    cases faultCond (settle x) e <;> cases he : s.faults.get e <;> simp_all [FaultSt.move]

/-- A Clear entry whose condition does not hold stays Clear. -/
theorem OneMove.clear (h : OneMove s t) {e : FaultId} (hc : faultCond t e = false) (he : s.faults.get e = .clear) :
    t.faults.get e = .clear := by
  rcases h with h | ⟨x, hx, rfl⟩
  · rw [h, he]
  · rw [settle_get, hc, hx, he]
    rfl

theorem Latches.trans (h : Latches s t) (h' : Latches t u) : Latches s u :=
  ⟨fun e ha hne => h'.keeps e ha (h.keeps e ha hne)⟩

theorem ifDue_moves {due : State → Bool} (hf : ∀ x, (f x).faults = x.faults) (s : State) : OneMove s (ifDue due f s) := by
  unfold ifDue happen
  split
  · exact .inr ⟨f (nextEvent s), by rw [hf, nextEvent_faults], rfl⟩
  · exact .inl rfl

/-- The entries of a step: as `Latches`, and from a quiescent state as `OneMove`. -/
structure Moves (s t : State) : Prop where
  latches : Latches s t
  once : quiescent s = true → OneMove s t

theorem OneMove.moves (h : OneMove s t) : Moves s t := ⟨h.latches, fun _ => h⟩

/-! ### The events that follow another -/

theorem fuSensor_moves (s : State) : OneMove s (fuSensor s) := ifDue_moves (f := sensorFaultChanges) (fun _ => rfl) s
theorem fuLevel_moves (s : State) : OneMove s (fuLevel s) := ifDue_moves levelChanges_faults s
theorem fuHall_moves (s : State) : OneMove s (fuHall s) := ifDue_moves hallChanges_faults s
theorem fuCarry_moves (b : Bay) (s : State) : OneMove s (fuCarry b s) := ifDue_moves (fun x => wearCarries_faults x b) s
theorem fuEco_moves (b : Bay) (s : State) : OneMove s (fuEco b s) := ifDue_moves (f := ecoMinutePasses b) (fun _ => rfl) s
theorem fuConditioning_moves (b : Bay) (s : State) : OneMove s (fuConditioning b s) :=
  ifDue_moves (f := conditioningFalls b) (fun _ => rfl) s
theorem fuFullRun_moves (b : Bay) (s : State) : OneMove s (fuFullRun b s) := ifDue_moves (f := fullRunCompletes b) (fun _ => rfl) s
theorem fuSwitchLock_moves (s : State) : OneMove s (fuSwitchLock s) := ifDue_moves switchLocks_faults s
theorem fuLoss_moves (s : State) : OneMove s (fuLoss s) := ifDue_moves signalLost_faults s
theorem fuClass_moves (s : State) : OneMove s (fuClass s) := ifDue_moves classChanged_faults s
theorem fuNoSignalLock_moves (s : State) : OneMove s (fuNoSignalLock s) := ifDue_moves noSignalLocks_faults s
theorem fuDwellLock_moves (s : State) : OneMove s (fuDwellLock s) := ifDue_moves dwellLocks_faults s
theorem fuTilt_moves (s : State) : OneMove s (fuTilt s) := ifDue_moves (f := tiltInvalidBegins) (fun _ => rfl) s
theorem fuConfirm_moves (s : State) : OneMove s (fuConfirm s) := ifDue_moves (fun x => (confirmTilt_silent x).1) s
theorem fuGrant_moves (s : State) : OneMove s (fuGrant s) := ifDue_moves (fun x => (grantIgniter_silent x).1) s
theorem fuStrike_moves (b : Bay) (s : State) : OneMove s (fuStrike b s) := ifDue_moves (fun x => strikeSucceeds_faults x b) s

theorem fuUnsaved_moves (b : Bay) (s : State) : Moves s (fuUnsaved b s) where
  latches := (fuCarry_moves b s).latches.trans (ifDue_moves (fun x => (askOwn_silent x _).1) _).latches
  once hq := by
    have hstill : completeUnsaved s = s := completeUnsaved_of_quiescent hq
    simp only [quiescent, Bool.not_eq_true', Bool.or_eq_false_iff] at hq
    obtain ⟨⟨⟨⟨⟨⟨⟨⟨⟨⟨⟨⟨⟨⟨⟨⟨⟨⟨⟨⟨⟨⟨-, -⟩, -⟩, hcarryA⟩, hcarryB⟩, hunsavedA⟩, hunsavedB⟩, -⟩, -⟩, -⟩, -⟩, -⟩, -⟩, -⟩, -⟩, -⟩, -⟩, -⟩, -⟩,
      -⟩, -⟩, -⟩, -⟩ := hq
    have hcarry : fuCarry b s = s := ifDue_of_not (by cases b <;> assumption)
    rw [fuUnsaved, hcarry]
    exact ifDue_moves (fun x => (askOwn_silent x _).1) s

/-- One more event follows. -/
theorem Latches.andThen (h : Latches s t) (h' : OneMove t u) : Latches s u := h.trans h'.latches

theorem completeCounts_latches (s : State) : Latches s (completeCounts s) :=
  ((((((((((fuSensor_moves s).latches.andThen (fuLevel_moves _)).andThen (fuHall_moves _)).andThen (fuCarry_moves _ _)).andThen
    (fuCarry_moves _ _)).andThen (fuEco_moves _ _)).andThen (fuEco_moves _ _)).andThen (fuConditioning_moves _ _)).andThen
    (fuConditioning_moves _ _)).andThen (fuFullRun_moves _ _)).andThen (fuFullRun_moves _ _)

theorem completeStrikes_latches (s : State) : Latches s (completeStrikes s) :=
  (fuStrike_moves _ s).latches.andThen (fuStrike_moves _ _)

theorem completeCore_latches (s : State) : Latches s (completeCore s) :=
  (((completeCounts_latches s).andThen (fuTilt_moves _)).andThen (fuConfirm_moves _)).trans (completeStrikes_latches _)

theorem completePicture_latches (s : State) : Latches s (completePicture s) :=
  ((((fuSwitchLock_moves s).latches.andThen (fuLoss_moves _)).andThen (fuClass_moves _)).andThen (fuNoSignalLock_moves _)).andThen
    (fuDwellLock_moves _)

theorem complete_latches (s : State) : Latches s (complete s) :=
  (((completeCore_latches s).trans (completePicture_latches _)).andThen (fuGrant_moves _)).trans (completeStrikes_latches _)

theorem completeUnsaved_latches (s : State) : Latches s (completeUnsaved s) :=
  (fuUnsaved_moves _ s).latches.trans (fuUnsaved_moves _ _).latches

/-! ### The forms of an event -/

theorem act_moves (hf : ∀ x, (f x).faults = x.faults) (s : State) : ∃ t, act f s = .next t ∧ Moves s t := by
  have hone : OneMove (complete s) (event f s) := .inr ⟨f (nextEvent (complete s)), by rw [hf, nextEvent_faults], rfl⟩
  refine ⟨_, rfl, (complete_latches s).trans hone.latches, fun hq => ?_⟩
  rwa [complete_of_quiescent hq] at hone

theorem actLoose_moves (hf : ∀ x, (f x).faults = x.faults) (s : State) : ∃ t, actLoose f s = .next t ∧ Moves s t := by
  have hone : OneMove (completeCore s) (eventLoose f s) := .inr ⟨f (ready s), by rw [hf, ready, nextEvent_faults], rfl⟩
  refine ⟨_, rfl, (completeCore_latches s).trans hone.latches, fun hq => ?_⟩
  rwa [completeCore_of_quiescent hq] at hone

theorem onTime_moves {due : State → Bool} (hf : ∀ x, (f x).faults = x.faults) (s : State) :
    ∃ t, onTime due f s = .next t ∧ Moves s t := by
  have hone : OneMove (complete s) (timed due f s) := ifDue_moves hf _
  refine ⟨_, rfl, (complete_latches s).trans hone.latches, fun hq => ?_⟩
  rwa [complete_of_quiescent hq] at hone

theorem onTimeLoose_moves {due : State → Bool} (hf : ∀ x, (f x).faults = x.faults) (s : State) :
    ∃ t, onTimeLoose due f s = .next t ∧ Moves s t := by
  have hone : OneMove (completeCore s) (timedLoose due f s) := ifDue_moves hf _
  refine ⟨_, rfl, (completeCore_latches s).trans hone.latches, fun hq => ?_⟩
  rwa [completeCore_of_quiescent hq] at hone

/-! ### Every event of the part -/

theorem next_moves (h : OneMove s u) : ∃ t, (.next u : Machine.Result) = .next t ∧ Moves s t := ⟨u, rfl, h.moves⟩

theorem modChan_faults (p : CmdPort) (g : Channel → Channel) (x : State) : (modChan p g x).faults = x.faults := by cases p <;> rfl

theorem sendIfReady_faults (p : CmdPort) (x : State) : (sendIfReady p x).faults = x.faults := by
  unfold sendIfReady sendReply
  repeat' split
  all_goals simp only [transmit, modChan_faults]

theorem answer_faults (snd : Sender) (a : Answer) : (answer snd a).faults = a.st.faults := by
  unfold answer
  split
  · rfl
  · rw [sendIfReady_faults, modChan_faults]

theorem takeOn_refused_faults {snd : Sender} {words : List String} {cmd : State → Answer} (hcmd : ∀ x, ∃ r, cmd x = no r x)
    (x : State) : (takeOn snd words cmd x).faults = x.faults := by
  obtain ⟨r, hr⟩ := hcmd x
  unfold takeOn
  split
  · rfl
  · split
    · rw [modChan_faults]
    · rw [answer_faults, judge, hr]
      split <;> rfl

/-- A CEILING row whose arguments are not one mode only refuses: it has no words of its own. -/
theorem run_refused_moves {snd : Sender} {words : List String} {cmd : State → Answer} (hcmd : ∀ x, ∃ r, cmd x = no r x) (s : State) :
    ∃ t, run snd words cmd s = .next t ∧ Moves s t := by
  have hsame : OneMove (ready s) (takeOn snd words cmd (ready s)) := .inl (takeOn_refused_faults hcmd _)
  have hready : Latches s (ready s) := ⟨fun e ha hne => by rw [ready, nextEvent_faults]; exact (completeCore_latches s).keeps e ha hne⟩
  refine ⟨_, rfl, hready.trans hsame.latches, fun hq => .inl ?_⟩
  rw [takeOn_refused_faults hcmd, ready_of_quiescent hq, nextEvent_faults]

theorem cmdCeilingPersist_form {snd : Sender} {args : List String} (h : ∀ m, args ≠ [m]) (x : State) :
    ∃ r, cmdCeilingPersist snd args x = no r x := by
  have hform : parseOneMode args = none := by
    unfold parseOneMode
    split
    · exact absurd rfl (h _)
    · rfl
  unfold cmdCeilingPersist
  rw [hform]
  split <;> exact ⟨_, rfl⟩

theorem cmdCeilingTemp_form {snd : Sender} {args : List String} (h : ∀ m, args ≠ [m]) (x : State) :
    ∃ r, cmdCeilingTemp snd args x = no r x := by
  have hform : parseOneMode args = none := by
    unfold parseOneMode
    split
    · exact absurd rfl (h _)
    · rfl
  unfold cmdCeilingTemp
  rw [hform]
  split <;> exact ⟨_, rfl⟩

/-- Inputs of a power-on, to name a row. -/
def noInputs : PowerOnInputs := ⟨false, .make fun _ => false, .make fun _ => false, .make fun _ => false, []⟩

theorem ownEvent_moves {i : Instr} (h : ownEvent i) (s : State) : ∃ t, exec i s = .next t ∧ Moves s t := by
  obtain ⟨hwords, hwf, hnot⟩ := h
  have hrow {P : Prop} (hin : ∃ inp l ok p, i ∈ [Instr.powerOn inp, .lineFrame l, .lecternFrame l, .lineDeafEnd, .storeWriteDone ok,
      .replySend p]) : P := by
    obtain ⟨inp, l, ok, p, hin⟩ := hin
    exact absurd hin (hnot inp l ok p)
  cases i
  case powerOn inp => exact hrow ⟨inp, [], true, .line, by simp⟩
  case lineFrame l => exact hrow ⟨noInputs, l, true, .line, by simp⟩
  case lecternFrame l => exact hrow ⟨noInputs, l, true, .line, by simp⟩
  case lineDeafEnd => exact hrow ⟨noInputs, [], true, .line, by simp⟩
  case storeWriteDone ok => exact hrow ⟨noInputs, [], ok, .line, by simp⟩
  case replySend p => exact hrow ⟨noInputs, [], true, p, by simp⟩
  case badFrame c => exact act_moves (fun x => (badFrame_silent x c).1) s
  case interCharacterGap => exact onTime_moves (fun x => (lineBad_silent x).1) s
  case noticeSend => exact onTime_moves noticeSends_faults s
  case igniterGrant => exact next_moves (fuGrant_moves s)
  case strikeSuccess b => exact act_moves (fun x => litAsserted_faults x b) s
  case strikeWindowEnd b => exact onTime_moves (fun x => strikeFails_faults x b) s
  case warmUpEnd b => exact onTime_moves (fun x => warmUpEnds_faults x b) s
  case litSenseDrop b => exact act_moves (fun x => (litDrops_silent x b).1) s
  case coolingEnd b => exact onTime_moves (f := coolingEnds b) (fun _ => rfl) s
  case restEnd b => exact onTime_moves (fun x => enterDark_faults x b) s
  case strikeHoldoffEnd b => exact onTime_moves (f := id) (fun _ => rfl) s
  case doorOpen b => exact actLoose_moves (fun x => (doorOpens_silent x b).1) s
  case doorClose b => exact act_moves (fun x => (doorCloses_silent x b).1) s
  case ballastFaultAsserted b => exact actLoose_moves (fun x => (ballastAsserts_silent x b).1) s
  case ballastFaultReleased b => exact act_moves (f := setBallast b false) (fun _ => rfl) s
  case spacingEnd => exact onTime_moves (f := spacingEnds) (fun _ => rfl) s
  case strikeListExpiry b => exact onTime_moves (f := strikeListExpires b) (fun _ => rfl) s
  case lossBarEnd b => exact onTime_moves (fun x => (lossBarEnds_silent x b).1) s
  case lampLostExpiry b => exact onTime_moves (f := lampLostEnds b) (fun _ => rfl) s
  case litSecond =>
    obtain ⟨t, ht, hm⟩ := onTime_moves (due := litSecondDue) (fun x => (litSecondPasses_silent x).1) (completeUnsaved s)
    refine ⟨t, ht, (completeUnsaved_latches s).trans hm.latches, fun hq => ?_⟩
    rw [completeUnsaved_of_quiescent hq] at hm
    exact hm.once hq
  case wearCarry b => exact next_moves (fuCarry_moves b s)
  case unsavedWrite b => exact ⟨_, rfl, fuUnsaved_moves b s⟩
  case ecoMinute b => exact next_moves (fuEco_moves b s)
  case conditioningDue b => exact next_moves (fuConditioning_moves b s)
  case fullRunComplete b => exact next_moves (fuFullRun_moves b s)
  case thermistorConversion h a => exact actLoose_moves (f := convert h a) (fun _ => rfl) s
  case housingSensorFault => exact next_moves (fuSensor_moves s)
  case thermalLevelChange => exact next_moves (fuLevel_moves s)
  case hotHallChange => exact next_moves (fuHall_moves s)
  case tachPulse => exact act_moves (f := tachPulses) (fun _ => rfl) s
  case fanStall => exact onTime_moves (f := fanStalls) (fun _ => rfl) s
  case portSample l => exact act_moves (fun x => (samplesTaken_silent x l).1) s
  case switchLock => exact next_moves (fuSwitchLock_moves s)
  case switchTimeout => exact onTime_moves switchTimesOut_faults s
  case signalLoss => exact next_moves (fuLoss_moves s)
  case classChange => exact next_moves (fuClass_moves s)
  case classChangeTimerEnd => exact onTime_moves (f := classTimerEnds) (fun _ => rfl) s
  case nosignalLock => exact next_moves (fuNoSignalLock_moves s)
  case scanStart => exact onTime_moves (fun x => (scanBegins_silent x).1) s
  case dwellLock => exact next_moves (fuDwellLock_moves s)
  case dwellEnd => exact onTime_moves (fun x => (dwellEnds_silent x).1) s
  case tiltRead r => exact act_moves (f := tiltReads r) (fun _ => rfl) s
  case tiltInvalid => exact next_moves (fuTilt_moves s)
  case cadenceComputation => exact onTime_moves (fun x => (cadence_silent x).1) s
  case autoTiltConfirm => exact next_moves (fuConfirm_moves s)
  case warpReady => exact act_moves (fun x => (warpAccepts_silent x).1) s
  case warpReplyWindowEnd => exact onTime_moves (f := warpWindowEnds) (fun _ => rfl) s
  case minuteEdge => exact onTimeLoose_moves minuteEdgePasses_faults s
  case clockEnd => exact onTimeLoose_moves endClock_faults s
  case idleAutoOff => exact onTimeLoose_moves idleOff_faults s
  case ceilingPersist snd args =>
    refine run_refused_moves (fun x => cmdCeilingPersist_form (fun m hm => ?_) x) s
    rw [hm] at hwords
    cases hwords
  case ceilingTemp snd args =>
    refine run_refused_moves (fun x => cmdCeilingTemp_form (fun m hm => ?_) x) s
    rw [hm] at hwords
    cases hwords
  case settingQuery snd args =>
    simp only [Instr.wf, Bool.and_eq_true, beq_iff_eq] at hwf
    obtain ⟨w, hw⟩ := List.length_eq_one_iff.1 hwf.2
    rw [hw] at hwords
    cases hwords
  all_goals cases hwords

/-- After an event each entry is as its condition and its state before call for (R178). -/
theorem ownEvent_entries {i : Instr} (hs : faultsSound s) (h : ownEvent i) :
    ∃ t, exec i s = .next t ∧ ∀ e,
      (faultCond t e = true → t.faults.get e = .active) ∧
      (faultCond t e = false →
        (e.actionable = false → t.faults.get e = .clear) ∧
        (e.actionable = true → s.faults.get e ≠ .clear → t.faults.get e = .latched) ∧
        (quiescent s = true → s.faults.get e = .clear → t.faults.get e = .clear)) := by
  obtain ⟨t, ht, hm⟩ := ownEvent_moves h s
  have hsound : faultsSound t := (exec_stays ht).faults hs
  refine ⟨t, ht, fun e => ⟨(hsound e).1.2, fun hc => ?_⟩⟩
  have hna : t.faults.get e ≠ .active := fun ha => by
    rw [(hsound e).1.1 ha] at hc
    cases hc
  refine ⟨fun ha => ?_, fun ha hne => ?_, fun hq hclear => (hm.once hq).clear hc hclear⟩
  · have hnl := (hsound e).2 ha
    cases he : t.faults.get e <;> simp_all
  · have hnc := hm.latches.keeps e ha hne
    cases he : t.faults.get e <;> simp_all

end Moves

/-! ## CLEARFAULT -/

theorem mem_all (f : FaultId) : f ∈ FaultId.all := by
  cases f with
  | strikeFailed b | lampFailed b | lampLost b | ballastFault b | doorOpen b | lampLow b | lampExhausted b => cases b <;> decide
  | _ => decide

/-- A kind and a bay name one entry. -/
theorem kind_bay_iff {f g : FaultId} {b : Bay} (hf : f.bay? = some b) :
    (showFaultKind g = showFaultKind f ∧ g.bay? = some b) ↔ g = f := by
  have h : ∀ f ∈ FaultId.all, ∀ g ∈ FaultId.all, showFaultKind g = showFaultKind f → g.bay? = f.bay? → g = f := by decide
  constructor
  · rintro ⟨hk, hb⟩
    exact h f (mem_all f) g (mem_all g) hk (hb.trans hf.symm)
  · rintro rfl
    exact ⟨rfl, hf⟩

section ClearFault

variable {s : State} {snd : Sender} {args : List String}

/-- The entries that a CLEARFAULT has made Clear, and what settling makes of them. -/
theorem clearLatched_get (acts : FaultId → Bool) (x : State) (f : FaultId) :
    (clearLatched (FaultId.all.filter acts) x).faults.get f =
      if acts f = true ∧ x.faults.get f = .latched then .clear else x.faults.get f := by
  simp [clearLatched, mem_all]

/-- A CLEARFAULT whose arguments name entries (R179). -/
theorem clearfault_clears (h : takesNow s snd args = true) (hc : below snd .operator = false) (hl : lockedOut s snd.cls = false)
    (acts : FaultId → Bool) (hp : parseFaultKind args = some (FaultId.all.filter acts)) :
    ∃ t, exec (.clearfault snd args) s = .next (answer snd
        ⟨t, ["OK", "CLEARED", showNat (FaultId.all.filter (fun f => acts f && s.faults.get f == .latched)).length, "FAULT",
             showLine (faultLine t)], 0, none⟩) ∧
      (∀ f, s.faults.get f ≠ .active → faultCond t f = false →
        t.faults.get f = if acts f = true then .clear else s.faults.get f) ∧
      (∀ f, faultCond t f = true → t.faults.get f = .active) ∧ essence t = essence s := by
  have hcmd : cmdClearfault snd args (nextEvent s) = clearFaults (FaultId.all.filter acts) (nextEvent s) := by
    simp only [cmdClearfault, hp]
    exact gate_passes hc hl
  have hcount : ((FaultId.all.filter acts).filter (fun f => (nextEvent s).faults.get f = .latched)) =
      FaultId.all.filter (fun f => acts f && s.faults.get f == .latched) := by
    rw [List.filter_filter]
    refine List.filter_congr fun f _ => ?_
    rw [Bool.and_comm]
    rfl
  refine ⟨settle (clearLatched (FaultId.all.filter acts) (nextEvent s)), ?_, fun f hna hcond => ?_, fun f hcond => ?_, ?_⟩
  · refine (run_verb h).trans (congrArg (fun a => Host.Outcome.next (answer snd a)) (hcmd.trans ?_))
    rw [clearFaults, hcount]
    rfl
  · rw [settle_get, hcond, clearLatched_get, nextEvent_faults]
    cases hf : s.faults.get f <;> cases acts f <;> simp_all [FaultSt.move]
  · rw [settle_get, hcond]
    rfl
  · exact (essence_settle _).trans (essence_congr rfl rfl rfl rfl rfl)

theorem parseFaultKind_kind (f : FaultId) :
    parseFaultKind [showFaultKind f] = some (FaultId.all.filter (fun g => showFaultKind g == showFaultKind f)) := by
  refine if_neg ?_
  rw [List.isEmpty_iff, List.filter_eq_nil_iff]
  exact fun h => h f (mem_all f) (by simp)

theorem parseFaultKind_bay {f : FaultId} {b : Bay} (hb : f.bay? = some b) :
    parseFaultKind [showFaultKind f, showBay b] = some (FaultId.all.filter (fun g => g == f)) := by
  have hfilter : FaultId.all.filter (fun g => showFaultKind g = showFaultKind f ∧ g.bay? = some b) = FaultId.all.filter (fun g => g == f) := by
    refine List.filter_congr fun g _ => ?_
    rw [Bool.eq_iff_iff, decide_eq_true_iff, kind_bay_iff hb, beq_iff_eq]
  have hne : (FaultId.all.filter (fun g => g == f)).isEmpty = false := by
    rw [List.isEmpty_eq_false_iff]
    exact List.ne_nil_of_mem (List.mem_filter.2 ⟨mem_all f, beq_self_eq_true f⟩)
  simp only [parseFaultKind, parseBay_showBay, hfilter, hne]
  rfl

theorem parseFaultKind_none (h : ∀ f, args ≠ [] ∧ args ≠ [showFaultKind f] ∧ ∀ b, f.bay? = some b → args ≠ [showFaultKind f, showBay b]) :
    parseFaultKind args = none := by
  match args with
  | [] => exact absurd rfl (h .lineDeaf).1
  | [k] =>
    refine if_pos ?_
    rw [List.isEmpty_iff, List.filter_eq_nil_iff]
    intro g _ hg
    exact (h g).2.1 (by rw [of_decide_eq_true hg])
  | [k, w] =>
    simp only [parseFaultKind]
    split
    · rename_i y hy
      refine if_pos ?_
      rw [List.isEmpty_iff, List.filter_eq_nil_iff]
      intro g _ hg
      obtain ⟨hk, hb⟩ := of_decide_eq_true hg
      have hw : w = showBay y := by
        unfold parseBay at hy
        split at hy <;> cases hy <;> rfl
      exact (h g).2.2 y hb (by rw [hk, hw])
    · rfl
  | _ :: _ :: _ :: _ => rfl

end ClearFault

/-! ## FILTER and MASK -/

section Filters

variable {s : State} {snd : Sender} {args : List String} {n : Nat}

theorem setNth_eq {α : Type} (l : List α) (v : α) (hn : ∃ k, n = k + 1) : setNth l n v = l.set (n - 1) v := by
  obtain ⟨k, rfl⟩ := hn
  rfl

theorem nth_eq {α : Type} (l : List α) (hn : ∃ k, n = k + 1) : nth l n = l[n - 1]? := by
  obtain ⟨k, rfl⟩ := hn
  rfl

theorem parseFilter_pos {f : Filter} (h : parseFilter args = some (n, f)) : ∃ k, n = k + 1 := by
  unfold parseFilter at h
  split at h
  · split at h
    · rename_i hi _ _ _ _
      cases h
      exact parsePlace_pos hi
    · cases h
  · cases h

theorem parseMask_pos {v : Byte} (h : parseMask args = some (n, v)) : ∃ k, n = k + 1 := by
  unfold parseMask at h
  split at h
  · split at h
    · rename_i hi _
      cases h
      unfold parseMaskNo at hi
      split at hi <;> cases hi
      · exact ⟨0, rfl⟩
      · exact ⟨1, rfl⟩
      · exact ⟨2, rfl⟩
    · cases h
  · cases h

/-- Some enabled filter opens the part to a Facility sender. -/
theorem any_opens {l : List Filter} : l.any Filter.opens = true ↔ ∃ g ∈ l, g.on = true ∧ g.cls = .facility := by
  simp [List.any_eq_true, Filter.opens]

theorem set_same {α : Type} {l : List α} {i : Nat} {v : α} (h : l[i]? = some v) : l.set i v = l := by
  obtain ⟨hi, hv⟩ := List.getElem?_eq_some_iff.1 h
  rw [← hv, List.set_getElem_self]

end Filters

/-- Settles O50. -/
theorem filtersMasksAndFaults : Obligations.FiltersMasksAndFaults := by
  refine ⟨fun s snd args h => ⟨fun n f hc hp => ?_, fun n v hc hp hne => ?_, fun n f hc hp heq hopens => ?_, fun n v hc hp heq => ?_,
    fun hc hl => ?_⟩, fun s i hs hi => ownEvent_entries hs hi, fun f => ?_, fun s => ⟨?_, ?_⟩⟩
  · intro l
    have hn := parseFilter_pos hp
    have hcmd : cmdFilter snd args (nextEvent s) = storeFilter snd n f (nextEvent s) := by
      simp only [cmdFilter, hp]
      exact gate_passes hc (lockedOut_facility hc)
    have hset : setNth (nextEvent s).work.filters n f = l := setNth_eq _ f hn
    have hnth : nth (nextEvent s).work.filters n = s.work.filters[n - 1]? := nth_eq _ hn
    refine ⟨fun hnone => refused_verb h rfl (hcmd.trans ?_), fun hopens hne => ?_⟩
    · have hany : l.any Filter.opens = false := by
        rw [Bool.eq_false_iff]
        intro hany
        obtain ⟨g, hg, hon, hcls⟩ := any_opens.1 hany
        exact hnone g hg hon hcls
      simp only [storeFilter, hset, hany]
      rfl
    · have hstore : storeFilter snd n f (nextEvent s) =
          yes (ask snd (.filter n) (nextEvent { s with work := { s.work with filters := l } })) (filterFields n f) 1 := by
        simp only [storeFilter, hset, any_opens.2 hopens, hnth, hne]
        rfl
      exact accepted_verb h rfl (hcmd.trans hstore) rfl ((congrArg essence (ask_nextEvent _ snd _)).trans (essence_nextEvent _))
  · have hn := parseMask_pos hp
    have hcmd : cmdMask snd args (nextEvent s) = storeMask snd n v (nextEvent s) := by
      simp only [cmdMask, hp]
      exact gate_passes hc (lockedOut_facility hc)
    have hset : setNth (nextEvent s).work.masks n v = s.work.masks.set (n - 1) v := setNth_eq _ v hn
    have hnth : nth (nextEvent s).work.masks n = s.work.masks[n - 1]? := nth_eq _ hn
    have hstore : storeMask snd n v (nextEvent s) =
        yes (ask snd (.mask n) (nextEvent { s with work := { s.work with masks := s.work.masks.set (n - 1) v } }))
          (fun _ => ["MASK", maskWord n, showHex v]) 1 := by
      simp only [storeMask, hset, hnth, hne]
      rfl
    exact accepted_verb h rfl (hcmd.trans hstore) rfl ((congrArg essence (ask_nextEvent _ snd _)).trans (essence_nextEvent _))
  · have hn := parseFilter_pos hp
    have hset : setNth (nextEvent s).work.filters n f = s.work.filters := (setNth_eq _ f hn).trans (set_same heq)
    have hnth : nth (nextEvent s).work.filters n = some f := (nth_eq _ hn).trans heq
    have hcmd : cmdFilter snd args (nextEvent s) = yes (nextEvent s) (filterFields n f) := by
      simp only [cmdFilter, hp]
      refine (gate_passes hc (lockedOut_facility hc)).trans ?_
      simp only [storeFilter, hset, any_opens.2 hopens, hnth]
      rfl
    exact accepted_verb h rfl hcmd rfl (essence_nextEvent s)
  · have hn := parseMask_pos hp
    have hnth : nth (nextEvent s).work.masks n = some v := (nth_eq _ hn).trans heq
    have hcmd : cmdMask snd args (nextEvent s) = yes (nextEvent s) (fun _ => ["MASK", maskWord n, showHex v]) := by
      simp only [cmdMask, hp]
      refine (gate_passes hc (lockedOut_facility hc)).trans ?_
      simp only [storeMask, hnth]
      rfl
    exact accepted_verb h rfl hcmd rfl (essence_nextEvent s)
  · intro clears
    refine ⟨fun ha => ?_, fun f ha => ?_, fun f b ha hb => ?_, fun hnone => ?_⟩
    · exact clearfault_clears h hc hl (fun _ => true) (by rw [ha]; rfl)
    · exact clearfault_clears h hc hl _ (by rw [ha]; exact parseFaultKind_kind f)
    · exact clearfault_clears h hc hl _ (by rw [ha]; exact parseFaultKind_bay hb)
    · refine refused_verb h rfl ?_
      simp only [cmdClearfault, parseFaultKind_none hnone]
      exact gate_malformed hc
  · cases f <;> simp [FaultId.actionable]
    all_goals exact ⟨.bayA⟩
  · simp [faultLine, List.any_eq_true, mem_all]
  · simp [serviceLine, List.any_eq_true, mem_all]

end Sys2Proof.FaultTables

/-! PROOFS. The Notice Queue, and the notices that each event places (O56). -/

namespace Sys2Proof.Noticed

open Sys2Proof Sys2Proof.Machine Sys2Proof.Upkeep Sys2Proof.Steps Sys2Proof.Lamps Sys2Proof.Counts Sys2Proof.Picture Sys2Proof.Refusals
  Sys2Proof.Accepted Sys2Proof.LampOrders Sys2Proof.Agenda Sys2Proof.BookingOrders Sys2Proof.Endings Sys2Proof.Queries Sys2Proof.Frames
  Sys2Proof.Taken Sys2Proof.CommandFrames Sys2Proof.Sending Sys2Proof.FaultTables

set_option Elab.async false

/-! ## Placing one notice -/

section Queue

variable {q : NoticeQ} {n m : Notice} {before after : List Notice}

theorem same_iff {x y : Notice} : x.same y = true ↔ y.kind = x.kind ∧ y.subject = x.subject := by
  simp only [Notice.same, Bool.and_eq_true, beq_iff_eq]
  rw [eq_comm (a := x.kind), eq_comm (a := x.subject)]

theorem same_false {x y : Notice} (h : ¬(y.kind = x.kind ∧ y.subject = x.subject)) : x.same y = false := by
  rw [Bool.eq_false_iff]
  exact fun e => h (same_iff.1 e)

theorem map_unlike {l : List Notice} (h : ∀ x ∈ l, ¬(x.kind = n.kind ∧ x.subject = n.subject)) :
    l.map (fun x => if n.same x then n else x) = l :=
  (List.map_congr_left fun x hx => by rw [same_false (h x hx)]; rfl).trans l.map_id

/-- A notice whose like is queued takes its place. -/
theorem put_alike (hq : q.queue = before ++ m :: after) (hm : m.kind = n.kind ∧ m.subject = n.subject)
    (hothers : ∀ x ∈ before ++ after, ¬(x.kind = n.kind ∧ x.subject = n.subject)) :
    q.put n = { q with queue := before ++ n :: after } := by
  have hany : q.queue.any n.same = true := by simp [hq, same_iff.2 hm]
  have hb := map_unlike (n := n) (l := before) fun x hx => hothers x (List.mem_append_left _ hx)
  have ha := map_unlike (n := n) (l := after) fun x hx => hothers x (List.mem_append_right _ hx)
  rw [NoticeQ.put, if_pos hany, hq, List.map_append, List.map_cons, hb, ha, if_pos (same_iff.2 hm)]

theorem not_any_same (h : ∀ x ∈ q.queue, ¬(x.kind = n.kind ∧ x.subject = n.subject)) : ¬q.queue.any n.same = true := by
  simp only [List.any_eq_true, not_exists, not_and]
  exact fun x hx e => h x hx (same_iff.1 e)

/-- The lowest priority queued is at least any bound that every entry meets. -/
theorem le_lowestPrio {p : Nat} (hp : p ≤ 4) {l : List Notice} (h : ∀ x ∈ l, p ≤ x.kind.prio) : p ≤ lowestPrio l := by
  induction l with
  | nil => exact hp
  | cons x l ih => exact le_min (h x (by simp)) (ih fun y hy => h y (by simp [hy]))

theorem lowestPrio_le {l : List Notice} {x : Notice} (h : x ∈ l) : lowestPrio l ≤ x.kind.prio := by
  induction l with
  | nil => cases h
  | cons y l ih =>
    rcases List.mem_cons.1 h with rfl | h
    · exact min_le_left ..
    · exact (min_le_right ..).trans (ih h)

theorem prio_le_four (k : NoticeKind) : k.prio ≤ 4 := by cases k <;> decide

/-- The newest entry of the lowest priority leaves. -/
theorem dropNewest_eq (ha : ∀ x ∈ after, m.kind.prio < x.kind.prio) :
    dropNewest m.kind.prio (before ++ m :: after) = before ++ after := by
  have hne : ∀ x ∈ after.reverse, ¬(x.kind.prio == m.kind.prio) = true := fun x hx => by
    have := ha x (List.mem_reverse.1 hx)
    simp only [beq_iff_eq]
    omega
  simp only [dropNewest, List.reverse_append, List.reverse_cons, List.append_assoc]
  rw [List.eraseP_append_right _ hne]
  simp

/-- A full queue gives up its newest entry of the lowest priority to a notice of a higher one. -/
theorem put_displaces (hnot : ∀ x ∈ q.queue, ¬(x.kind = n.kind ∧ x.subject = n.subject)) (hfull : 8 ≤ q.queue.length)
    (hq : q.queue = before ++ m :: after) (hlow : m.kind.prio < n.kind.prio) (hb : ∀ x ∈ before, m.kind.prio ≤ x.kind.prio)
    (ha : ∀ x ∈ after, m.kind.prio < x.kind.prio) : q.put n = { queue := before ++ after ++ [n], overflow := true } := by
  have hmem : m ∈ q.queue := by simp [hq]
  have hlowest : lowestPrio q.queue = m.kind.prio := by
    refine le_antisymm (lowestPrio_le hmem) (le_lowestPrio (prio_le_four _) fun x hx => ?_)
    rw [hq] at hx
    rcases List.mem_append.1 hx with hx | hx
    · exact hb x hx
    · rcases List.mem_cons.1 hx with rfl | hx
      · exact le_rfl
      · exact (ha x hx).le
  rw [NoticeQ.put, if_neg (not_any_same hnot), if_neg (by omega), hlowest, if_pos hlow, hq, dropNewest_eq ha]

/-- A full queue of higher entries drops the notice. -/
theorem put_dropped (hnot : ∀ x ∈ q.queue, ¬(x.kind = n.kind ∧ x.subject = n.subject)) (hfull : 8 ≤ q.queue.length)
    (hhigh : ∀ x ∈ q.queue, n.kind.prio ≤ x.kind.prio) : q.put n = { q with overflow := true } := by
  have hlow := le_lowestPrio (prio_le_four n.kind) hhigh
  rw [NoticeQ.put, if_neg (not_any_same hnot), if_neg (by omega), if_neg (by omega)]

end Queue

/-! ## The events that place no notice -/

section Quiet

variable {s x : State} {f : State → State} {due : State → Bool}

theorem placed_self (s : State) : placed s s [] := by
  have hnone : (FaultId.all.filter fun f => s.faults.get f != .active && s.faults.get f == .active) = [] := by
    rw [List.filter_eq_nil_iff]
    intro f _
    by_cases h : s.faults.get f = .active <;> simp [h]
  rw [placed, risen, hnone]
  rfl

theorem Silent.placed (h : Silent (nextEvent s) x) : placed s (settle x) [] := placed_settle h.1 h.2

/-- A silent event that follows another at once, where it is due and where it is not. -/
theorem placed_ifDue (h : ∀ x, Silent x (f x)) (s : State) : placed s (ifDue due f s) [] := by
  unfold ifDue
  split
  · exact Silent.placed (h _)
  · exact placed_self s

theorem act_quiet (hq : quiescent s = true) (h : ∀ x, Silent x (f x)) : ∃ t, act f s = .next t ∧ placed s t [] :=
  ⟨_, act_of_quiescent hq, Silent.placed (h _)⟩

theorem actLoose_quiet (hq : quiescent s = true) (h : ∀ x, Silent x (f x)) : ∃ t, actLoose f s = .next t ∧ placed s t [] :=
  ⟨_, actLoose_of_quiescent hq, Silent.placed (h _)⟩

theorem onTime_quiet (hq : quiescent s = true) (h : ∀ x, Silent x (f x)) : ∃ t, onTime due f s = .next t ∧ placed s t [] := by
  refine ⟨_, rfl, ?_⟩
  rw [timed, complete_of_quiescent hq]
  exact placed_ifDue h s

theorem next_quiet (h : ∀ x, Silent x (f x)) (s : State) :
    ∃ t, (.next (ifDue due f s) : Machine.Result) = .next t ∧ placed s t [] := ⟨_, rfl, placed_ifDue h s⟩

/-- A change of a block that holds neither the Fault Table nor the Notice Queue. -/
theorem silent_rfl (h1 : x.faults = s.faults := by rfl) (h2 : x.notices = s.notices := by rfl) : Silent s x := ⟨h1, h2⟩

theorem fuCarry_still (hq : quiescent s = true) (b : Bay) : fuCarry b s = s := by
  simp only [quiescent, Bool.not_eq_true', Bool.or_eq_false_iff] at hq
  obtain ⟨⟨⟨⟨⟨⟨⟨⟨⟨⟨⟨⟨⟨⟨⟨⟨⟨⟨⟨⟨⟨⟨-, -⟩, -⟩, hcarryA⟩, hcarryB⟩, -⟩, -⟩, -⟩, -⟩, -⟩, -⟩, -⟩, -⟩, -⟩, -⟩, -⟩, -⟩, -⟩, -⟩, -⟩, -⟩, -⟩, -⟩ := hq
  exact ifDue_of_not (by cases b <;> assumption)

theorem silentEvents_quiet (hq : quiescent s = true) {b : Bay} {housing ambient : Int} {l : List PortReading} {r : Option Int}
    {c : BadCause} : ∀ i ∈ silentEvents b housing ambient l r c, ∃ t, exec i s = .next t ∧ placed s t [] := by
  simp only [silentEvents, List.forall_mem_cons, List.not_mem_nil, false_imp_iff, implies_true, and_true]
  exact ⟨act_quiet hq (fun x => badFrame_silent x c), onTime_quiet hq lineBad_silent, next_quiet grantIgniter_silent s,
    act_quiet hq (fun x => litDrops_silent x b), onTime_quiet hq (f := coolingEnds b) (fun _ => silent_rfl),
    onTime_quiet hq (f := id) (fun _ => silent_rfl), actLoose_quiet hq (fun x => doorOpens_silent x b),
    act_quiet hq (fun x => doorCloses_silent x b), actLoose_quiet hq (fun x => ballastAsserts_silent x b),
    act_quiet hq (f := setBallast b false) (fun _ => silent_rfl), onTime_quiet hq (f := spacingEnds) (fun _ => silent_rfl),
    onTime_quiet hq (f := strikeListExpires b) (fun _ => silent_rfl), onTime_quiet hq (fun x => lossBarEnds_silent x b),
    onTime_quiet hq (f := lampLostEnds b) (fun _ => silent_rfl), litSecond_quiet, unsavedWrite_quiet,
    next_quiet (f := ecoMinutePasses b) (fun _ => silent_rfl) s, next_quiet (f := conditioningFalls b) (fun _ => silent_rfl) s,
    next_quiet (f := fullRunCompletes b) (fun _ => silent_rfl) s, actLoose_quiet hq (f := convert housing ambient) (fun _ => silent_rfl),
    next_quiet (f := sensorFaultChanges) (fun _ => silent_rfl) s, act_quiet hq (f := tachPulses) (fun _ => silent_rfl),
    onTime_quiet hq (f := fanStalls) (fun _ => silent_rfl), act_quiet hq (fun x => samplesTaken_silent x l),
    onTime_quiet hq (f := classTimerEnds) (fun _ => silent_rfl), onTime_quiet hq scanBegins_silent, onTime_quiet hq dwellEnds_silent,
    act_quiet hq (f := tiltReads r) (fun _ => silent_rfl), next_quiet (f := tiltInvalidBegins) (fun _ => silent_rfl) s,
    onTime_quiet hq cadence_silent, next_quiet confirmTilt_silent s, act_quiet hq warpAccepts_silent,
    onTime_quiet hq (f := warpWindowEnds) (fun _ => silent_rfl)⟩
where
  litSecond_quiet : ∃ t, exec .litSecond s = .next t ∧ placed s t [] := by
    obtain ⟨t, ht, hplaced⟩ := onTime_quiet (due := litSecondDue) hq litSecondPasses_silent
    rw [← completeUnsaved_of_quiescent hq] at ht
    exact ⟨t, ht, hplaced⟩
  unsavedWrite_quiet {b : Bay} : ∃ t, exec (.unsavedWrite b) s = .next t ∧ placed s t [] := by
    refine ⟨fuUnsaved b s, rfl, ?_⟩
    rw [fuUnsaved, fuCarry_still hq]
    exact placed_ifDue (fun x => askOwn_silent x _) s

end Quiet

/-! ## The notices of a lamp's stage -/

section Stage

variable {s x : State} {b : Bay} {f : LampRecord → LampRecord}

theorem changeRecord_notices (b : Bay) (f : LampRecord → LampRecord) (s : State) :
    (changeRecord b f s).notices = (stageNotice b (lampRec s b) ((lampRec s b).map f)).foldl (fun q n => q.put n) s.notices := by
  unfold changeRecord stageNotice
  cases h : lampRec s b with
  | none => rfl
  | some r =>
    by_cases hstage : stageOfRec (f r) = stageOfRec r
    · simp [hstage]
    · simp [hstage, eq_comm (a := stageOfRec r), notify]

/-- What an event places that changes a lamp record and then only places other notices. -/
theorem placed_stage {l : List Notice} (hf : x.faults = s.faults) (hw : x.work = (changeRecord b f s).work)
    (hn : x.notices = l.foldl (fun q n => q.put n) (changeRecord b f s).notices) :
    placed s (settle x) (stageNotice b (lampRec s b) (lampRec (settle x) b) ++ l) := by
  have hrec : lampRec (settle x) b = (lampRec s b).map f := by
    refine (lampRec_of_set (s := s) ?_).1
    rw [settle_work, hw, changeRecord_lamps]
  refine placed_settle hf ?_
  rw [hn, hrec, changeRecord_notices, List.foldl_append]

/-! ## The SOURCE notice -/

/-- An event that ends with the SOURCE notice gives the selector as settling leaves it. -/
theorem placed_sourceNotice (hf : x.faults = s.faults) (hn : x.notices = s.notices) (hst : x.sel.st ≠ .scanning) :
    placed s (settle (sourceNotice x)) [selectorNotice (settle (sourceNotice x))] := by
  have hsel : (settle (sourceNotice x)).sel = x.sel := settle_sel_of_ne hst
  have hfields : selectorNotice (settle (sourceNotice x)) = ⟨.source, .selector, sourceFields x⟩ := by
    have hprofile := profileOf_congr (s := x) (t := settle (sourceNotice x)) (settle_work _) x.sel.active
    simp only [selectorNotice, sourceFields, labelWord, hsel, hprofile]
  rw [hfields]
  refine placed_settle hf ?_
  rw [← hn]
  rfl

theorem noticeWhere_notices (p : Prop) [Decidable p] (x : State) :
    (noticeWhere p x).notices = (if p then [] else [⟨.source, .selector, sourceFields x⟩]).foldl (fun q n => q.put n) x.notices := by
  unfold noticeWhere
  split <;> rfl

end Stage

/-! ## Each event -/

section Events

variable {s : State} {b : Bay} {snd : Sender} {w : String}

theorem strikeSuccess_placed (hq : quiescent s = true) (b : Bay) : ∃ t, exec (.strikeSuccess b) s = .next t ∧
    placed s t (if (bay s b).st = .striking then stageNotice b (lampRec s b) (lampRec t b) else []) := by
  refine ⟨_, act_of_quiescent hq, ?_⟩
  by_cases hst : (bay s b).st = .striking
  · have hsucceeds : litAsserted b (nextEvent s) = strikeSucceeds b (setLit b true (nextEvent s)) := if_pos hst
    rw [hsucceeds, if_pos hst]
    have h := placed_stage (s := s) (x := strikeSucceeds b (setLit b true (nextEvent s))) (b := b) (f := strikeWon) (l := [])
      (by simp [strikeSucceeds]) (by simp [strikeSucceeds, changeRecord_lamps, lampRec, setLit, leaveStriking])
      (by simp [strikeSucceeds, changeRecord_notices, lampRec, setLit, leaveStriking])
    rwa [List.append_nil] at h
  · have hleft : litAsserted b (nextEvent s) = setLit b true (nextEvent s) := if_neg hst
    rw [hleft, if_neg hst]
    exact placed_settle rfl rfl

theorem strikeCounted_notices (b : Bay) (s : State) : (strikeCounted b (nextEvent s)).notices = (changeRecord b strikeLost s).notices := by
  simp [strikeCounted, changeRecord_notices, leaveStriking, lampRec]

theorem strikeFails_placed (b : Bay) (s : State) : placed s (settle (strikeFails b (nextEvent s)))
    (stageNotice b (lampRec s b) (lampRec (settle (strikeFails b (nextEvent s))) b) ++
      if (bay (settle (strikeFails b (nextEvent s))) b).st = .failed then [⟨.lamp, .bay b, ["FAILED"]⟩] else []) := by
  refine placed_stage (f := strikeLost) ?_ ?_ ?_
  · simp [strikeFails_faults]
  · simp [strikeFails_rest, changeRecord_lamps, lampRec]
  · rw [bay_settle_st, strikeFails_eq]
    by_cases hfailed : recordFailed (strikeCounted b (nextEvent s)) b = true
    · have hst : (bay (enterFailed b (strikeCounted b (nextEvent s))) b).st = .failed := by
        rw [enterFailed, bay_leaveWanted _ _ _ (by simp [bay])]
        simp [bay]
      rw [if_pos hfailed, if_pos hst]
      simp only [enterFailed, leaveWanted_notices, lampNotice, notify, modBay_notices, strikeCounted_notices]
      rfl
    · rw [if_neg hfailed, bay_dropExhausted (by simp), if_neg (by simp)]
      simp only [dropExhausted_notices, modBay_notices, strikeCounted_notices]
      rfl

theorem wearCarry_placed {r : LampRecord} (hr : lampRec s b = some r) (hf : 60 ≤ r.fraction) :
    ∃ t, exec (.wearCarry b) s = .next t ∧ placed s t (stageNotice b (lampRec s b) (lampRec t b)) := by
  have hdue : carryDue s b = true := by simp [carryDue, hr, hf]
  refine ⟨_, congrArg Host.Outcome.next (ifDue_of_due hdue), ?_⟩
  have h := placed_stage (s := s) (x := wearCarries b (nextEvent s)) (b := b)
    (f := fun r => addWear 1 { r with fraction := r.fraction - 60 }) (l := [])
    (by simp [wearCarries]) (by simp [wearCarries, changeRecord_lamps, lampRec]) (by simp [wearCarries, changeRecord_notices, lampRec])
  rwa [List.append_nil] at h

theorem warmUpEnd_placed (hq : quiescent s = true) (hd : timerEnded s b .warming = true) : ∃ t, exec (.warmUpEnd b) s = .next t ∧
    placed s t (if s.lamp.wanted.get b = true then [⟨.lamp, .bay b, ["LIT"]⟩] else []) := by
  refine ⟨_, onTime_of_due hq hd, ?_⟩
  by_cases hw : s.lamp.wanted.get b = true
  · have hlit : warmUpEnds b (nextEvent s) = _ := if_pos hw
    rw [hlit, if_pos hw]
    exact placed_settle rfl rfl
  · have hout : warmUpEnds b (nextEvent s) = extinguish b (nextEvent s) := if_neg hw
    rw [hout, if_neg hw]
    exact placed_settle (by simp) (by simp)

theorem thermalLevelChange_placed (hn : nextLevel s.heat ≠ none) : ∃ t, exec .thermalLevelChange s = .next t ∧
    placed s t [⟨.heat, .housing, [showThermal t.heat.level, showOpt showInt s.heat.housing]⟩] := by
  obtain ⟨l, hl⟩ := Option.ne_none_iff_exists'.1 hn
  refine ⟨_, congrArg Host.Outcome.next (ifDue_of_due (due := fun s => (nextLevel s.heat).isSome) (by simp [hl])), ?_⟩
  have hlevel : (levelChanges (nextEvent s)).heat.level = l := by
    simp only [levelChanges, nextEvent_heat, hl]
    cases l <;> simp [heatNotice, setLevel, enterShutdown]
  have hsettled : (settle (levelChanges (nextEvent s))).heat.level = l := by simpa using hlevel
  rw [happen, hsettled]
  refine placed_settle (levelChanges_faults _) ?_
  simp only [levelChanges, nextEvent_heat, hl]
  cases l <;> simp [heatNotice, setLevel, enterShutdown]

theorem hotHallChange_placed (hd : 3 ≤ (if s.heat.hot = true then s.heat.below32 else s.heat.atLeast35)) :
    ∃ t, exec .hotHallChange s = .next t ∧
      placed s t [⟨.heat, .ambient, [showYes t.heat.hot, showOpt showInt s.heat.ambient]⟩] := by
  have hdue : hallDue s = true := by
    unfold hallDue
    split <;> simp_all
  refine ⟨_, congrArg Host.Outcome.next (ifDue_of_due hdue), ?_⟩
  have hhot : (settle (hallChanges (nextEvent s))).heat.hot = !s.heat.hot := by simp [hallChanges]
  rw [happen, hhot]
  exact placed_settle (hallChanges_faults _) rfl

/-! ### The selector -/

theorem switchLock_placed (hst : s.sel.st = .switching) (hr : s.sel.req ≠ none) (hrun : 2 ≤ s.sel.lockRun.count) :
    ∃ t, exec .switchLock s = .next t ∧ placed s t [selectorNotice t] := by
  obtain ⟨r, hr⟩ := Option.ne_none_iff_exists'.1 hr
  refine ⟨_, congrArg Host.Outcome.next (ifDue_of_due (due := switchLockDue) (by simp [switchLockDue, hst, hr, hrun])), ?_⟩
  rw [happen, switchLocks_eq (r := r) (s := nextEvent s) hr]
  exact placed_sourceNotice (by simp) (by simp) (by simp [putActiveAnew_sel, enterSettled])

theorem switchTimeout_placed (hq : quiescent s = true) (hd : switchTimeoutDue s = true) (hr : s.sel.req ≠ none) :
    ∃ t, exec .switchTimeout s = .next t ∧ placed s t [selectorNotice t] := by
  obtain ⟨r, hr⟩ := Option.ne_none_iff_exists'.1 hr
  refine ⟨_, onTime_of_due hq hd, ?_⟩
  rw [switchTimesOut_eq (r := r) (s := nextEvent s) hr]
  exact placed_sourceNotice (by simp [timedOut]) (by simp [timedOut])
    (by simp [judgeLoss_sel, putActive_sel, timedOut, enterNoSignal])

theorem signalLoss_placed (hst : s.sel.st = .settled) (hrun : 5 ≤ s.sel.lossRun) :
    ∃ t, exec .signalLoss s = .next t ∧ placed s t [selectorNotice t] := by
  refine ⟨_, congrArg Host.Outcome.next (ifDue_of_due (due := lossDue) (by simp [lossDue, hst, hrun])), ?_⟩
  exact placed_sourceNotice (by simp) (by simp) (by simp [judgeLoss_sel, enterNoSignal])

theorem classChange_placed (hst : s.sel.st = .settled) (hrun : 2 ≤ s.sel.classRun.count) : ∃ t, exec .classChange s = .next t ∧
    placed s t (if t.sel.active = s.sel.active then [] else [selectorNotice t]) := by
  refine ⟨_, congrArg Host.Outcome.next (ifDue_of_due (due := classDue) (by simp [classDue, hst, hrun])), ?_⟩
  rw [happen, classChanged_eq]
  generalize resolved (nextEvent s) (nextEvent s).sel.port (nextEvent s).sel.classRun.cls (nextEvent s).sel.named = n
  generalize hx : startClassTimer (putActiveAnew n (reclassed (nextEvent s).sel.classRun.cls (nextEvent s))) = x
  have hsel : x.sel.st ≠ .scanning ∧ x.sel.active = n := by
    subst hx
    simp [startClassTimer, putActiveAnew_sel, reclassed, hst]
  have hrest : x.faults = s.faults ∧ x.notices = s.notices := by
    subst hx
    simp [startClassTimer, reclassed]
  by_cases hn : n = s.sel.active
  · have hnone : noticeWhere (n = (nextEvent s).sel.active) (putActiveAnew n (reclassed (nextEvent s).sel.classRun.cls (nextEvent s))) =
      putActiveAnew n (reclassed (nextEvent s).sel.classRun.cls (nextEvent s)) := if_pos hn
    have hactive : (settle x).sel.active = s.sel.active := by rw [settle_sel_of_ne hsel.1, hsel.2, hn]
    rw [hnone, hx, if_pos hactive]
    exact placed_settle hrest.1 hrest.2
  · have hnotice : noticeWhere (n = (nextEvent s).sel.active) (putActiveAnew n (reclassed (nextEvent s).sel.classRun.cls (nextEvent s))) =
      sourceNotice (putActiveAnew n (reclassed (nextEvent s).sel.classRun.cls (nextEvent s))) := if_neg hn
    have hlast : startClassTimer (sourceNotice (putActiveAnew n (reclassed (nextEvent s).sel.classRun.cls (nextEvent s)))) =
      sourceNotice x := by subst hx; rfl
    have hactive : ¬(settle (sourceNotice x)).sel.active = s.sel.active := by
      rw [settle_sel_of_ne (s := sourceNotice x) hsel.1, sourceNotice_sel, hsel.2]
      exact hn
    rw [hnotice, hlast, if_neg hactive]
    exact placed_sourceNotice hrest.1 hrest.2 hsel.1

theorem nosignalLock_placed (hst : s.sel.st = .noSignal) (hrun : 2 ≤ s.sel.lockRun.count) :
    ∃ t, exec .nosignalLock s = .next t ∧ placed s t [selectorNotice t] := by
  refine ⟨_, congrArg Host.Outcome.next (ifDue_of_due (due := noSignalLockDue) (by simp [noSignalLockDue, hst, hrun])), ?_⟩
  rw [happen, noSignalLocks_eq, timerAtLock_eq]
  exact placed_sourceNotice (by simp) (by simp) (by simp [putActive_sel, enterSettled])

theorem dwellLock_placed (hst : s.sel.st = .scanning) (hrun : 2 ≤ s.sel.lockRun.count) :
    ∃ t, exec .dwellLock s = .next t ∧ placed s t [selectorNotice t] := by
  refine ⟨_, congrArg Host.Outcome.next (ifDue_of_due (due := dwellLockDue) (by simp [dwellLockDue, hst, hrun])), ?_⟩
  exact placed_sourceNotice (by simp) (by simp) (by simp [putActive_sel, enterSettled])

/-! ### The idle lock -/

/-- A new idle lock goes into the settings, and clears the unlocked flag (R155). -/
def idlelockPut (snd : Sender) (v : IdleLock) (x : State) : State :=
  clearUnlocked (ask snd (.setting .idlelock) (withSettings (fun y => { y with idlelock := v }) x))

theorem settingIdlelock_placed {v : IdleLock} (h : takesNow s snd [w] = true) (hc : below snd .operator = false)
    (hl : lockedOut s snd.cls = false) (hp : parseIdleLock w = some v) (hne : v ≠ s.work.settings.idlelock) :
    ∃ t, exec (.settingIdlelock snd [w]) s = .next (answer snd ⟨t, ["OK", "IDLELOCK", showIdleLock v], 1, none⟩) ∧
      placed s t (levelNotice s t) := by
  have hput := (cmdSetting_put (s := nextEvent s) (effect := clearUnlocked) (k := .idlelock)
    (f := fun (v : IdleLock) (x : Settings) => { x with idlelock := v }) hp hc ((lockedOut_nextEvent s snd.cls).trans hl)).trans
    (putSetting_new fun e => hne (congrArg Settings.idlelock e))
  have hword (x : State) : settingWord (settle (withLock (idlelockPut snd v) x)) .idlelock = showIdleLock v := by
    rw [settingWord, settle_work, withLock_work, idlelockPut, clearUnlocked, ask_work]
    rfl
  have hcmd : cmdIdlelock snd [w] (nextEvent s) =
      ⟨settle (withLock (idlelockPut snd v) (nextEvent s)), ["OK", "IDLELOCK", showIdleLock v], 1, none⟩ := by
    rw [← hword (nextEvent s)]
    exact hput
  refine ⟨_, (run_setting h).trans (congrArg (fun a => Host.Outcome.next (answer snd a)) hcmd), ?_⟩
  have hplaced := placed_withLock (s := s) (f := idlelockPut snd v) (x := nextEvent s) (l := [])
    (by simp [idlelockPut, clearUnlocked, withSettings]) (by simp [idlelockPut, clearUnlocked, withSettings]) rfl
  rwa [List.nil_append] at hplaced

end Events

/-- Settles O56: an event's own notices are those of the operation it ends with, and settling adds the FAULT notices. -/
theorem noticesPlaced : Obligations.NoticesPlaced := by
  refine ⟨fun k => by cases k <;> rfl, fun q n => ⟨fun before m after hq hk hs => put_alike hq ⟨hk, hs⟩, fun hnot => ⟨fun hlen => ?_,
    fun before m after hfull hq => put_displaces hnot hfull hq, put_dropped hnot⟩⟩, fun s b hq => ?_, fun s b => ?_,
    fun s snd w v h hc hl => settingIdlelock_placed h hc hl⟩
  · rw [NoticeQ.put, if_neg (not_any_same hnot), if_pos hlen]
  · exact ⟨strikeSuccess_placed hq b, fun hd => ⟨_, onTime_of_due hq hd, strikeFails_placed b s⟩, warmUpEnd_placed hq,
      fun hd => ⟨_, onTime_of_due hq hd, placed_settle rfl rfl⟩, switchTimeout_placed hq,
      fun housing ambient l r c => silentEvents_quiet hq⟩
  · exact ⟨fun r => wearCarry_placed, thermalLevelChange_placed, hotHallChange_placed, switchLock_placed, signalLoss_placed,
      classChange_placed, nosignalLock_placed, dwellLock_placed⟩

end Sys2Proof.Noticed

/-! PROOFS. The commands of the profile table, and how a change of a place reaches the source on screen (O31). -/

namespace Sys2Proof.Profiles

open Sys2Proof Sys2Proof.Machine Sys2Proof.Upkeep Sys2Proof.Steps Sys2Proof.Lamps Sys2Proof.Counts Sys2Proof.Picture Sys2Proof.Refusals
  Sys2Proof.Accepted Sys2Proof.LampOrders Sys2Proof.Agenda Sys2Proof.BookingOrders Sys2Proof.Endings Sys2Proof.Queries Sys2Proof.Frames
  Sys2Proof.Taken Sys2Proof.CommandFrames Sys2Proof.Sending Sys2Proof.FaultTables Sys2Proof.Noticed

set_option Elab.async false

/-! ## The lookup -/

section Lookup

variable {s : State} {n : Nat} {p : Profile}

theorem findKey_spec {port : VPort} {c : Option Nat} {l : List (Option Profile)} {k n : Nat} (h : findKey k l port c = some n) :
    ∃ i p, n = k + i ∧ l[i]? = some (some p) ∧ p.port = port ∧ p.cls = c := by
  induction l generalizing k with
  | nil => cases h
  | cons q l ih =>
    have later (h' : findKey (k + 1) l port c = some n) : ∃ i p, n = k + i ∧ (q :: l)[i]? = some (some p) ∧ p.port = port ∧ p.cls = c := by
      obtain ⟨i, p, hn, hi, hp⟩ := ih h'
      exact ⟨i + 1, p, by omega, hi, hp⟩
    cases q with
    | none => exact later h
    | some p =>
      by_cases hp : p.port = port ∧ p.cls = c
      · simp only [findKey, if_pos hp, Option.some.injEq] at h
        exact ⟨0, p, by omega, rfl, hp⟩
      · simp only [findKey, if_neg hp] at h
        exact later h

/-- The lookup gives a place whose profile has the port, and the class or none (R79). -/
theorem lookup_spec {port : VPort} {c : Nat} (h : lookup s port c = some n) :
    ∃ p, profileAt s n = some p ∧ p.port = port ∧ (p.cls = none ∨ c ≠ 0 ∧ p.cls = some c) := by
  have found {k : Option Nat} (hk : findKey 1 s.work.profiles port k = some n) :
      ∃ p, profileAt s n = some p ∧ p.port = port ∧ p.cls = k := by
    obtain ⟨i, p, hn, hi, hp⟩ := findKey_spec hk
    exact ⟨p, place_eq_some.2 ⟨i, by omega, hi⟩, hp⟩
  unfold lookup at h
  split at h
  · rename_i m hm
    cases h
    split at hm
    · cases hm
    · obtain ⟨p, hp, hport, hcls⟩ := found hm
      exact ⟨p, hp, hport, .inr ⟨by assumption, hcls⟩⟩
  · obtain ⟨p, hp, hport, hcls⟩ := found h
    exact ⟨p, hp, hport, .inl hcls⟩

/-- A place whose profile does not fit is not looked up. -/
theorem lookup_ne {port : VPort} {c : Nat} (h : ∀ p, profileAt s n = some p → p.fits port c = false) : lookup s port c ≠ some n := by
  intro hl
  obtain ⟨p, hp, hport, hcls⟩ := lookup_spec hl
  have hfits : p.fits port c = true := by
    rcases hcls with hcls | ⟨-, hcls⟩ <;> simp [Profile.fits, hport, hcls]
  rw [h p hp] at hfits
  cases hfits

/-- A place whose profile has another port is not a port's fallback. -/
theorem fallback_ne (h : ∀ p, profileAt s n = some p → p.port ≠ s.sel.port) : fallback s ≠ some n := by
  intro hl
  obtain ⟨p, hp, hport, -⟩ := lookup_spec hl
  exact h p hp hport

theorem place_set_some {l : List (Option Profile)} {v : Option Profile} (hn : ∃ k, n = k + 1) (h : place (l.set (n - 1) v) n = some p) :
    v = some p := by
  obtain ⟨k, rfl⟩ := hn
  rw [place_eq_some] at h
  obtain ⟨j, hj, h⟩ := h
  obtain rfl : k = j := by omega
  simp only [Nat.add_sub_cancel, List.getElem?_set, if_pos] at h
  split at h
  · exact Option.some.inj h
  · cases h

end Lookup

/-! ## What a change of a place brings about -/

/-- Another profile becomes the active one, and what R87 calls for follows. -/
def changeTo (m : Option Nat) (s : State) : State :=
  computation (setImmediate (clearNudges { s with sel := { s.sel with active := m } }))

/-- The computation for a change of the active profile, anew where auto-tilt comes ON (R85, R108). -/
def again (old new : Option Profile) (s : State) : State :=
  computation (if old.map Profile.autoTilt = some false ∧ new.map Profile.autoTilt = some true then setImmediate s else s)

/-- The loss judged from the profile of a place (R91). -/
def judged (x : State) (m : Option Nat) (y : State) : State :=
  { y with sel := { y.sel with lossB := lossOf x m, muteLoss := lossOf x m == .blank } }

/-- The profile of a place has the selected port. -/
def Here (s : State) (q : Option Profile) : Prop := ∃ p, q = some p ∧ p.port = s.sel.port

/-- The profile of a place is the selected port's ANY profile. -/
def AnyHere (s : State) (q : Option Profile) : Prop := ∃ p, q = some p ∧ p.port = s.sel.port ∧ p.cls = none

/-- The profile of a place fits the settled source. -/
def Fits (s : State) (q : Option Profile) : Prop := ∃ p, q = some p ∧ p.fits s.sel.port (s.sel.settledCls.getD 0) = true

/-- The part of a change of the table that depends on the selector's state (R85). -/
def reachSource (n : Nat) (old new : Option Profile) (s : State) : State :=
  match s.sel.st with
  | .settled => changeInSettled n old new s
  | .noSignal => changeInNoSignal n old new s
  | .switching | .scanning => changeInFlight n old new s

theorem tableChange_eq (n : Nat) (old new : Option Profile) (s : State) :
    tableChange n old new s = reachSource n old new (dropNamed n new s) := by
  have hst : (dropNamed n new s).sel.st = s.sel.st := by cases new <;> rfl
  cases hs : s.sel.st <;> simp only [tableChange, reachSource, hst, hs]

section Reach

variable {s : State} {n : Nat} {old new : Option Profile}

theorem tiltComesOn_iff : tiltComesOn old new = true ↔ old.map Profile.autoTilt = some false ∧ new.map Profile.autoTilt = some true := by
  cases old <;> cases new <;> simp [tiltComesOn]

theorem tiltChanges_iff (hold : old ≠ none) (hnew : new ≠ none) :
    tiltChanges old new = true ↔ old.map Profile.autoTilt ≠ new.map Profile.autoTilt := by
  cases old <;> cases new <;> simp_all [tiltChanges]

theorem recompute_eq : recompute old new s = again old new s := by
  unfold recompute again
  simp only [tiltComesOn_iff]

theorem leavesPort_iff : leavesPort s new = true ↔ ¬Here s new := by
  cases new <;> simp [leavesPort, Here]

theorem isAnyHere_iff : isAnyHere s new = true ↔ AnyHere s new := by
  cases new <;> simp [isAnyHere, AnyHere]

theorem putActive_other {m : Option Nat} (h : m ≠ s.sel.active) : putActive m s = changeTo m s := if_neg h

/-- A change of the active profile in Settled that still fits (R85). -/
theorem reachSource_fits (ha : s.sel.active = some n) (hst : s.sel.st = .settled) (h : Fits s new) :
    reachSource n old new s = again old new s := by
  obtain ⟨p, rfl, hfits⟩ := h
  simp only [reachSource, hst, changeInSettled, if_pos ha, hfits, if_true, recompute_eq]

/-- A change of the active profile in Settled that does not fit, and its deletion (R85). -/
theorem reachSource_misfits (ha : s.sel.active = some n) (hst : s.sel.st = .settled) (h : ¬Fits s new)
    (hnew : ∀ p, profileAt s n = some p → new = some p) :
    reachSource n old new s = sourceNotice (changeTo (lookup s s.sel.port (s.sel.settledCls.getD 0)) s) := by
  have hne : lookup s s.sel.port (s.sel.settledCls.getD 0) ≠ s.sel.active := by
    rw [ha]
    refine lookup_ne fun p hp => ?_
    rw [Bool.eq_false_iff]
    exact fun hfits => h ⟨p, hnew p hp, hfits⟩
  simp only [reachSource, hst, changeInSettled, if_pos ha, putActive_other hne]
  cases new with
  | none => rfl
  | some p => exact if_neg fun hfits => h ⟨p, rfl, hfits⟩

/-- A change that takes the active profile from the port, and its deletion, outside Settled (R85, R95). -/
theorem reachSource_leaves (ha : s.sel.active = some n) (hst : s.sel.st ≠ .settled) (h : ¬Here s new)
    (hnew : ∀ p, profileAt s n = some p → new = some p) :
    reachSource n old new s = judged s (fallback s) (changeTo (fallback s) s) := by
  have hne : fallback s ≠ s.sel.active := by
    rw [ha]
    exact fallback_ne fun p hp hport => h ⟨p, hnew p hp, hport⟩
  have hback : fallBack s = judged s (fallback s) (changeTo (fallback s) s) := by
    rw [fallBack, putActive_other hne, judgeLoss, lossOf_congr (s := s) (by simp [changeTo])]
    rfl
  have hleaves := leavesPort_iff.2 h
  cases hs : s.sel.st with
  | settled => exact absurd hs hst
  | noSignal => simp only [reachSource, hs, changeInNoSignal, if_pos (And.intro ha hleaves), hback]
  | switching | scanning => simp only [reachSource, hs, changeInFlight, if_pos ha, hleaves, if_true, hback]

/-- Another change of the active profile in NoSignal (R85, R95). -/
theorem reachSource_noSignal (ha : s.sel.active = some n) (hst : s.sel.st = .noSignal) (h : Here s new) :
    reachSource n old new s =
      if isAnyHere s old || isAnyHere s new then judged s (fallback s) (again old new s) else again old new s := by
  have hleaves : ¬(s.sel.active = some n ∧ leavesPort s new = true) := fun e => leavesPort_iff.1 e.2 h
  have hwork : (again old new s).work = s.work := by simp [again, apply_ite State.work]
  have hsel : (again old new s).sel = s.sel := by simp [again, apply_ite State.sel]
  have hjudged : judgeLoss (fallback (again old new s)) (again old new s) = judged s (fallback s) (again old new s) := by
    rw [fallback, hsel, lookup_congr hwork, judgeLoss, lossOf_congr hwork]
    rfl
  simp only [reachSource, hst, changeInNoSignal, if_neg hleaves, if_pos ha, recompute_eq, hjudged]

/-- Another change of the active profile in Switching and Scanning (R85, R108). -/
theorem reachSource_inFlight (ha : s.sel.active = some n) (hst : s.sel.st = .switching ∨ s.sel.st = .scanning) (h : Here s new) :
    reachSource n old new s = if tiltChanges old new then again old new s else s := by
  have hleaves : leavesPort s new = false := by
    rw [Bool.eq_false_iff]
    exact fun e => leavesPort_iff.1 e h
  rcases hst with hst | hst <;> simp only [reachSource, hst, changeInFlight, if_pos ha, hleaves, Bool.false_eq_true, if_false, recompute_eq]

/-- A change of a place that is not the active profile's (R85, R95). -/
theorem reachSource_other (ha : s.sel.active ≠ some n) :
    reachSource n old new s =
      if s.sel.st = .noSignal ∧ (isAnyHere s old || isAnyHere s new) = true then judged s (fallback s) s else s := by
  cases hs : s.sel.st with
  | settled => simp [reachSource, hs, changeInSettled, ha]
  | switching | scanning => simp [reachSource, hs, changeInFlight, ha]
  | noSignal =>
    simp only [reachSource, hs, changeInNoSignal, ha, false_and, if_false, true_and]
    rfl

end Reach

/-! ## The state that a change of a place leaves -/

/-- From one state to the next only the selector, the geometry and the Notice Queue change. -/
structure Pictured (x y : State) : Prop where
  eq : ∃ l g q, y = { x with sel := l, geo := g, notices := q }

section Pictured

variable {s x y z : State} {n : Nat} {old new : Option Profile}

theorem Pictured.trans (h : Pictured x y) (h' : Pictured y z) : Pictured x z := by
  obtain ⟨l, g, q, rfl⟩ := h
  obtain ⟨l', g', q', rfl⟩ := h'
  exact ⟨l', g', q', rfl⟩

theorem computation_pictured (x : State) : Pictured x (computation x) := by
  have h (y : State) : Pictured y (handOver y) := by
    unfold handOver
    split
    · dsimp only
      split <;> exact ⟨_, _, _, rfl⟩
    · exact ⟨_, _, _, rfl⟩
  exact Pictured.trans ⟨_, _, _, rfl⟩ (h _)

theorem changeTo_pictured (m : Option Nat) (x : State) : Pictured x (changeTo m x) :=
  Pictured.trans ⟨_, _, _, rfl⟩ (computation_pictured _)

theorem again_pictured (old new : Option Profile) (x : State) : Pictured x (again old new x) := by
  unfold again
  split
  · exact Pictured.trans ⟨_, _, _, rfl⟩ (computation_pictured _)
  · exact computation_pictured _

theorem judged_pictured (x : State) (m : Option Nat) (y : State) : Pictured y (judged x m y) := ⟨_, _, _, rfl⟩

theorem sourceNotice_pictured (x : State) : Pictured x (sourceNotice x) := ⟨_, _, _, rfl⟩

theorem Pictured.refl (x : State) : Pictured x x := ⟨x.sel, x.geo, x.notices, rfl⟩

theorem judgeLoss_pictured (m : Option Nat) (x : State) : Pictured x (judgeLoss m x) := ⟨_, _, _, rfl⟩

theorem putActive_pictured (m : Option Nat) (x : State) : Pictured x (putActive m x) := by
  unfold putActive
  split
  · exact .refl x
  · exact changeTo_pictured m x

theorem recompute_pictured (old new : Option Profile) (x : State) : Pictured x (recompute old new x) := by
  rw [recompute_eq]
  exact again_pictured old new x

theorem dropNamed_pictured (n : Nat) (new : Option Profile) (x : State) : Pictured x (dropNamed n new x) := by
  cases new
  · exact ⟨_, _, _, rfl⟩
  · exact .refl x

theorem fallBack_pictured (x : State) : Pictured x (fallBack x) := (putActive_pictured _ x).trans (judgeLoss_pictured _ _)

theorem reachSource_pictured (n : Nat) (old new : Option Profile) (x : State) : Pictured x (reachSource n old new x) := by
  have settled : Pictured x (changeInSettled n old new x) := by
    unfold changeInSettled
    split
    · split
      · split
        · exact recompute_pictured ..
        · exact (putActive_pictured _ x).trans (sourceNotice_pictured _)
      · exact (putActive_pictured _ x).trans (sourceNotice_pictured _)
    · exact .refl x
  have noSignal : Pictured x (changeInNoSignal n old new x) := by
    unfold changeInNoSignal
    split
    · exact fallBack_pictured x
    · have hagain : Pictured x (if x.sel.active = some n then recompute old new x else x) := by
        split
        · exact recompute_pictured ..
        · exact .refl x
      dsimp only
      split
      · exact hagain.trans (judgeLoss_pictured _ _)
      · exact hagain
  have inFlight : Pictured x (changeInFlight n old new x) := by
    unfold changeInFlight
    split
    · split
      · exact fallBack_pictured x
      · split
        · exact recompute_pictured ..
        · exact .refl x
    · exact .refl x
  cases hs : x.sel.st <;> simp only [reachSource, hs] <;> assumption

theorem trimChange_pictured (n : Nat) (old new : Option Profile) (x : State) : Pictured x (trimChange n old new x) := by
  have table : Pictured x (tableChange n old new x) := by
    rw [tableChange_eq]
    exact (dropNamed_pictured n new x).trans (reachSource_pictured ..)
  have again : Pictured x (if x.sel.active = some n then computation x else x) := by
    split
    · exact computation_pictured x
    · exact .refl x
  cases hs : x.sel.st <;> simp only [trimChange, hs] <;> assumption

/-- The state in which a place of the table is put and its write asked for. -/
def stored (snd : Sender) (n : Nat) (new : Option Profile) (s : State) : State :=
  ask snd (.profile n) { s with work := { s.work with profiles := s.work.profiles.set (n - 1) new } }

/-- The same, with a deleted place no longer named. -/
def emptied (snd : Sender) (n : Nat) (new : Option Profile) (s : State) : State :=
  if new ≠ none then stored snd n new s
  else { stored snd n new s with sel := { s.sel with
    named := if s.sel.named = some n then none else s.sel.named
    req := s.sel.req.map (fun r => { r with named := if r.named = some n then none else r.named }) } }

theorem ask_putProfile (snd : Sender) (new : Option Profile) (hn : ∃ k, n = k + 1) :
    ask snd (.profile n) (putProfile n new (nextEvent s)) = nextEvent (stored snd n new s) := by
  rw [stored, ← ask_nextEvent, putProfile, setPlace_eq _ _ hn]
  rfl

theorem dropNamed_stored (snd : Sender) : dropNamed n new (nextEvent (stored snd n new s)) = nextEvent (emptied snd n new s) := by
  cases new with
  | none =>
    rw [emptied, if_neg (by simp), dropNamed, modSel, nextEvent_sel, stored, ask_sel]
    rfl
  | some p =>
    rw [emptied, if_pos (by simp)]
    rfl

theorem changeProfile_eq (snd : Sender) (hn : ∃ k, n = k + 1) :
    changeProfile snd n new (nextEvent s) = reachSource n (profileAt s n) new (nextEvent (emptied snd n new s)) := by
  rw [changeProfile, ask_putProfile snd new hn, tableChange_eq, dropNamed_stored]
  rfl

theorem besideTable_of_blocks (h : z = settle y) (h1 : y.pending = s.pending) (h2 : y.uptime = s.uptime) (h3 : y.choices = s.choices)
    (h4 : y.secondsDone = s.secondsDone) (h5 : y.cadenceDone = s.cadenceDone) (h6 : y.pins = s.pins) (h7 : y.ports = s.ports)
    (h8 : y.lock = s.lock) (h9 : y.comms = s.comms) (h10 : y.lamp = s.lamp) (h11 : y.mode = s.mode) (h12 : y.heat = s.heat)
    (h13 : y.sched = s.sched) : sameBesidePicture s { z with work := s.work, store := s.store, wear := s.wear } := by
  have hactive : z.sched.active = s.sched.active := by rw [h, settle_active, h13]
  have huptime : z.uptime = s.uptime := by rw [h, settle_uptime, h2]
  have hlamp : ({ z.lamp with bays := .make (fun b => (z.lamp.bays.get b).bare) } : LampCtl) =
      { s.lamp with bays := .make (fun b => (s.lamp.bays.get b).bare) } := by rw [h, settle_lamp_bare, h10]
  have hmode : ({ z.mode with bays := .make (fun b => (z.mode.bays.get b).bare) } : ModeUnit) =
      { s.mode with bays := .make (fun b => (s.mode.bays.get b).bare) } := by rw [h, settle_mode_bare, h11]
  have hheat : ({ z.heat with fan := .low, stallFrom := none } : Heat) = { s.heat with fan := .low, stallFrom := none } := by
    rw [h, settle_heat_bare, h12]
  have hsched : ({ z.sched with idle := 0 } : Sched) = { s.sched with idle := 0 } := by rw [h, settle_sched_bare, h13]
  exact essence_ext (by rw [h, settle_pending, h1]) huptime (by rw [h, settle_choices, h3]) (by rw [h, settle_secondsDone, h4])
    (by rw [h, settle_cadenceDone, h5]) (by rw [h, settle_pins, h6]) rfl rfl rfl (by rw [h, settle_ports, h7]) rfl
    (by rw [h, settle_lock, h8]) (by rw [h, settle_comms, h9]) hlamp hmode hheat hsched
    (syncScan_sel_congr rfl huptime rfl rfl hactive)

/-- Beside the table, the store, the selector and the geometry a change of a place leaves what follows every event. -/
theorem settle_pictured {snd : Sender} (h : Pictured (nextEvent (stored snd n new s)) y) :
    (settle y).work = { s.work with profiles := s.work.profiles.set (n - 1) new } ∧
      (settle y).store = (ask snd (.profile n) { s with work := (settle y).work }).store ∧ y.faults = s.faults ∧
      sameBesidePicture s { settle y with work := s.work, store := s.store, wear := s.wear } := by
  obtain ⟨l, g, q, hy⟩ := h
  have hwork : y.work = { s.work with profiles := s.work.profiles.set (n - 1) new } := by simp [hy, stored]
  refine ⟨(settle_work y).trans hwork, ?_, by simp [hy, stored], ?_⟩
  · rw [settle_store, settle_work, hwork, hy]
    rfl
  · exact besideTable_of_blocks (z := settle y) (y := y) rfl (by simp [hy, stored]) (by simp [hy, stored]) (by simp [hy, stored])
      (by simp [hy, stored]) (by simp [hy, stored]) (by simp [hy, stored]) (by simp [hy, stored]) (by simp [hy, stored])
      (by simp [hy, stored]) (by simp [hy, stored]) (by simp [hy, stored]) (by simp [hy, stored]) (by simp [hy, stored])

end Pictured

/-! ## The source on screen after a change of a place -/

/-- What a change of a place leaves, by the selector before it; `x` holds the new table, and nothing more has changed in it (R85). -/
structure Reaches (n : Nat) (old new : Option Profile) (s x t : State) : Prop where
  other : s.sel.active ≠ some n →
    (s.sel.st = .noSignal ∧ (AnyHere s old ∨ AnyHere s new) → essence t = essence (judged x (lookup x s.sel.port 0) x)) ∧
      (s.sel.st ≠ .noSignal ∨ ¬(AnyHere s old ∨ AnyHere s new) → essence t = essence x)
  settled : s.sel.active = some n → s.sel.st = .settled →
    (Fits s new → essence t = essence (again old new x)) ∧
      (¬Fits s new → essence t = essence (changeTo (lookup x s.sel.port (s.sel.settledCls.getD 0)) x))
  leaves : s.sel.active = some n → s.sel.st ≠ .settled → ¬Here s new →
    essence t = essence (judged x (lookup x s.sel.port 0) (changeTo (lookup x s.sel.port 0) x))
  noSignal : s.sel.active = some n → s.sel.st = .noSignal → Here s new →
    (AnyHere s old ∨ AnyHere s new → essence t = essence (judged x (lookup x s.sel.port 0) (again old new x))) ∧
      (¬(AnyHere s old ∨ AnyHere s new) → essence t = essence (again old new x))
  inFlight : s.sel.active = some n → s.sel.st = .switching ∨ s.sel.st = .scanning → Here s new →
    (old ≠ none ∧ old.map Profile.autoTilt ≠ new.map Profile.autoTilt → essence t = essence (again old new x)) ∧
      (old = none ∨ old.map Profile.autoTilt = new.map Profile.autoTilt → essence t = essence x)
  noticed : s.sel.active = some n ∧ s.sel.st = .settled ∧ ¬Fits s new → placed s t [selectorNotice t]
  silent : s.sel.active ≠ some n ∨ s.sel.st ≠ .settled ∨ Fits s new → placed s t []

section Reaches

variable {s x t : State} {n : Nat} {old new : Option Profile}

theorem changeTo_nextEvent (m : Option Nat) (x : State) : changeTo m (nextEvent x) = nextEvent (changeTo m x) :=
  computation_nextEvent (setImmediate (clearNudges { x with sel := { x.sel with active := m } }))

theorem again_nextEvent (old new : Option Profile) (x : State) : again old new (nextEvent x) = nextEvent (again old new x) := by
  unfold again
  split
  · exact computation_nextEvent (setImmediate x)
  · exact computation_nextEvent x

theorem settled_essence {y z : State} (h : y = nextEvent z) : essence (settle y) = essence z := by
  rw [h, essence_settle, essence_nextEvent]

theorem anyHere_or_iff : (isAnyHere x old || isAnyHere x new) = true ↔ AnyHere x old ∨ AnyHere x new := by
  rw [Bool.or_eq_true, isAnyHere_iff, isAnyHere_iff]

theorem computation_noticed (x : State) : (computation x).faults = x.faults ∧ (computation x).notices = x.notices := by simp

theorem again_silent (old new : Option Profile) (x : State) : Silent x (again old new x) := by
  unfold again
  split <;> simp [Silent]

theorem reaches_self (hnew : ∀ p, profileAt x n = some p → new = some p) :
    Reaches n old new x x (settle (reachSource n old new (nextEvent x))) where
  other ha := by
    have h := reachSource_other (s := nextEvent x) (old := old) (new := new) ha
    refine ⟨fun hany => settled_essence ?_, fun hnone => settled_essence ?_⟩
    · rw [h, if_pos ⟨hany.1, anyHere_or_iff.2 hany.2⟩]
      rfl
    · rw [h, if_neg fun e => hnone.elim (fun hst => hst e.1) fun hn => hn (anyHere_or_iff.1 e.2)]
  settled ha hst := by
    refine ⟨fun hfits => settled_essence ?_, fun hmis => ?_⟩
    · rw [reachSource_fits (s := nextEvent x) ha hst hfits, again_nextEvent]
    · rw [reachSource_misfits (s := nextEvent x) ha hst hmis hnew, essence_settle, essence_sourceNotice, changeTo_nextEvent,
        essence_nextEvent]
      rfl
  leaves ha hst hhere := settled_essence (by
    rw [reachSource_leaves (s := nextEvent x) ha hst hhere hnew, changeTo_nextEvent]
    rfl)
  noSignal ha hst hhere := by
    have h := reachSource_noSignal (s := nextEvent x) (old := old) (new := new) ha hst hhere
    rw [again_nextEvent] at h
    refine ⟨fun hany => settled_essence ?_, fun hnone => settled_essence ?_⟩
    · rw [h, if_pos ((anyHere_or_iff (x := nextEvent x)).2 hany)]
      rfl
    · rw [h, if_neg fun e => hnone ((anyHere_or_iff (x := nextEvent x)).1 e)]
  inFlight ha hst hhere := by
    have hsome : new ≠ none := by
      obtain ⟨p, hp, -⟩ := hhere
      rw [hp]
      exact Option.some_ne_none p
    have h := reachSource_inFlight (s := nextEvent x) (old := old) (new := new) ha hst hhere
    rw [again_nextEvent] at h
    refine ⟨fun ⟨hold, htilt⟩ => settled_essence ?_, fun hsame => settled_essence ?_⟩
    · rw [h, if_pos ((tiltChanges_iff hold hsome).2 htilt)]
    · rw [h, if_neg]
      rcases hsame with hold | hsame
      · subst hold
        exact Bool.false_ne_true
      · by_cases hold : old = none
        · subst hold
          exact Bool.false_ne_true
        · exact fun e => (tiltChanges_iff hold hsome).1 e hsame
  noticed h := by
    obtain ⟨ha, hst, hmis⟩ := h
    rw [reachSource_misfits (s := nextEvent x) ha hst hmis hnew]
    exact placed_sourceNotice (by simp [changeTo]) (by simp [changeTo]) (by simp [changeTo, hst])
  silent h := by
    have hsilent : Silent (nextEvent x) (reachSource n old new (nextEvent x)) := by
      by_cases ha : x.sel.active = some n
      · by_cases hst : x.sel.st = .settled
        · have hfits := (h.resolve_left (not_not_intro ha)).resolve_left (not_not_intro hst)
          rw [reachSource_fits (s := nextEvent x) ha hst hfits]
          exact again_silent ..
        · by_cases hhere : Here x new
          · cases hs : x.sel.st with
            | settled => exact absurd hs hst
            | noSignal =>
              rw [reachSource_noSignal (s := nextEvent x) ha hs hhere]
              split <;> exact again_silent ..
            | switching | scanning =>
              rw [reachSource_inFlight (s := nextEvent x) ha (by simp [hs]) hhere]
              split
              · exact again_silent ..
              · exact ⟨rfl, rfl⟩
          · rw [reachSource_leaves (s := nextEvent x) ha hst hhere hnew]
            simp [judged, changeTo, Silent]
      · rw [reachSource_other (s := nextEvent x) ha]
        split <;> exact ⟨rfl, rfl⟩
    exact placed_settle hsilent.1 hsilent.2

/-- The selector of the state before serves as well as that of the state with the new table. -/
theorem Reaches.of_same (h : Reaches n old new x x t) (hst : x.sel.st = s.sel.st) (hport : x.sel.port = s.sel.port)
    (hcls : x.sel.settledCls = s.sel.settledCls) (hact : x.sel.active = s.sel.active) (hf : x.faults = s.faults)
    (hn : x.notices = s.notices) : Reaches n old new s x t := by
  have hplaced (l : List Notice) : placed x t l = placed s t l := by simp only [placed, risen, hf, hn]
  obtain ⟨h1, h2, h3, h4, h5, h6, h7⟩ := h
  simp only [AnyHere, Here, Fits, hst, hport, hcls, hact, hplaced] at h1 h2 h3 h4 h5 h6 h7
  exact ⟨h1, h2, h3, h4, h5, h6, h7⟩

theorem emptied_sel (snd : Sender) (n : Nat) (new : Option Profile) (s : State) :
    (emptied snd n new s).sel.st = s.sel.st ∧ (emptied snd n new s).sel.port = s.sel.port ∧
      (emptied snd n new s).sel.settledCls = s.sel.settledCls ∧ (emptied snd n new s).sel.active = s.sel.active := by
  unfold emptied
  split <;> simp [stored]

/-- A place that is put, with its write asked for, reaches the source on screen (R85). -/
theorem reaches_of_changeProfile (snd : Sender) (hn : ∃ k, n = k + 1) :
    Reaches n (profileAt s n) new s (emptied snd n new s) (settle (changeProfile snd n new (nextEvent s))) := by
  rw [changeProfile_eq snd hn]
  obtain ⟨hst, hport, hcls, hact⟩ := emptied_sel snd n new s
  refine (reaches_self fun p hp => place_set_some (l := s.work.profiles) hn (hp' p hp)).of_same hst hport hcls hact ?_ ?_
  · unfold emptied
    split <;> simp [stored]
  · unfold emptied
    split <;> simp [stored]
where
  hp' (p : Profile) (hp : profileAt (emptied snd n new s) n = some p) : place (s.work.profiles.set (n - 1) new) n = some p := by
    have hwork : (emptied snd n new s).work.profiles = s.work.profiles.set (n - 1) new := by
      unfold emptied
      split <;> simp [stored]
    rw [← hwork]
    exact hp

end Reaches

/-! ## The commands -/

section Commands

variable {s : State} {snd : Sender} {n : Nat} {new : Option Profile} {w : String}

/-- What a changed place leaves in the whole state. -/
theorem changeProfile_rest (snd : Sender) (hn : ∃ k, n = k + 1) {t : State} (ht : t = settle (changeProfile snd n new (nextEvent s))) :
    t.work = { s.work with profiles := s.work.profiles.set (n - 1) new } ∧
      t.store = (ask snd (.profile n) { s with work := t.work }).store ∧
      sameBesidePicture s { t with work := s.work, store := s.store, wear := s.wear } := by
  subst ht
  have hpictured : Pictured (nextEvent (stored snd n new s)) (changeProfile snd n new (nextEvent s)) := by
    rw [changeProfile, ask_putProfile snd new hn, tableChange_eq]
    exact (dropNamed_pictured ..).trans (reachSource_pictured ..)
  obtain ⟨hwork, hstore, -, hbeside⟩ := settle_pictured hpictured
  exact ⟨hwork, hstore, hbeside⟩

theorem essence_sel_eq {t u : State} (h : essence t = essence u) : t.sel.active = u.sel.active ∧ t.sel.named = u.sel.named := by
  have hsync (x : State) : (syncScan x).sel.active = x.sel.active ∧ (syncScan x).sel.named = x.sel.named := by
    unfold syncScan
    split <;> exact ⟨rfl, rfl⟩
  have hsel : (syncScan t).sel = (syncScan u).sel := (congrArg State.sel h : (essence t).sel = (essence u).sel)
  exact ⟨by rw [← (hsync t).1, hsel, (hsync u).1], by rw [← (hsync t).2, hsel, (hsync u).2]⟩

/-- Settled, a change of another place leaves the selector and the geometry. -/
theorem changeProfile_settled {p : Profile} (snd : Sender) (hn : ∃ k, n = k + 1) (hst : s.sel.st = .settled) (ha : s.sel.active ≠ some n) :
    (settle (changeProfile snd n (some p) (nextEvent s))).sel = s.sel ∧
      (settle (changeProfile snd n (some p) (nextEvent s))).geo = s.geo := by
  obtain ⟨hst', -, -, hact⟩ := emptied_sel snd n (some p) s
  have hstill : changeProfile snd n (some p) (nextEvent s) = nextEvent (emptied snd n (some p) s) := by
    rw [changeProfile_eq snd hn, reachSource_other (s := nextEvent (emptied snd n (some p) s)) (by rw [nextEvent_sel, hact]; exact ha),
      if_neg]
    rw [nextEvent_sel, hst', hst]
    simp
  rw [hstill, settle_sel_of_ne (by rw [nextEvent_sel, hst', hst]; simp), settle_geo]
  simp [emptied, stored]

/-- A deleted place is neither the active nor the named profile. -/
theorem deleted_gone (snd : Sender) (hn : ∃ k, n = k + 1) {t : State} (ht : t = settle (changeProfile snd n none (nextEvent s))) :
    t.sel.active ≠ some n ∧ t.sel.named ≠ some n := by
  have h := reaches_of_changeProfile (s := s) (new := none) snd hn
  rw [← ht] at h
  have hwork : (emptied snd n none s).work.profiles = s.work.profiles.set (n - 1) none := by simp [emptied, stored]
  have hempty : ∀ p, profileAt (emptied snd n none s) n ≠ some p := fun p hp => by
    rw [profileAt, hwork] at hp
    cases place_set_some hn hp
  have hnamed : (emptied snd n none s).sel.named ≠ some n := by
    simp only [emptied, ne_eq, not_true_eq_false, if_false]
    split
    · exact (Option.some_ne_none n).symm
    · assumption
  have hlookup (p : VPort) (c : Nat) : lookup (emptied snd n none s) p c ≠ some n := lookup_ne fun p hp => absurd hp (hempty p)
  have hgone (q : Option Profile) : q = none → ¬(∃ p : Profile, q = some p) := by
    rintro rfl ⟨p, hp⟩
    cases hp
  by_cases ha : s.sel.active = some n
  · by_cases hst : s.sel.st = .settled
    · obtain ⟨h1, h2⟩ := essence_sel_eq ((h.settled ha hst).2 fun ⟨p, hp, _⟩ => hgone none rfl ⟨p, hp⟩)
      rw [h1, h2]
      simpa [changeTo] using ⟨hlookup _ _, hnamed⟩
    · obtain ⟨h1, h2⟩ := essence_sel_eq (h.leaves ha hst fun ⟨p, hp, _⟩ => hgone none rfl ⟨p, hp⟩)
      rw [h1, h2]
      simpa [judged, changeTo] using ⟨hlookup _ _, hnamed⟩
  · have hact : (emptied snd n none s).sel.active ≠ some n := by
      rw [(emptied_sel snd n none s).2.2.2]
      exact ha
    by_cases hany : s.sel.st = .noSignal ∧ (AnyHere s (profileAt s n) ∨ AnyHere s none)
    · obtain ⟨h1, h2⟩ := essence_sel_eq ((h.other ha).1 hany)
      rw [h1, h2]
      exact ⟨hact, hnamed⟩
    · obtain ⟨h1, h2⟩ := essence_sel_eq ((h.other ha).2 (by rwa [not_and_or] at hany))
      rw [h1, h2]
      exact ⟨hact, hnamed⟩

theorem parseProfile_place {args : List String} {p : Profile} (h : parseProfile args s = some (n, p)) : ∃ k, n = k + 1 := by
  unfold parseProfile at h
  split at h
  · split at h
    · rename_i hn hd
      obtain ⟨q, -, hq⟩ := Option.map_eq_some_iff.1 h
      cases hq
      exact parsePlace_pos hn
    · cases h
  · cases h

theorem sourceNamed_false (h : ∀ m bk, place s.work.bookings m = some bk → bk.source ≠ some n) : sourceNamed s n = false := by
  unfold sourceNamed
  rw [List.any_eq_false]
  intro b hb
  obtain ⟨i, hi⟩ := List.mem_iff_getElem?.1 hb
  cases b with
  | none => simp
  | some bk => simpa using h (i + 1) bk (place_eq_some.2 ⟨i, rfl, hi⟩)

/-- A TRIM of the active profile on screen is computed at once, in every state of the selector (R84, R85). -/
theorem trimChange_geo {p q : Profile} {x : State} (ha : x.sel.active = some n)
    (hfits : q.fits x.sel.port (x.sel.settledCls.getD 0) = true) (htilt : q.autoTilt = p.autoTilt) :
    (trimChange n (some p) (some q) x).geo = (computation x).geo := by
  have hhere : Here x (some q) := ⟨q, rfl, by simp_all [Profile.fits]⟩
  have hagain : again (some p) (some q) x = computation x := by
    rw [again, if_neg]
    simp [htilt]
  cases hst : x.sel.st with
  | switching | scanning => simp only [trimChange, hst, if_pos ha]
  | settled =>
    have h : trimChange n (some p) (some q) x = reachSource n (some p) (some q) x := by simp only [trimChange, hst, tableChange_eq, dropNamed]
    rw [h, reachSource_fits ha hst ⟨q, rfl, hfits⟩, hagain]
  | noSignal =>
    have h : trimChange n (some p) (some q) x = reachSource n (some p) (some q) x := by simp only [trimChange, hst, tableChange_eq, dropNamed]
    rw [h, reachSource_noSignal ha hst hhere, hagain]
    split <;> rfl

theorem lockedOut_next {c : Cls} (h : lockedOut s c = false) : lockedOut (nextEvent s) c = false := h

/-- The trims that a TRIM puts (R84). -/
def trimmed (x y : Int) (p : Profile) : Profile := { p with vTrim := max (-40) (min 40 x), hTrim := max (-30) (min 30 y) }

theorem trimmed_iff {x y : Int} {p : Profile} : p.vTrim = clampV x ∧ p.hTrim = clampH y ↔ trimmed x y p = p := by
  cases p
  simp [trimmed, clampV, clampH, clampInt, eq_comm]

/-- Settles O31, part TRIM. -/
theorem trim_stored {v h : String} {x y : Int} {p : Profile} (hc : below snd .operator = false) (hl : lockedOut s snd.cls = false)
    (ht : takesNow s snd [w, v, h] = true) (hn : parseNatIn 1 16 w = some n) (hx : parseInt v = some x) (hy : parseInt h = some y)
    (hp : profileAt s n = some p) :
    (trimmed x y p = p → ∃ t, exec (.trim snd [w, v, h]) s = .next (answer snd
        ⟨t, ["OK", "TRIM", showNat n, "V", showInt (trimmed x y p).vTrim, "H", showInt (trimmed x y p).hTrim], 0, none⟩) ∧
        essence t = essence s) ∧
      (trimmed x y p ≠ p → ∃ t, exec (.trim snd [w, v, h]) s = .next (answer snd
        ⟨t, ["OK", "TRIM", showNat n, "V", showInt (trimmed x y p).vTrim, "H", showInt (trimmed x y p).hTrim], 1, none⟩) ∧
        t.work = { s.work with profiles := s.work.profiles.set (n - 1) (some (trimmed x y p)) } ∧
        t.store = (ask snd (.profile n) { s with work := t.work }).store ∧
        (s.sel.active = some n → (trimmed x y p).fits s.sel.port (s.sel.settledCls.getD 0) = true →
          t.geo = (computation { s with work := t.work }).geo ∧ t.geo.vAdj = s.geo.vAdj ∧ t.geo.hAdj = s.geo.hAdj) ∧
        sameBesidePicture s { t with work := s.work, store := s.store, wear := s.wear }) := by
  have hplace := parsePlace_pos hn
  have hparse : parseTrim [w, v, h] = some (n, clampV x, clampH y) := by
    have hn' : parsePlace 16 w = some n := hn
    simp only [parseTrim, hn', hx, hy]
  have hp' : profileAt (nextEvent s) n = some p := hp
  have hcmd : cmdTrim snd [w, v, h] (nextEvent s) = storeTrim snd n (clampV x) (clampH y) (nextEvent s) := by
    simp only [cmdTrim, hparse]
    exact gate_passes hc (lockedOut_next hl)
  refine ⟨fun hq => ?_, fun hq => ?_⟩
  · have hstore : storeTrim snd n (clampV x) (clampH y) (nextEvent s) =
        yes (nextEvent s) (fun _ => ["TRIM", showNat n, "V", showInt (clampV x), "H", showInt (clampH y)]) := by
      simp only [storeTrim, hp', if_pos (trimmed_iff.2 hq)]
    exact ⟨_, (run_verb ht).trans (congrArg (fun a => Host.Outcome.next (answer snd a)) (hcmd.trans hstore)),
      (essence_settle _).trans (essence_nextEvent s)⟩
  · obtain ⟨z, hz⟩ : ∃ z, z = trimChange n (some p) (some (trimmed x y p)) (nextEvent (stored snd n (some (trimmed x y p)) s)) := ⟨_, rfl⟩
    have hstore : storeTrim snd n (clampV x) (clampH y) (nextEvent s) =
        yes z (fun _ => ["TRIM", showNat n, "V", showInt (clampV x), "H", showInt (clampH y)]) 1 := by
      simp only [storeTrim, hp', if_neg fun e => hq (trimmed_iff.1 e)]
      rw [hz, ← ask_putProfile snd (some (trimmed x y p)) hplace]
      rfl
    obtain ⟨hwork, hst, -, hbeside⟩ := settle_pictured (hz ▸ trimChange_pictured ..)
    refine ⟨_, (run_verb ht).trans (congrArg (fun a => Host.Outcome.next (answer snd a)) (hcmd.trans hstore)), hwork, hst,
      fun ha hfits => ?_, hbeside⟩
    have hgeo : (settle z).geo = (computation { s with work := (settle z).work }).geo := by
      rw [settle_geo, hz, trimChange_geo (p := p) (q := trimmed x y p) (by simpa [stored] using ha) (by simpa [stored] using hfits) rfl, ← hz]
      exact computation_geo_congr (by simp [stored]) (by simp [stored]) (by rw [hwork]; simp [stored]) (by simp [stored])
    rw [hgeo]
    exact ⟨rfl, computation_nudges _⟩

end Commands

/-- Settles O31: a place is put and written first, and the new table then reaches the source on screen. -/
theorem profilesStored : Obligations.ProfilesStored := by
  intro s snd hc hl reaches
  have hreaches {n : Nat} {new : Option Profile} {t : State} (h : Reaches n (profileAt s n) new s (emptied snd n new s) t) :
      reaches n new t := ⟨h.other, h.settled, h.leaves, h.noSignal, h.inFlight, h.noticed, h.silent⟩
  refine ⟨fun w pairs n p h hp hkey hne => ?_, fun w n q hn hnone => ?_, fun w n h hn hfilled hbookings => ?_,
    fun w v h n x y p ht hn hx hy hp => trim_stored hc hl ht hn hx hy hp⟩
  · have hplace := parseProfile_place hp
    have hkey' : keyHolder (nextEvent s) n p = none := hkey
    have hne' : ¬profileAt (nextEvent s) n = some p := hne
    have hcmd : cmdProfile snd (w :: pairs) (nextEvent s) =
        yes (changeProfile snd n (some p) (nextEvent s)) (profinfoFields n) 1 := by
      have hp' : parseProfile (w :: pairs) (nextEvent s) = some (n, p) := hp
      simp only [cmdProfile, hp']
      rw [gate_passes hc (lockedOut_next hl), storeProfile, hkey', if_neg hne']
    obtain ⟨hwork, hstore, hbeside⟩ := changeProfile_rest (s := s) (new := some p) snd hplace rfl
    exact ⟨_, (run_verb h).trans (congrArg (fun a => Host.Outcome.next (answer snd a)) hcmd), hwork, hstore,
      changeProfile_settled snd hplace, hreaches (reaches_of_changeProfile snd hplace), hbeside⟩
  · have hport : readPairs profilePair .empty ["PORT", showPort q] = some { ProfileDraft.empty with port := some q } := by
      have hread : parsePort (showPort q) = some q := by cases q <;> decide
      simp [readPairs, profilePair, once, ProfileDraft.empty, hread]
    have hplace : parsePlace 16 w = some n := hn
    simp only [parseProfile, hplace, hport, hnone]
    rfl
  · have hplace := parsePlace_pos hn
    have hcmd : cmdUnprofile snd [w] (nextEvent s) =
        yes (changeProfile snd n none (nextEvent s)) (fun _ => ["PROFILE", showNat n, "EMPTY"]) 1 := by
      have hone : parseOnePlace 16 [w] = some n := hn
      have hfull : ¬(profileAt (nextEvent s) n).isNone = true := by
        rw [Option.isNone_iff_eq_none]
        exact hfilled
      have hfree : sourceNamed (nextEvent s) n = false := sourceNamed_false (s := s) hbookings
      simp only [cmdUnprofile, hone]
      rw [gate_passes hc (lockedOut_next hl), emptyProfile, if_neg hfull, if_neg (by rw [hfree]; exact Bool.false_ne_true)]
    obtain ⟨hwork, hstore, hbeside⟩ := changeProfile_rest (s := s) (new := none) snd hplace rfl
    obtain ⟨hactive, hnamed⟩ := deleted_gone (s := s) snd hplace rfl
    exact ⟨_, (run_verb h).trans (congrArg (fun a => Host.Outcome.next (answer snd a)) hcmd), hwork, hstore, hactive, hnamed,
      hreaches (reaches_of_changeProfile snd hplace), hbeside⟩

end Sys2Proof.Profiles

/-! PROOFS. Power-on: the restoration of the stored records (O5). -/

namespace Sys2Proof.Restored

open Sys2Proof Sys2Proof.Machine Sys2Proof.Upkeep Sys2Proof.Steps Sys2Proof.Lamps Sys2Proof.Counts Sys2Proof.Picture Sys2Proof.Refusals
  Sys2Proof.Accepted Sys2Proof.LampOrders Sys2Proof.Agenda Sys2Proof.BookingOrders Sys2Proof.Endings Sys2Proof.Queries Sys2Proof.Frames
  Sys2Proof.Taken Sys2Proof.CommandFrames Sys2Proof.Sending Sys2Proof.FaultTables Sys2Proof.Noticed

set_option Elab.async false

/-! ## As shipped -/

/-- Power-on with readable records, no strap, both doors closed and no lamp line asserted. -/
def plainInputs : PowerOnInputs := ⟨false, .both false, .both false, .both false, []⟩

/-- The reset state, but for the queue and the count of free choices. -/
def resetWith (p : List Instr) (c : Nat) : State := { State.reset with pending := p, choices := c }

/-- The reset state before its notices and its first corner set. -/
def bareReset (p : List Instr) (c : Nat) : State :=
  { resetWith p c with geo := { State.reset.geo with inFlight := none }, notices := { queue := [], overflow := false } }

theorem restored_shipped : restored plainInputs .shipped = (.shipped, [], []) := by decide +kernel

theorem poweredState_shipped {s : State} (h : s.store.stored = .shipped) :
    poweredState plainInputs .shipped [] s = bareReset s.pending s.choices := by
  unfold poweredState
  rw [h]
  rfl

theorem handFallback_bareReset (p : List Instr) (c : Nat) :
    handFallback (bareReset p c) = { resetWith p c with notices := { queue := [], overflow := false } } := rfl

theorem powerNotice_bareReset (p : List Instr) (c : Nat) :
    powerNotice .bayB (powerNotice .bayA { resetWith p c with notices := { queue := [], overflow := false } }) = resetWith p c := rfl

theorem settle_resetWith (p : List Instr) (c : Nat) : settle (resetWith p c) = resetWith p c := rfl

theorem powerUp_shipped {s : State} (h : s.store.stored = .shipped) : powerUp plainInputs s = resetWith s.pending s.choices := by
  rw [powerUp_eq, powered, h, restored_shipped]
  simp only [writeBacks, List.foldl_nil]
  rw [poweredState_shipped h, handFallback_bareReset, powerNotice_bareReset, settle_resetWith]

/-! ## Unreadable records -/

section Defaulted

variable {r : Records} {keys : List RecKey} {n : Nat}

/-- A part of the records that one key holds is the shipped one where that key is unreadable, and the stored one elsewhere. The records
may be held to a form that taking one of them keeps. -/
theorem defaulted_part_of {α : Type} {ok : Records → Prop} (part : Records → α) (key : RecKey) (v : α)
    (hok : ∀ k r, ok r → ok (copyRec k .shipped r)) (hhit : ∀ r, ok r → part (copyRec key .shipped r) = v)
    (hmiss : ∀ k r, k ≠ key → part (copyRec k .shipped r) = part r) (hr : ok r) :
    part (defaulted keys r) = if key ∈ keys then v else part r := by
  unfold defaulted
  induction keys generalizing r with
  | nil => rfl
  | cons k keys ih =>
    rw [List.foldl_cons, ih (hok k r hr)]
    by_cases hk : k = key
    · subst hk
      simp [hhit r hr]
    · simp [hmiss k r hk, Ne.symm hk]

theorem defaulted_part {α : Type} (part : Records → α) (key : RecKey) (v : α) (hhit : ∀ r, part (copyRec key .shipped r) = v)
    (hmiss : ∀ k r, k ≠ key → part (copyRec k .shipped r) = part r) :
    part (defaulted keys r) = if key ∈ keys then v else part r :=
  defaulted_part_of (ok := fun _ => True) part key v (fun _ _ _ => trivial) (fun r _ => hhit r) hmiss trivial

theorem copyNth_length {α : Type} (n : Nat) (src dst : List α) : (copyNth n src dst).length = dst.length := by
  unfold copyNth
  split
  · rfl
  · split <;> simp

theorem copyNth_get_other {α : Type} {n k : Nat} (src dst : List α) (h : n ≠ k + 1) : (copyNth n src dst)[k]? = dst[k]? := by
  unfold copyNth
  split
  · rfl
  · rename_i j
    split
    · exact List.getElem?_set_ne (by omega)
    · rfl

theorem copyNth_get_same {α : Type} {k : Nat} {src dst : List α} (h : src.length = dst.length) :
    (copyNth (k + 1) src dst)[k]? = src[k]? := by
  simp only [copyNth]
  split
  · rename_i v hv
    have hlt : k < dst.length := by
      rw [← h]
      exact (List.getElem?_eq_some_iff.1 hv).1
    rw [hv, List.getElem?_set_self hlt]
  · rename_i hv
    rw [hv, List.getElem?_eq_none_iff, ← h, ← List.getElem?_eq_none_iff, hv]

theorem place_copyNth_other {α : Type} {n m : Nat} (src dst : List (Option α)) (h : n ≠ m) :
    place (copyNth n src dst) m = place dst m := by
  cases m with
  | zero => rfl
  | succ k => rw [place, place, List.getD_eq_getElem?_getD, List.getD_eq_getElem?_getD, copyNth_get_other src dst h]

/-- A place taken from an empty table is empty. -/
theorem place_copyNth_empty {α : Type} {n top : Nat} (dst : List (Option α)) (h : n ≤ top) :
    place (copyNth n (List.replicate top none) dst) n = none := by
  cases n with
  | zero => rfl
  | succ k =>
    have hsrc : (List.replicate top (none : Option α))[k]? = some none := List.getElem?_replicate_of_lt h
    simp only [copyNth, hsrc, place, List.getD_eq_getElem?_getD]
    by_cases hk : k < dst.length
    · rw [List.getElem?_set_self hk]
      rfl
    · rw [List.getElem?_eq_none (by simpa using hk)]
      rfl

theorem defaulted_lamps (b : Bay) : (defaulted keys r).lamps.get b = if .lamp b ∈ keys then none else r.lamps.get b := by
  refine defaulted_part (fun r => r.lamps.get b) (.lamp b) none (fun r => ?_) fun k r hk => ?_
  · cases b <;> rfl
  · cases k with
    | lamp c =>
      have hne : b ≠ c := fun e => hk (congrArg RecKey.lamp e.symm)
      exact (PerBay.get_set ..).trans (if_neg hne)
    | _ => rfl

theorem defaulted_profiles (h : n ≤ 16) : place (defaulted keys r).profiles n = if .profile n ∈ keys then none else place r.profiles n := by
  refine defaulted_part (fun r => place r.profiles n) (.profile n) none (fun r => place_copyNth_empty _ h) fun k r hk => ?_
  cases k with
  | profile m => exact place_copyNth_other _ _ fun e => hk (congrArg RecKey.profile e)
  | _ => rfl

theorem defaulted_codes (h : n ≤ 8) : place (defaulted keys r).codes n = if .code n ∈ keys then none else place r.codes n := by
  refine defaulted_part (fun r => place r.codes n) (.code n) none (fun r => place_copyNth_empty _ h) fun k r hk => ?_
  cases k with
  | code m => exact place_copyNth_other _ _ fun e => hk (congrArg RecKey.code e)
  | _ => rfl

theorem defaulted_bookings (h : n ≤ 48) :
    place (defaulted keys r).bookings n = if .booking n ∈ keys then none else place r.bookings n := by
  refine defaulted_part (fun r => place r.bookings n) (.booking n) none (fun r => place_copyNth_empty _ h) fun k r hk => ?_
  cases k with
  | booking m => exact place_copyNth_other _ _ fun e => hk (congrArg RecKey.booking e)
  | _ => rfl

theorem defaulted_exceptions : (defaulted keys r).exceptions = if .exceptions ∈ keys then [] else r.exceptions := by
  refine defaulted_part Records.exceptions .exceptions [] (fun r => rfl) fun k r hk => ?_
  cases k with
  | exceptions => exact absurd rfl hk
  | _ => rfl

theorem defaulted_master : (defaulted keys r).master = if .master ∈ keys then none else r.master := by
  refine defaulted_part Records.master .master none (fun r => rfl) fun k r hk => ?_
  cases k with
  | master => exact absurd rfl hk
  | _ => rfl

theorem defaulted_ceiling : (defaulted keys r).ceiling = if .ceiling ∈ keys then .full else r.ceiling := by
  refine defaulted_part Records.ceiling .ceiling .full (fun r => rfl) fun k r hk => ?_
  cases k with
  | ceiling => exact absurd rfl hk
  | _ => rfl

theorem defaulted_limits :
    ((defaulted keys r).limV, (defaulted keys r).limH) = if .limits ∈ keys then (40, 30) else (r.limV, r.limH) := by
  refine defaulted_part (fun r => (r.limV, r.limH)) .limits (40, 30) (fun r => rfl) fun k r hk => ?_
  cases k with
  | limits => exact absurd rfl hk
  | _ => rfl

/-- The hall settings, each at its shipped value where its record is unreadable. -/
def settingsUnder (keys : List RecKey) (x : Settings) : Settings :=
  { address := if .setting .address ∈ keys then 1 else x.address
    plan := if .setting .plan ∈ keys then .single else x.plan
    mount := if .setting .mount ∈ keys then .floor else x.mount
    defmode := if .setting .defmode ∈ keys then .standard else x.defmode
    condint := if .setting .condint ∈ keys then 240 else x.condint
    autoscan := if .setting .autoscan ∈ keys then true else x.autoscan
    prewarm := if .setting .prewarm ∈ keys then 3 else x.prewarm
    grace := if .setting .grace ∈ keys then 10 else x.grace
    idle := if .setting .idle ∈ keys then 20 else x.idle
    idlelock := if .setting .idlelock ∈ keys then .panel else x.idlelock }

theorem settingsUnder_cons (k : RecKey) (keys : List RecKey) (r : Records) :
    settingsUnder keys (copyRec k .shipped r).settings = settingsUnder (k :: keys) r.settings := by
  cases k with
  | setting name => cases name <;> simp [settingsUnder, copyRec, copySetting, Records.shipped, Settings.shipped]
  | _ => simp [settingsUnder, copyRec]

theorem defaulted_settings : (defaulted keys r).settings = settingsUnder keys r.settings := by
  unfold defaulted
  induction keys generalizing r with
  | nil => rfl
  | cons k keys ih => rw [List.foldl_cons, ih, settingsUnder_cons]

theorem copyRec_lengths (k : RecKey) (src r : Records) :
    (copyRec k src r).filters.length = r.filters.length ∧ (copyRec k src r).masks.length = r.masks.length := by
  cases k with
  | filter m => exact ⟨copyNth_length .., rfl⟩
  | mask m => exact ⟨rfl, copyNth_length ..⟩
  | _ => exact ⟨rfl, rfl⟩

theorem defaulted_filters (h : r.filters.length = 8) :
    (defaulted keys r).filters[n]? = if .filter (n + 1) ∈ keys then Records.shipped.filters[n]? else r.filters[n]? := by
  refine defaulted_part_of (ok := fun r => r.filters.length = 8) (fun r => r.filters[n]?) (.filter (n + 1)) _
    (fun k r hr => (copyRec_lengths k _ r).1.trans hr) (fun r hr => copyNth_get_same hr.symm) (fun k r hk => ?_) h
  cases k with
  | filter m => exact copyNth_get_other _ _ fun e => hk (congrArg RecKey.filter e)
  | _ => rfl

theorem defaulted_masks (h : r.masks.length = 3) :
    (defaulted keys r).masks[n]? = if .mask (n + 1) ∈ keys then Records.shipped.masks[n]? else r.masks[n]? := by
  refine defaulted_part_of (ok := fun r => r.masks.length = 3) (fun r => r.masks[n]?) (.mask (n + 1)) _
    (fun k r hr => (copyRec_lengths k _ r).2.trans hr) (fun r hr => copyNth_get_same hr.symm) (fun k r hk => ?_) h
  cases k with
  | mask m => exact copyNth_get_other _ _ fun e => hk (congrArg RecKey.mask e)
  | _ => rfl

end Defaulted

/-! ## Clashing profiles and codes -/

section Lost

variable {α : Type} {ok : Nat → α → Bool} {r : Records} {n : Nat}

/-- What a search through numbered places finds is the first record that passes. -/
theorem firstWhere_spec {k m : Nat} {l : List (Option α)} (h : firstWhere ok k l = some m) :
    ∃ i a, m = k + i ∧ l[i]? = some (some a) ∧ ok m a = true ∧ ∀ j < i, ∀ b, l[j]? = some (some b) → ok (k + j) b = false := by
  induction l generalizing k with
  | nil => cases h
  | cons x l ih =>
    have later (hx : ∀ b, x = some b → ok k b = false) (h' : firstWhere ok (k + 1) l = some m) :
        ∃ i a, m = k + i ∧ (x :: l)[i]? = some (some a) ∧ ok m a = true ∧
          ∀ j < i, ∀ b, (x :: l)[j]? = some (some b) → ok (k + j) b = false := by
      obtain ⟨i, a, hm, hi, hok, hfirst⟩ := ih h'
      refine ⟨i + 1, a, by omega, hi, hok, fun j hj b hb => ?_⟩
      cases j with
      | zero => exact hx b (Option.some.inj hb)
      | succ j =>
        rw [show k + (j + 1) = k + 1 + j by omega]
        exact hfirst j (by omega) b hb
    cases x with
    | none => exact later (fun b hb => by cases hb) h
    | some a =>
      by_cases ha : ok k a = true
      · simp only [firstWhere, if_pos ha, Option.some.injEq] at h
        subst h
        exact ⟨0, a, rfl, rfl, ha, fun j hj => absurd hj (Nat.not_lt_zero j)⟩
      · simp only [firstWhere, if_neg ha] at h
        exact later (fun b hb => by cases hb; exact eq_false_of_ne_true ha) h

theorem firstWhere_none_spec {k : Nat} {l : List (Option α)} (h : firstWhere ok k l = none) (j : Nat) (b : α)
    (hb : l[j]? = some (some b)) : ok (k + j) b = false := by
  induction l generalizing k j with
  | nil => cases hb
  | cons x l ih =>
    have later (h' : firstWhere ok (k + 1) l = none) (j : Nat) (hj : l[j]? = some (some b)) : ok (k + (j + 1)) b = false := by
      rw [show k + (j + 1) = k + 1 + j by omega]
      exact ih h' j hj
    cases x with
    | none =>
      cases j with
      | zero => cases hb
      | succ j => exact later h j hb
    | some a =>
      by_cases ha : ok k a = true
      · simp [firstWhere, ha] at h
      · simp only [firstWhere, if_neg ha] at h
        cases j with
        | zero =>
          obtain rfl : a = b := Option.some.inj (Option.some.inj hb)
          exact eq_false_of_ne_true ha
        | succ j => exact later h j hb

/-- A search finds a place below another exactly where a record passes below it. -/
theorem firstWhere_below {l : List (Option α)} :
    (∃ m, firstWhere ok 1 l = some m ∧ m < n) ↔ ∃ m a, m < n ∧ place l m = some a ∧ ok m a = true := by
  constructor
  · rintro ⟨m, h, hm⟩
    obtain ⟨i, a, rfl, hi, hok, -⟩ := firstWhere_spec h
    exact ⟨1 + i, a, hm, place_eq_some.2 ⟨i, by omega, hi⟩, hok⟩
  · rintro ⟨m, a, hm, ha, hok⟩
    cases h : firstWhere ok 1 l with
    | none =>
      obtain ⟨i, rfl, hi⟩ := place_eq_some.1 ha
      have hbad := firstWhere_none_spec h i a hi
      rw [Nat.add_comm, hok] at hbad
      cases hbad
    | some m' =>
      obtain ⟨i, b, rfl, -, -, hfirst⟩ := firstWhere_spec h
      obtain ⟨j, rfl, hj⟩ := place_eq_some.1 ha
      refine ⟨_, rfl, ?_⟩
      by_contra hge
      have := hfirst j (by omega) a hj
      rw [Nat.add_comm, hok] at this
      cases this

theorem findKey_eq (k : Nat) (l : List (Option Profile)) (port : VPort) (c : Option Nat) :
    findKey k l port c = firstWhere (fun _ p => decide (p.port = port ∧ p.cls = c)) k l := by
  induction l generalizing k with
  | nil => rfl
  | cons x l ih =>
    cases x with
    | none => exact ih (k + 1)
    | some p => simp only [findKey, firstWhere, ih, decide_eq_true_eq]

theorem below_iff {o : Option Nat} : (match o with | some m => decide (m < n) | none => false) = true ↔ ∃ m, o = some m ∧ m < n := by
  cases o <;> simp

/-- A profile is lost where a lower place holds its key (R76). -/
theorem profileLost_iff {p : Profile} (hp : place r.profiles n = some p) :
    profileLost r n = true ↔ ∃ m q, m < n ∧ place r.profiles m = some q ∧ q.port = p.port ∧ q.cls = p.cls := by
  have h := firstWhere_below (n := n) (l := r.profiles) (ok := fun _ q => decide (q.port = p.port ∧ q.cls = p.cls))
  simp only [decide_eq_true_eq] at h
  rw [← h, ← findKey_eq, profileLost, hp]
  exact below_iff

/-- A code is lost where the master code or a lower slot holds its digits (R159). -/
theorem codeLost_iff {c : Code} (hc : place r.codes n = some c) :
    codeLost r n = true ↔ r.master = some c.digits ∨ ∃ m k, m < n ∧ place r.codes m = some k ∧ k.digits = c.digits := by
  have h := firstWhere_below (n := n) (l := r.codes) (ok := fun m k => decide (k.digits = c.digits ∧ m ≠ n))
  have hbelow : (∃ m k, m < n ∧ place r.codes m = some k ∧ k.digits = c.digits) ↔
      ∃ m k, m < n ∧ place r.codes m = some k ∧ decide (k.digits = c.digits ∧ m ≠ n) = true := by
    refine exists_congr fun m => exists_congr fun k => and_congr_right fun hm => ?_
    simp [hm.ne]
  rw [hbelow, ← h, ← slotHolding_eq, codeLost, hc, Bool.or_eq_true, beq_iff_eq]
  exact or_congr_right below_iff

end Lost

/-! ## Clashing bookings -/

section Bookings

variable {s : State} {n m : Nat} {bk bk' : Booking}

theorem bookingsWhere_mem {f : Nat → Booking → Bool} {k : Nat} {l : List (Option Booking)} {x : Nat × Booking} :
    x ∈ bookingsWhere f k l ↔ ∃ i, x.1 = k + i ∧ l[i]? = some (some x.2) ∧ f x.1 x.2 = true := by
  induction l generalizing k with
  | nil => simp [bookingsWhere]
  | cons b l ih =>
    have split : (∃ i, x.1 = k + i ∧ (b :: l)[i]? = some (some x.2) ∧ f x.1 x.2 = true) ↔
        (x.1 = k ∧ b = some x.2 ∧ f x.1 x.2 = true) ∨ x ∈ bookingsWhere f (k + 1) l := by
      rw [ih]
      constructor
      · rintro ⟨i, hx, hi, hf⟩
        cases i with
        | zero => exact .inl ⟨hx, Option.some.inj hi, hf⟩
        | succ i => exact .inr ⟨i, by omega, hi, hf⟩
      · rintro (⟨hx, hb, hf⟩ | ⟨i, hx, hi, hf⟩)
        · exact ⟨0, hx, congrArg some hb, hf⟩
        · exact ⟨i + 1, by omega, hi, hf⟩
    rw [split]
    cases b with
    | none => simp [bookingsWhere]
    | some b =>
      by_cases hf : f k b = true
      · rw [bookingsWhere, if_pos hf, List.mem_cons]
        refine or_congr_left ⟨fun h => ?_, fun h => ?_⟩
        · rw [h]
          exact ⟨rfl, rfl, hf⟩
        · obtain ⟨hx, hb, -⟩ := h
          exact Prod.ext hx (Option.some.inj hb).symm
      · rw [bookingsWhere, if_neg hf]
        refine ⟨.inr, fun h => h.resolve_left fun h => ?_⟩
        obtain ⟨hx, hb, hfx⟩ := h
        rw [hx, ← Option.some.inj hb] at hfx
        exact hf hfx

theorem conflict_isSome : (conflict s n bk).isSome = true ↔
    ∃ m bk', place s.work.bookings m = some bk' ∧ m ≠ n ∧ conflictsWith s n bk m bk' = true := by
  have hhead {l : List (Nat × Booking)} : (l.head?.map Prod.fst).isSome = true ↔ ∃ x, x ∈ l := by
    cases l <;> simp
  rw [conflict, hhead]
  constructor
  · rintro ⟨⟨m, bk'⟩, hx⟩
    obtain ⟨i, hm, hi, hf⟩ := bookingsWhere_mem.1 hx
    rw [Bool.and_eq_true, bne_iff_ne] at hf
    exact ⟨m, bk', place_eq_some.2 ⟨i, by simp_all [Nat.add_comm], hi⟩, hf⟩
  · rintro ⟨m, bk', hplace, hne, hc⟩
    obtain ⟨i, rfl, hi⟩ := place_eq_some.1 hplace
    exact ⟨(i + 1, bk'), bookingsWhere_mem.2 ⟨i, Nat.add_comm i 1, hi, by simp [hne, hc]⟩⟩

/-- Without an active record two bookings conflict where both have an occurrence on one date and their windows meet (R127). -/
theorem conflictsWith_meets (ha : s.sched.active = none) (h : conflictsWith s n bk m bk' = true) :
    ∃ d, occursIn s.work.exceptions n bk.dates d = true ∧ occursIn s.work.exceptions m bk'.dates d = true ∧
      bk.start < bk'.stop ∧ bk'.start < bk.stop := by
  simp only [conflictsWith, ha, Bool.false_or, Bool.and_eq_true, List.any_eq_true, meetsOn, occurs, windowsMeet,
    decide_eq_true_eq] at h
  obtain ⟨⟨hmeet, -⟩, d, -, hn, hm, -⟩ := h
  exact ⟨d, hn, hm, hmeet⟩

theorem onDate_span {b : BookDates} {d : Date} (hd : d ≤ 36524) (h : b.onDate d = true) : b.span.1 ≤ d ∧ d ≤ b.span.2 := by
  cases b with
  | once x =>
    obtain rfl : x = d := by simpa [BookDates.onDate] using h
    exact ⟨le_rfl, le_rfl⟩
  | weekly days f u =>
    simp only [BookDates.onDate, Bool.and_eq_true, decide_eq_true_eq] at h
    exact ⟨h.1.1, le_min h.1.2 hd⟩

theorem onDate_share {b c : BookDates} {d : Date} (h : b.onDate d = true) (h' : c.onDate d = true) : b.share c = true := by
  cases b with
  | once x => rfl
  | weekly days f u =>
    cases c with
    | once y => rfl
    | weekly days' f' u' =>
      simp only [BookDates.onDate, Bool.and_eq_true, List.contains_iff_mem] at h h'
      exact List.any_eq_true.2 ⟨_, h.2, List.contains_iff_mem.2 h'.2⟩

theorem occursIn_onDate {exs : List Exc} {b : BookDates} {d : Date} (h : occursIn exs n b d = true) : b.onDate d = true := by
  unfold occursIn at h
  exact (Bool.and_eq_true_iff.1 h).1

theorem mem_range_between {lo hi d : Nat} (h1 : lo ≤ d) (h2 : d ≤ hi) : d ∈ List.range' lo (hi + 1 - lo) :=
  List.mem_range'_1.2 ⟨h1, by omega⟩

theorem conflictsWith_of_meets (ha : s.sched.active = none) {d : Date} (hd : d ≤ 36524)
    (hn : occursIn s.work.exceptions n bk.dates d = true) (hm : occursIn s.work.exceptions m bk'.dates d = true)
    (h1 : bk.start < bk'.stop) (h2 : bk'.start < bk.stop) : conflictsWith s n bk m bk' = true := by
  obtain ⟨hlo, hhi⟩ := onDate_span hd (occursIn_onDate hn)
  obtain ⟨hlo', hhi'⟩ := onDate_span hd (occursIn_onDate hm)
  have hcommon : d ∈ commonDates bk.dates.span bk'.dates.span := by
    have hmax : max bk.dates.span.1 bk'.dates.span.1 ≤ d := max_le hlo hlo'
    have hmin : d ≤ min bk.dates.span.2 bk'.dates.span.2 := le_min hhi hhi'
    exact mem_range_between hmax hmin
  have hshare := onDate_share (occursIn_onDate hn) (occursIn_onDate hm)
  simp only [conflictsWith, ha, Bool.false_or, Bool.and_eq_true, List.any_eq_true, meetsOn, occurs, windowsMeet, runWindow,
    decide_eq_true_eq]
  exact ⟨⟨⟨h1, h2⟩, hshare⟩, d, hcommon, hn, hm, h1, h2⟩

theorem takeBookings_ge {l : List (Option Booking)} {k : Nat} (h : k ∈ takeBookings s n l) : n ≤ k := by
  induction l generalizing s n with
  | nil => cases h
  | cons b l ih =>
    cases b with
    | none => exact Nat.le_of_succ_le (ih h)
    | some bk =>
      unfold takeBookings at h
      split at h
      · rcases List.mem_cons.1 h with rfl | h
        · exact le_rfl
        · exact Nat.le_of_succ_le (ih h)
      · exact Nat.le_of_succ_le (ih h)

/-- A place holds a booking that is taken: it was there before, or it stands in the rest of the table and is not lost. -/
def Taken (s : State) (n : Nat) (l : List (Option Booking)) (m : Nat) (bk : Booking) : Prop :=
  place s.work.bookings m = some bk ∨ ∃ j, m = n + j ∧ l[j]? = some (some bk) ∧ m ∉ takeBookings s n l

/-- A table whose places from `n` on are still empty and hold the rest of a list. -/
structure Room (s : State) (n : Nat) (l : List (Option Booking)) : Prop where
  first : 1 ≤ n
  long : n + l.length ≤ s.work.bookings.length + 1
  empty : ∀ m, n ≤ m → place s.work.bookings m = none

theorem Room.skip {l : List (Option Booking)} {b : Option Booking} (h : Room s n (b :: l)) : Room s (n + 1) l :=
  ⟨Nat.le_succ_of_le h.first, by have := h.long; rw [List.length_cons] at this; omega, fun m hm => h.empty m (by omega)⟩

theorem Room.put {l : List (Option Booking)} (h : Room s n (some bk :: l)) : Room (putBooking n (some bk) s) (n + 1) l := by
  have hlen : (putBooking n (some bk) s).work.bookings.length = s.work.bookings.length := by
    obtain ⟨k, rfl⟩ : ∃ k, n = k + 1 := ⟨n - 1, by have := h.first; omega⟩
    simp [putBooking, setPlace]
  refine ⟨Nat.le_succ_of_le h.first, ?_, fun m hm => ?_⟩
  · have := h.long
    rw [List.length_cons] at this
    omega
  · exact (place_setPlace_other (by omega)).trans (h.empty m (by omega))

theorem place_putBooking {l : List (Option Booking)} (h : Room s n (some bk :: l)) (m : Nat) :
    place (putBooking n (some bk) s).work.bookings m = if m = n then some bk else place s.work.bookings m := by
  split
  · subst m
    have := h.long
    rw [List.length_cons] at this
    exact place_setPlace_same h.first (by have := h.first; omega)
  · exact place_setPlace_other (by assumption)

/-- A booking is lost exactly where it conflicts with a lower one that is taken (R134). -/
theorem takeBookings_mem {l : List (Option Booking)} (h : Room s n l) {i : Nat} (hi : l[i]? = some (some bk)) :
    n + i ∈ takeBookings s n l ↔ ∃ m bk', m < n + i ∧ Taken s n l m bk' ∧ conflictsWith s (n + i) bk m bk' = true := by
  induction l generalizing s n i with
  | nil => cases hi
  | cons b l ih =>
    cases b with
    | none =>
      cases i with
      | zero => cases hi
      | succ i =>
        rw [show n + (i + 1) = n + 1 + i by omega, show takeBookings s n (none :: l) = takeBookings s (n + 1) l from rfl, ih h.skip hi]
        refine exists_congr fun m => exists_congr fun bk' => and_congr_right fun _ => and_congr_left fun _ => or_congr_right ?_
        constructor
        · rintro ⟨j, hm, hj⟩
          exact ⟨j + 1, by omega, hj⟩
        · rintro ⟨j, hm, hj⟩
          cases j with
          | zero => cases hj.1
          | succ j => exact ⟨j, by omega, hj⟩
    | some b =>
      have hbelow (m : Nat) (bk' : Booking) (hm : m < n) : Taken s n (some b :: l) m bk' ↔ place s.work.bookings m = some bk' := by
        refine ⟨fun ht => ht.resolve_right ?_, .inl⟩
        rintro ⟨j, hj, -⟩
        omega
      by_cases hc : (conflict s n b).isSome = true
      · have htake : takeBookings s n (some b :: l) = n :: takeBookings s (n + 1) l := if_pos hc
        cases i with
        | zero =>
          obtain rfl : b = bk := Option.some.inj (Option.some.inj hi)
          refine ⟨fun _ => ?_, fun _ => by rw [htake]; exact List.mem_cons_self⟩
          obtain ⟨m, bk', hplace, hne, hconf⟩ := conflict_isSome.1 hc
          have hm : m < n := by
            by_contra hge
            rw [h.empty m (by omega)] at hplace
            cases hplace
          exact ⟨m, bk', hm, .inl hplace, hconf⟩
        | succ i =>
          rw [show n + (i + 1) = n + 1 + i by omega, htake, List.mem_cons, or_iff_right (by omega), ih h.skip hi]
          refine exists_congr fun m => exists_congr fun bk' => and_congr_right fun _ => and_congr_left fun _ => or_congr_right ?_
          rw [htake]
          constructor
          · rintro ⟨j, hm, hj, hnot⟩
            exact ⟨j + 1, by omega, hj, fun hin => hnot ((List.mem_cons.1 hin).resolve_left (by omega))⟩
          · rintro ⟨j, hm, hj, hnot⟩
            cases j with
            | zero => exact absurd (by rw [hm]; exact List.mem_cons_self) hnot
            | succ j => exact ⟨j, by omega, hj, fun hin => hnot (List.mem_cons_of_mem _ hin)⟩
      · have htake : takeBookings s n (some b :: l) = takeBookings (putBooking n (some b) s) (n + 1) l := if_neg hc
        have hfree : n ∉ takeBookings (putBooking n (some b) s) (n + 1) l := fun hin => absurd (takeBookings_ge hin) (by omega)
        cases i with
        | zero =>
          obtain rfl : b = bk := Option.some.inj (Option.some.inj hi)
          refine iff_of_false (by rw [htake]; exact hfree) ?_
          rintro ⟨m, bk', hm, ht, hconf⟩
          exact hc (conflict_isSome.2 ⟨m, bk', (hbelow m bk' hm).1 ht, by omega, hconf⟩)
        | succ i =>
          rw [show n + (i + 1) = n + 1 + i by omega, htake, ih h.put hi]
          refine exists_congr fun m => exists_congr fun bk' => and_congr_right fun _ => and_congr_left fun _ => ?_
          unfold Taken
          rw [place_putBooking h, htake]
          constructor
          · rintro (hput | ⟨j, hm, hj, hnot⟩)
            · split at hput
              · cases hput
                subst m
                exact .inr ⟨0, rfl, rfl, hfree⟩
              · exact .inl hput
            · exact .inr ⟨j + 1, by omega, hj, hnot⟩
          · rintro (hput | ⟨j, hm, hj, hnot⟩)
            · left
              rw [if_neg, hput]
              rintro rfl
              rw [h.empty m le_rfl] at hput
              cases hput
            · cases j with
              | zero =>
                left
                rw [if_pos (hm.trans (Nat.add_zero n))]
                exact Option.some.inj hj
              | succ j => exact .inr ⟨j, by omega, hj, hnot⟩

theorem place_replicate_empty {α : Type} (k m : Nat) : place (List.replicate k (none : Option α)) m = none := by
  cases m with
  | zero => rfl
  | succ j =>
    simp only [place, List.getD_eq_getElem?_getD, List.getElem?_replicate]
    split <;> rfl

/-- At restoration no booking is taken before the first. -/
theorem lostBookings_mem {r : Records} {n : Nat} (hbk : place r.bookings n = some bk) :
    n ∈ takeBookings (noBookings r) 1 r.bookings ↔ ∃ m bk', m < n ∧ place r.bookings m = some bk' ∧
      m ∉ takeBookings (noBookings r) 1 r.bookings ∧ conflictsWith (noBookings r) n bk m bk' = true := by
  have hroom : Room (noBookings r) 1 r.bookings :=
    ⟨le_rfl, by simp [noBookings, Nat.add_comm], fun m _ => place_replicate_empty _ m⟩
  obtain ⟨i, rfl, hi⟩ := place_eq_some.1 hbk
  have h := takeBookings_mem hroom hi
  rw [Nat.add_comm 1 i] at h
  rw [h]
  refine exists_congr fun m => exists_congr fun bk' => and_congr_right fun _ => ?_
  rw [← and_assoc]
  refine and_congr_left fun _ => ⟨?_, ?_⟩
  · rintro (hput | ⟨j, rfl, hj, hnot⟩)
    · rw [noBookings, place_replicate_empty] at hput
      cases hput
    · exact ⟨place_eq_some.2 ⟨j, Nat.add_comm 1 j, hj⟩, hnot⟩
  · rintro ⟨hput, hnot⟩
    obtain ⟨j, rfl, hj⟩ := place_eq_some.1 hput
    exact .inr ⟨j, Nat.add_comm j 1, hj, hnot⟩

end Bookings

/-! ## The write-backs -/

section WriteBacks

variable {s : State} {k k' : RecKey} {keys : List RecKey}

/-- A write of a record is in progress, or waits among the part's own. -/
def Underway (s : State) (k : RecKey) : Prop := (∃ j, s.store.busy = some j ∧ j.key = k) ∨ k ∈ s.store.ownQ

theorem startWrite_kept (s : State) : (startWrite s).store.stored = s.store.stored ∧ (startWrite s).store.unreadable = s.store.unreadable ∧
    (startWrite s).store.unsaved = s.store.unsaved := by
  unfold startWrite
  repeat' split
  all_goals simp [beginWrite_eq]

theorem askOwn_kept (k : RecKey) (s : State) : (askOwn k s).store.stored = s.store.stored ∧
    (askOwn k s).store.unreadable = s.store.unreadable ∧ (askOwn k s).store.unsaved = s.store.unsaved := by
  unfold askOwn
  split
  · exact ⟨rfl, rfl, rfl⟩
  · exact startWrite_kept _

theorem writeBacks_kept (keys : List RecKey) (s : State) : (writeBacks keys s).store.stored = s.store.stored ∧
    (writeBacks keys s).store.unreadable = s.store.unreadable ∧ (writeBacks keys s).store.unsaved = s.store.unsaved := by
  induction keys generalizing s with
  | nil => exact ⟨rfl, rfl, rfl⟩
  | cons k keys ih =>
    obtain ⟨h1, h2, h3⟩ := askOwn_kept k s
    obtain ⟨h1', h2', h3'⟩ := ih (askOwn k s)
    exact ⟨h1'.trans h1, h2'.trans h2, h3'.trans h3⟩

/-- While no command waits for the store, the start of a write keeps what is under way. -/
theorem startWrite_underway (hc : s.store.cmdQ = []) (h : Underway s k) :
    Underway (startWrite s) k ∧ (startWrite s).store.cmdQ = [] := by
  unfold startWrite
  split
  · exact ⟨h, hc⟩
  · rename_i hb
    rw [hc]
    dsimp only
    split
    · rename_i q qs hq
      rw [beginWrite_eq]
      refine ⟨?_, hc⟩
      rcases h with ⟨j, hj, -⟩ | h
      · rw [hb] at hj
        cases hj
      · rw [hq] at h
        rcases List.mem_cons.1 h with rfl | h
        · exact .inl ⟨_, rfl, rfl⟩
        · exact .inr h
    · exact ⟨h, hc⟩

theorem askOwn_underway (hc : s.store.cmdQ = []) (h : k' = k ∨ Underway s k') :
    Underway (askOwn k s) k' ∧ (askOwn k s).store.cmdQ = [] := by
  unfold askOwn
  split
  · rename_i hw
    refine ⟨?_, hc⟩
    rcases h with rfl | h
    · right
      simpa [writeWaits, hc] using hw
    · exact h
  · refine startWrite_underway hc ?_
    rcases h with rfl | ⟨j, hj⟩ | h
    · exact .inr (List.mem_append_right _ List.mem_cons_self)
    · exact .inl ⟨j, hj⟩
    · exact .inr (List.mem_append_left _ h)

/-- Every record to be written back is under way (R185). -/
theorem writeBacks_underway (hc : s.store.cmdQ = []) (h : k ∈ keys ∨ Underway s k) : Underway (writeBacks keys s) k := by
  induction keys generalizing s with
  | nil => exact h.resolve_left List.not_mem_nil
  | cons q keys ih =>
    have hnext (hk : k = q ∨ Underway s k) : Underway (writeBacks (q :: keys) s) k := by
      obtain ⟨hu, hc'⟩ := askOwn_underway hc hk
      exact ih hc' (.inr hu)
    rcases h with h | h
    · rcases List.mem_cons.1 h with rfl | h
      · exact hnext (.inl rfl)
      · have hc' : (askOwn q s).store.cmdQ = [] := (askOwn_underway (k' := q) hc (.inl rfl)).2
        exact ih hc' (.inl h)
    · exact hnext (.inr h)

end WriteBacks

/-! ## What power-on restores -/

section PowerOn

variable (inp : PowerOnInputs) (s : State)

theorem powerNotice_blocks (b : Bay) (x : State) : (powerNotice b x).store = x.store ∧ (powerNotice b x).mode = x.mode := by
  unfold powerNotice
  split <;> exact ⟨rfl, rfl⟩

theorem writeBacks_mode (keys : List RecKey) (x : State) : (writeBacks keys x).mode = x.mode := by
  induction keys generalizing x with
  | nil => rfl
  | cons k keys ih => exact (ih _).trans (askOwn_mode ..)

theorem powerUp_work : (powerUp inp s).work = (restored inp s.store.stored).1 := by
  rw [powerUp_eq, settle_work, powered]
  simp only [powerNotice_rest, handFallback_work, writeBacks_work]
  rfl

theorem powerUp_requested : (powerUp inp s).mode.requested = (restored inp s.store.stored).1.settings.defmode := by
  rw [powerUp_eq, settle_requested, powered]
  simp only [powerNotice_blocks, handFallback, computation_mode, judgeLoss_mode, modSel_mode, writeBacks_mode]
  rfl

theorem powerUp_store : (powerUp inp s).store = (writeBacks (restored inp s.store.stored).2.2
    (poweredState inp (restored inp s.store.stored).1 (restored inp s.store.stored).2.1 s)).store := by
  rw [powerUp_eq, settle_store, powered]
  simp only [powerNotice_blocks, handFallback, computation_store, judgeLoss_store, modSel_store]

end PowerOn

/-! ## The restored records -/

section Records

variable {r : Records} {n : Nat} {k : RecKey}

theorem mem_upTo {top : Nat} : n ∈ upTo top ↔ 1 ≤ n ∧ n ≤ top := by
  rw [upTo, List.mem_range'_1]
  omega

theorem profile_mem_lost : RecKey.profile n ∈ lostKeys r ↔ (1 ≤ n ∧ n ≤ 16) ∧ profileLost r n = true := by
  simp [lostKeys, mem_upTo]

theorem code_mem_lost : RecKey.code n ∈ lostKeys r ↔ (1 ≤ n ∧ n ≤ 8) ∧ codeLost r n = true := by
  simp [lostKeys, mem_upTo]

theorem booking_mem_lost : RecKey.booking n ∈ lostKeys r ↔ n ∈ takeBookings (noBookings r) 1 r.bookings := by
  simp [lostKeys]

/-- Lost records are profiles, codes and bookings. -/
theorem mem_lost (h : k ∈ lostKeys r) : ∃ n, k = .profile n ∨ k = .code n ∨ k = .booking n := by
  simp only [lostKeys, List.mem_append, List.mem_map] at h
  rcases h with (⟨n, -, rfl⟩ | ⟨n, -, rfl⟩) | ⟨n, -, rfl⟩
  · exact ⟨n, .inl rfl⟩
  · exact ⟨n, .inr (.inl rfl)⟩
  · exact ⟨n, .inr (.inr rfl)⟩

theorem defaulted_lost {keys : List RecKey} (h : ∀ k ∈ keys, ∃ n, k = .profile n ∨ k = .code n ∨ k = .booking n) (r : Records) :
    defaulted keys r = { r with
      profiles := (defaulted keys r).profiles, codes := (defaulted keys r).codes, bookings := (defaulted keys r).bookings } := by
  induction keys generalizing r with
  | nil => rfl
  | cons k keys ih =>
    have hrest := ih (fun k hk => h k (List.mem_cons_of_mem _ hk)) (copyRec k .shipped r)
    show defaulted keys (copyRec k .shipped r) = _
    rw [hrest]
    obtain ⟨n, rfl | rfl | rfl⟩ := h k List.mem_cons_self <;> rfl

/-- The records that restoration leaves before R134 mends them, and the strap. -/
def survived (bad : List RecKey) (r : Records) : Records := defaulted (lostKeys (defaulted bad r)) (defaulted bad r)

theorem restored_work (inp : PowerOnInputs) (r : Records) :
    (restored inp r).1 = strapped inp.strap (mended (survived inp.unreadable r)) := rfl

theorem restored_gone (inp : PowerOnInputs) (r : Records) :
    (restored inp r).2.1 = ordered (inp.unreadable ++ lostKeys (defaulted inp.unreadable r)) := rfl

theorem survived_eq (bad : List RecKey) (r : Records) : survived bad r = { defaulted bad r with
    profiles := (survived bad r).profiles, codes := (survived bad r).codes, bookings := (survived bad r).bookings } :=
  defaulted_lost (fun _ hk => mem_lost hk) _

theorem strapped_rest (b : Bool) (r : Records) : strapped b r = { r with settings := (strapped b r).settings } := by
  cases b <;> rfl

theorem place_map {α : Type} (f : α → α) (l : List (Option α)) (n : Nat) : place (l.map (Option.map f)) n = (place l n).map f := by
  cases n with
  | zero => rfl
  | succ k =>
    simp only [place, List.getD_eq_getElem?_getD, List.getElem?_map]
    cases l[k]? <;> rfl

theorem takeBookings_filled {s : State} {l : List (Option Booking)} {j : Nat} (h : j ∈ takeBookings s n l) :
    ∃ i bk, j = n + i ∧ l[i]? = some (some bk) := by
  induction l generalizing s n with
  | nil => cases h
  | cons b l ih =>
    have later {s : State} (h' : j ∈ takeBookings s (n + 1) l) : ∃ i bk, j = n + i ∧ (b :: l)[i]? = some (some bk) := by
      obtain ⟨i, bk, hj, hi⟩ := ih h'
      exact ⟨i + 1, bk, by omega, hi⟩
    cases b with
    | none => exact later h
    | some bk =>
      unfold takeBookings at h
      split at h
      · rcases List.mem_cons.1 h with rfl | h
        · exact ⟨0, bk, rfl, rfl⟩
        · exact later h
      · exact later h

/-- A lost record was there to be read. -/
theorem lost_filled :
    (RecKey.profile n ∈ lostKeys r → place r.profiles n ≠ none) ∧ (RecKey.code n ∈ lostKeys r → place r.codes n ≠ none) ∧
      (RecKey.booking n ∈ lostKeys r → place r.bookings n ≠ none) := by
  refine ⟨fun h e => ?_, fun h e => ?_, fun h e => ?_⟩
  · have hlost := (profile_mem_lost.1 h).2
    simp [profileLost, e] at hlost
  · have hlost := (code_mem_lost.1 h).2
    simp [codeLost, e] at hlost
  · obtain ⟨i, bk, rfl, hi⟩ := takeBookings_filled (booking_mem_lost.1 h)
    rw [place_eq_some.2 ⟨i, Nat.add_comm 1 i, hi⟩] at e
    cases e

theorem wf_inOrder (h : k.wf = true) : k ∈ RecKey.inOrder := by
  cases k with
  | lamp b => cases b <;> decide
  | setting name => cases name <;> decide
  | exceptions | master | ceiling | limits => decide
  | profile n | booking n | code n | filter n | mask n =>
    simp only [RecKey.wf, inPlace, Bool.and_eq_true, decide_eq_true_eq] at h
    simp [RecKey.inOrder, mem_upTo, h.1, h.2]

/-- A record of a place is unsaved after power-on where it is unreadable, or was filled and is not. -/
theorem unsaved_place {α : Type} {bad lost : List RecKey} {old read kept : Option α} (hread : read = if k ∈ bad then none else old)
    (hkept : kept = if k ∈ lost then none else read) (hlost : k ∈ lost → read ≠ none) :
    k ∈ bad ∨ k ∈ lost ↔ k ∈ bad ∨ (old ≠ none ∧ kept = none) := by
  by_cases hb : k ∈ bad
  · simp [hb]
  · rw [if_neg hb] at hread
    subst hread
    subst hkept
    by_cases hl : k ∈ lost
    · simp [hl, hlost hl]
    · simp [hb, hl]

end Records

section Survived

variable {bad : List RecKey} {r : Records} {n : Nat}

theorem survived_profiles (h : n ≤ 16) : place (survived bad r).profiles n =
    if .profile n ∈ lostKeys (defaulted bad r) then none else place (defaulted bad r).profiles n := defaulted_profiles h

theorem survived_codes (h : n ≤ 8) : place (survived bad r).codes n =
    if .code n ∈ lostKeys (defaulted bad r) then none else place (defaulted bad r).codes n := defaulted_codes h

theorem survived_bookings (h : n ≤ 48) : place (survived bad r).bookings n =
    if .booking n ∈ lostKeys (defaulted bad r) then none else place (defaulted bad r).bookings n := defaulted_bookings h

theorem survived_settings : (survived bad r).settings = (defaulted bad r).settings := by rw [survived_eq]
theorem survived_master : (survived bad r).master = (defaulted bad r).master := by rw [survived_eq]
theorem survived_exceptions : (survived bad r).exceptions = (defaulted bad r).exceptions := by rw [survived_eq]

/-- A readable place keeps its record. -/
theorem read_some {α : Type} {k : RecKey} {old read : Option α} {x : α} (h : read = if k ∈ bad then none else old) :
    read = some x ↔ k ∉ bad ∧ old = some x := by
  subst h
  split <;> simp_all

/-- A readable profile stays unless a readable lower place holds its key (R76). -/
theorem profile_survives {p : Profile} (hn : n ≤ 16) (hp : place r.profiles n = some p) :
    (.profile n ∉ bad → (∀ m q, m < n → .profile m ∉ bad → place r.profiles m = some q → ¬(q.port = p.port ∧ q.cls = p.cls)) →
        place (survived bad r).profiles n = some p) ∧
      (.profile n ∈ bad ∨ (∃ m q, m < n ∧ .profile m ∉ bad ∧ place r.profiles m = some q ∧ q.port = p.port ∧ q.cls = p.cls) →
        place (survived bad r).profiles n = none) := by
  have hread {m : Nat} (hm : m ≤ 16) {q : Profile} := read_some (x := q) (defaulted_profiles (keys := bad) (r := r) hm)
  refine ⟨fun hb hfree => ?_, fun hgone => ?_⟩
  · have hhere := (hread hn).2 ⟨hb, hp⟩
    rw [survived_profiles hn, if_neg, hhere]
    intro hlost
    obtain ⟨m, q, hm, hq, hkey⟩ := (profileLost_iff hhere).1 (profile_mem_lost.1 hlost).2
    obtain ⟨hmb, hq⟩ := (hread (by omega)).1 hq
    exact hfree m q hm hmb hq hkey
  · by_cases hb : .profile n ∈ bad
    · rw [survived_profiles hn, defaulted_profiles hn, if_pos hb, ite_self]
    · obtain ⟨m, q, hm, hmb, hq, hkey⟩ := hgone.resolve_left hb
      have hhere := (hread hn).2 ⟨hb, hp⟩
      obtain ⟨j, rfl, -⟩ := place_eq_some.1 hp
      rw [survived_profiles hn, if_pos]
      exact profile_mem_lost.2 ⟨⟨by omega, hn⟩, (profileLost_iff hhere).2 ⟨m, q, hm, (hread (by omega)).2 ⟨hmb, hq⟩, hkey⟩⟩

/-- A readable code stays unless the master code or a readable lower slot holds its digits (R159). -/
theorem code_survives {c : Code} (hn : n ≤ 8) (hc : place r.codes n = some c) :
    (.code n ∉ bad → (survived bad r).master ≠ some c.digits →
        (∀ m k, m < n → .code m ∉ bad → place r.codes m = some k → k.digits ≠ c.digits) →
        place (survived bad r).codes n = some c) ∧
      (.code n ∈ bad ∨ (survived bad r).master = some c.digits ∨
          (∃ m k, m < n ∧ .code m ∉ bad ∧ place r.codes m = some k ∧ k.digits = c.digits) →
        place (survived bad r).codes n = none) := by
  have hread {m : Nat} (hm : m ≤ 8) {k : Code} := read_some (x := k) (defaulted_codes (keys := bad) (r := r) hm)
  rw [survived_master]
  refine ⟨fun hb hmaster hfree => ?_, fun hgone => ?_⟩
  · have hhere := (hread hn).2 ⟨hb, hc⟩
    rw [survived_codes hn, if_neg, hhere]
    intro hlost
    obtain ⟨m, k, hm, hk, hkey⟩ := ((codeLost_iff hhere).1 (code_mem_lost.1 hlost).2).resolve_left hmaster
    obtain ⟨hmb, hk⟩ := (hread (by omega)).1 hk
    exact hfree m k hm hmb hk hkey
  · by_cases hb : .code n ∈ bad
    · rw [survived_codes hn, defaulted_codes hn, if_pos hb, ite_self]
    · have hhere := (hread hn).2 ⟨hb, hc⟩
      obtain ⟨j, rfl, -⟩ := place_eq_some.1 hc
      rw [survived_codes hn, if_pos]
      refine code_mem_lost.2 ⟨⟨by omega, hn⟩, (codeLost_iff hhere).2 ((hgone.resolve_left hb).imp_right ?_)⟩
      rintro ⟨m, k, hm, hmb, hk, hkey⟩
      exact ⟨m, k, hm, (hread (by omega)).2 ⟨hmb, hk⟩, hkey⟩

/-- A readable booking stays unless it conflicts with a lower one that stays (R134). -/
theorem booking_survives {bk : Booking} (hn : n ≤ 48) (hbk : place r.bookings n = some bk) :
    (.booking n ∉ bad →
        (∀ m bk' d, m < n → .booking m ∉ bad → place r.bookings m = some bk' →
          occursIn (defaulted bad r).exceptions n bk.dates d = true → occursIn (defaulted bad r).exceptions m bk'.dates d = true →
          ¬(bk.start < bk'.stop ∧ bk'.start < bk.stop)) →
        place (survived bad r).bookings n = some bk) ∧
      (.booking n ∈ bad ∨ (∃ m bk' d, m < n ∧ place r.bookings m = some bk' ∧ place (survived bad r).bookings m ≠ none ∧ d ≤ 36524 ∧
          occursIn (defaulted bad r).exceptions n bk.dates d = true ∧ occursIn (defaulted bad r).exceptions m bk'.dates d = true ∧
          bk.start < bk'.stop ∧ bk'.start < bk.stop) →
        place (survived bad r).bookings n = none) := by
  have hread {m : Nat} (hm : m ≤ 48) {b : Booking} := read_some (x := b) (defaulted_bookings (keys := bad) (r := r) hm)
  refine ⟨fun hb hfree => ?_, fun hgone => ?_⟩
  · have hhere := (hread hn).2 ⟨hb, hbk⟩
    rw [survived_bookings hn, if_neg, hhere]
    intro hlost
    obtain ⟨m, bk', hm, hbk', -, hconf⟩ := (lostBookings_mem hhere).1 (booking_mem_lost.1 hlost)
    obtain ⟨d, hd, hd', hmeet⟩ := conflictsWith_meets rfl hconf
    obtain ⟨hmb, hbk'⟩ := (hread (by omega)).1 hbk'
    exact hfree m bk' d hm hmb hbk' hd hd' hmeet
  · by_cases hb : .booking n ∈ bad
    · rw [survived_bookings hn, defaulted_bookings hn, if_pos hb, ite_self]
    · have hhere := (hread hn).2 ⟨hb, hbk⟩
      obtain ⟨m, bk', d, hm, hbk', hstays, hd, ho, ho', h1, h2⟩ := hgone.resolve_left hb
      rw [survived_bookings (by omega)] at hstays
      have hkept : .booking m ∉ lostKeys (defaulted bad r) := fun hl => hstays (if_pos hl)
      rw [if_neg hkept] at hstays
      obtain ⟨b, hbm⟩ := Option.ne_none_iff_exists'.1 hstays
      obtain rfl : bk' = b := Option.some.inj (hbk'.symm.trans ((hread (by omega)).1 hbm).2)
      rw [survived_bookings hn, if_pos]
      exact booking_mem_lost.2 ((lostBookings_mem hhere).2
        ⟨m, bk', hm, hbm, fun hl => hkept (booking_mem_lost.2 hl), conflictsWith_of_meets rfl hd ho ho' h1 h2⟩)

/-- The records that are unsaved after power-on. -/
theorem mem_gone {k : RecKey} (hk : k.wf = true) : k ∈ ordered (bad ++ lostKeys (defaulted bad r)) ↔ k ∈ bad ∨
    (∃ n, k = .profile n ∧ place r.profiles n ≠ none ∧ place (survived bad r).profiles n = none) ∨
    (∃ n, k = .code n ∧ place r.codes n ≠ none ∧ place (survived bad r).codes n = none) ∨
    (∃ n, k = .booking n ∧ place r.bookings n ≠ none ∧ place (survived bad r).bookings n = none) := by
  have hmem : k ∈ ordered (bad ++ lostKeys (defaulted bad r)) ↔ k ∈ bad ∨ k ∈ lostKeys (defaulted bad r) := by
    simp [ordered, wf_inOrder hk]
  rw [hmem]
  cases k with
  | profile n =>
    have hn : n ≤ 16 := by simp only [RecKey.wf, inPlace, Bool.and_eq_true, decide_eq_true_eq] at hk; exact hk.2
    rw [unsaved_place (defaulted_profiles hn) (survived_profiles hn) lost_filled.1]
    simp
  | code n =>
    have hn : n ≤ 8 := by simp only [RecKey.wf, inPlace, Bool.and_eq_true, decide_eq_true_eq] at hk; exact hk.2
    rw [unsaved_place (defaulted_codes hn) (survived_codes hn) lost_filled.2.1]
    simp
  | booking n =>
    have hn : n ≤ 48 := by simp only [RecKey.wf, inPlace, Bool.and_eq_true, decide_eq_true_eq] at hk; exact hk.2
    rw [unsaved_place (defaulted_bookings hn) (survived_bookings hn) lost_filled.2.2]
    simp
  | _ =>
    refine or_congr_right (iff_of_false (fun h => ?_) (by simp))
    obtain ⟨n, h | h | h⟩ := mem_lost h <;> cases h

end Survived

/-- An owner that is mended away leaves no owner-only booking (R134). -/
theorem mendBooking_eq (r : Records) (bk : Booking) : mendBooking r bk =
    { bk with
      source := if (bk.source.bind (place r.profiles)).isSome then bk.source else none
      owner := if (bk.owner.bind (place r.codes)).isSome then bk.owner else none
      ownerOnly := bk.ownerOnly && (bk.owner.bind (place r.codes)).isSome } := by
  have howner : (if (bk.owner.bind (place r.codes)).isSome then bk.owner else none).isSome = (bk.owner.bind (place r.codes)).isSome := by
    cases bk.owner with
    | none => rfl
    | some n =>
      show (if (place r.codes n).isSome then some n else none).isSome = (place r.codes n).isSome
      cases place r.codes n <;> rfl
  simp only [mendBooking, howner]

/-- The settings of power-on, the strap's address among them (R170, R185). -/
theorem strapped_settings (strap : Bool) (bad : List RecKey) (r : Records) : (strapped strap (mended (survived bad r))).settings =
    { address := if strap = true ∨ .setting .address ∈ bad then 1 else r.settings.address
      plan := if .setting .plan ∈ bad then .single else r.settings.plan
      mount := if .setting .mount ∈ bad then .floor else r.settings.mount
      defmode := if .setting .defmode ∈ bad then .standard else r.settings.defmode
      condint := if .setting .condint ∈ bad then 240 else r.settings.condint
      autoscan := if .setting .autoscan ∈ bad then true else r.settings.autoscan
      prewarm := if .setting .prewarm ∈ bad then 3 else r.settings.prewarm
      grace := if .setting .grace ∈ bad then 10 else r.settings.grace
      idle := if .setting .idle ∈ bad then 20 else r.settings.idle
      idlelock := if .setting .idlelock ∈ bad then .panel else r.settings.idlelock } := by
  have hset : (strapped strap (mended (survived bad r))).settings =
      { settingsUnder bad r.settings with address := if strap = true then 1 else (settingsUnder bad r.settings).address } := by
    rw [← defaulted_settings, ← survived_settings]
    cases strap <;> rfl
  rw [hset]
  cases strap <;> simp [settingsUnder]

/-- Settles O5. -/
theorem powerOnAsShipped : Obligations.PowerOnAsShipped := by
  refine ⟨fun s h => congrArg Host.Outcome.next (powerUp_shipped h), fun inp s => ⟨powerUp inp s, rfl, ?_⟩⟩
  intro r bad exs
  have hexs : (defaulted bad r).exceptions = exs := defaulted_exceptions
  obtain ⟨hstored, hunreadable, hunsaved⟩ := writeBacks_kept (restored inp r).2.2 (poweredState inp (restored inp r).1 (restored inp r).2.1 s)
  rw [← powerUp_store inp s] at hstored hunreadable hunsaved
  obtain ⟨t, ht⟩ : ∃ t, t = powerUp inp s := ⟨_, rfl⟩
  have hwork : t.work = strapped inp.strap (mended (survived bad r)) := ht ▸ powerUp_work inp s
  have hrequested : t.mode.requested = t.work.settings.defmode := by
    rw [hwork, ht]
    exact powerUp_requested inp s
  have hunderway : ∀ k ∈ t.store.unsaved, Underway t k := fun k hk => by
    rw [ht, hunsaved] at hk
    have h : Underway (writeBacks (restored inp r).2.2 (poweredState inp (restored inp r).1 (restored inp r).2.1 s)) k :=
      writeBacks_underway rfl (.inl (List.mem_append_left _ hk))
    rw [Underway, ← powerUp_store inp s, ← ht] at h
    exact h
  rw [← ht] at hstored hunreadable hunsaved ⊢
  have hprofiles : t.work.profiles = (survived bad r).profiles := by rw [hwork, strapped_rest]; rfl
  have hcodes : t.work.codes = (survived bad r).codes := by rw [hwork, strapped_rest]; rfl
  have hmaster : t.work.master = (survived bad r).master := by rw [hwork, strapped_rest]; rfl
  have hbookings (n : Nat) : place t.work.bookings n = (place (survived bad r).bookings n).map (mendBooking (survived bad r)) := by
    rw [hwork, strapped_rest]
    exact place_map _ _ n
  have hprofileAt (n : Nat) : profileAt t n = place (survived bad r).profiles n := congrArg (place · n) hprofiles
  refine ⟨hstored, hunreadable, hrequested, fun b => ?_, ?_, ?_, ?_, fun hlen n => ?_, fun hlen n => ?_, ?_, fun n p hn hp => ?_,
    fun n c hn hc => ?_, fun n bk hn hbk => ?_, ?_, fun k hk => ?_, hunderway⟩
  · rw [lampRec, hwork, strapped_rest, mended, survived_eq]
    exact defaulted_lamps b
  · rw [hwork, strapped_rest, mended, survived_eq]
    exact defaulted_ceiling
  · rw [hwork, strapped_rest, mended, survived_eq]
    exact defaulted_limits
  · rw [hwork]
    exact strapped_settings ..
  · rw [hwork, strapped_rest, mended, survived_eq]
    exact defaulted_filters hlen
  · rw [hwork, strapped_rest, mended, survived_eq]
    exact defaulted_masks hlen
  · rw [hmaster, survived_master]
    exact defaulted_master
  · rw [hprofileAt]
    exact profile_survives hn hp
  · rw [hcodes, hmaster]
    exact code_survives hn hc
  · obtain ⟨hstays, hgone⟩ := booking_survives (bad := bad) hn hbk
    rw [hexs] at hstays hgone
    refine ⟨fun hb hfree => ?_, fun h => ?_⟩
    · rw [hbookings, hstays hb hfree]
      have hat : profileAt t = place (survived bad r).profiles := funext hprofileAt
      rw [hat, hcodes]
      exact congrArg some (mendBooking_eq _ bk)
    · rw [hbookings, hgone (h.imp_right ?_)]
      · rfl
      · rintro ⟨m, bk', d, hm, hbk', hstays', hrest⟩
        refine ⟨m, bk', d, hm, hbk', fun e => hstays' ?_, hrest⟩
        rw [hbookings, e]
        rfl
  · have hkept : t.work.exceptions = (survived bad r).exceptions.filter (excStands (survived bad r)) := by
      rw [hwork, strapped_rest]
      rfl
    rw [hkept, survived_exceptions, hexs]
    refine List.filter_congr fun e _ => ?_
    rw [excStands, hbookings]
    cases place (survived bad r).bookings e.booking <;> rfl
  · rw [hunsaved]
    refine (mem_gone (bad := bad) (r := r) hk).trans ?_
    have hnone (n : Nat) : place t.work.bookings n = none ↔ place (survived bad r).bookings n = none := by
      rw [hbookings, Option.map_eq_none_iff]
    simp only [hprofileAt, hcodes, hnone]

end Sys2Proof.Restored

/-! PROOFS. RESTART: the schedule's operations on lamps that it may not put out, the blocks it restores, and its records (O51). -/

namespace Sys2Proof.Restarting

open Sys2Proof Sys2Proof.Machine Sys2Proof.Upkeep Sys2Proof.Steps Sys2Proof.Lamps Sys2Proof.Counts Sys2Proof.Picture Sys2Proof.Refusals
  Sys2Proof.Accepted Sys2Proof.LampOrders Sys2Proof.Agenda Sys2Proof.BookingOrders Sys2Proof.Endings Sys2Proof.Frames Sys2Proof.Taken

set_option Elab.async false

variable {x y z s t w : State} {b : Bay} {c : HallClock}

/-! ## A demand that holds every bay in use -/

/-- Every bay in use is wanted, and the demand has room for all of them. -/
structure Steadfast (x : State) : Prop where
  wanted : ∀ b, (bay x b).st.inUse = true → x.lamp.wanted.get b = true
  one : ∀ b, (bay x b).st.inUse = true → 1 ≤ x.lamp.count
  two : (bay x .bayA).st.inUse = true → (bay x .bayB).st.inUse = true → 2 ≤ x.lamp.count

theorem Steadfast.of_lamp (h : Steadfast x) (e : y.lamp = x.lamp) : Steadfast y := by
  have hbay : ∀ b, bay y b = bay x b := fun b => by rw [bay, bay, e]
  constructor
  · simpa only [hbay, e] using h.wanted
  · simpa only [hbay, e] using h.one
  · simpa only [hbay, e] using h.two

/-- Where one bay alone is in use and eligible, the choice for a count of 1 is that bay. -/
theorem chooseBay_alone (h : eligible x b = true) (hb : (bay x b).st.inUse = true) (ho : (bay x b.other).st.inUse = false) :
    chooseBay x = some b := by
  unfold chooseBay pickBay
  cases b <;> simp_all [Bay.other]

/-- The choice for a steadfast demand takes every bay in use. -/
theorem chosenSet_keeps (h : Steadfast x) (hb : (bay x b).st.inUse = true) : (chosenSet x).get b = true := by
  have he : eligible x b = true := by simp [eligible, h.wanted b hb, hb]
  have h1 := h.one b hb
  obtain ⟨-, -, hmany, -⟩ := chosenSet_right x
  by_cases h2 : 2 ≤ x.lamp.count
  · rw [hmany h2, he]
  · have hcount : x.lamp.count = 1 := by omega
    have ho : (bay x b.other).st.inUse = false := by
      by_contra hin
      have hin := eq_true_of_ne_false hin
      cases b
      · exact h2 (h.two hb hin)
      · exact h2 (h.two hin hb)
    simp [chosenSet, hcount, chooseBay_alone he hb ho]

/-- A steadfast demand formed anew puts no bay out. -/
theorem bay_formWanted (h : Steadfast x) (b : Bay) : bay (formWanted x) b = bay x b := by
  rw [formWanted, bay_putWanted, if_neg]
  rintro ⟨hlit, hout⟩
  rw [chosenSet_keeps h (by rw [hlit]; rfl)] at hout
  cases hout

theorem formWanted_steadfast (h : Steadfast x) : Steadfast (formWanted x) := by
  obtain ⟨hcount, -, hwanted, -⟩ := formWanted_rest x
  refine ⟨fun b hb => ?_, ?_, ?_⟩
  · rw [bay_formWanted h] at hb
    rw [hwanted]
    exact chosenSet_keeps h hb
  · simpa only [bay_formWanted h, hcount] using h.one
  · simpa only [bay_formWanted h, hcount] using h.two

/-! ## What an operation of the schedule leaves of the lamps, the modes and the locks -/

/-- The lamps after an operation that puts no bay out: the bays stand, the demand is still steadfast, and it has not fallen. -/
structure Kindled (x y : State) : Prop where
  bays : ∀ b, bay y b = bay x b
  steadfast : Steadfast y
  count : x.lamp.count ≤ y.lamp.count
  withheld : x.lock.maint = true → y.lamp.count = x.lamp.count

/-- What every operation of the schedule leaves: the Mode Unit but for the requested mode, and the standing of the lock. -/
structure Onward (x y : State) : Prop where
  mode : { y.mode with requested := x.mode.requested } = x.mode
  maint : y.lock.maint = x.lock.maint
  attempts : y.lock.attempts = x.lock.attempts
  unlocked : x.lock.unlocked = false → y.lock.unlocked = false
  mute : x.sel.muteUser = false → y.sel.muteUser = false

/-- The same for an operation that puts no bay out where the demand is steadfast. -/
structure Alight (x y : State) : Prop where
  onward : Onward x y
  lamp : Steadfast x → Kindled x y

theorem Onward.trans (h : Onward x y) (h' : Onward y z) : Onward x z where
  mode := by
    have e := congrArg (fun m : ModeUnit => { m with requested := x.mode.requested }) h'.mode
    exact e.trans h.mode
  maint := h'.maint.trans h.maint
  attempts := h'.attempts.trans h.attempts
  unlocked hx := h'.unlocked (h.unlocked hx)
  mute hx := h'.mute (h.mute hx)

theorem Alight.trans (h : Alight x y) (h' : Alight y z) : Alight x z where
  onward := h.onward.trans h'.onward
  lamp hx := by
    have h1 := h.lamp hx
    have h2 := h'.lamp h1.steadfast
    exact ⟨fun b => (h2.bays b).trans (h1.bays b), h2.steadfast, h1.count.trans h2.count, fun hm =>
      (h2.withheld (h.onward.maint.trans hm)).trans (h1.withheld hm)⟩

/-- An operation that leaves the lamps alone. -/
theorem Onward.alight (h : Onward x y) (hl : y.lamp = x.lamp := by simp) : Alight x y where
  onward := h
  lamp hx := ⟨fun b => by rw [bay, bay, hl], hx.of_lamp hl, by rw [hl], fun _ => by rw [hl]⟩

theorem Onward.of_same (h1 : y.mode = x.mode := by simp) (h2 : y.lock = x.lock := by simp) (h3 : y.sel = x.sel := by simp) :
    Onward x y :=
  ⟨by rw [h1], by rw [h2], by rw [h2], by rw [h2]; exact id, by rw [h3]; exact id⟩

theorem Alight.of_same (h1 : y.mode = x.mode := by simp) (h2 : y.lock = x.lock := by simp) (h3 : y.sel = x.sel := by simp)
    (h4 : y.lamp = x.lamp := by simp) : Alight x y := (Onward.of_same h1 h2 h3).alight h4

theorem Alight.refl (x : State) : Alight x x := .of_same rfl rfl rfl rfl

theorem Alight.ite {p : Prop} [Decidable p] (hy : Alight x y) (hz : Alight x z) : Alight x (if p then y else z) := by
  split
  · exact hy
  · exact hz

theorem notify_alight (k : NoticeKind) (w : Subject) (l : List String) (x : State) : Alight x (notify k w l x) := .of_same
theorem modSched_alight (f : Sched → Sched) (x : State) : Alight x (modSched f x) := .of_same
theorem clearUnlocked_alight (x : State) : Alight x (clearUnlocked x) :=
  Onward.alight (y := clearUnlocked x) ⟨rfl, rfl, rfl, fun _ => rfl, id⟩ rfl

/-- A raise of a steadfast demand outside Maintenance. -/
theorem raise_alight (o : DemandOrigin) (n : Nat) (hm : x.lock.maint = false) : Alight x (raise o n x) where
  onward := .of_same
  lamp hx := by
    rcases Nat.lt_or_ge x.lamp.count n with hlt | hge
    · rw [raise_more hlt]
      have hle : x.lamp.count ≤ n := hlt.le
      have hmore : Steadfast { x with lamp := { x.lamp with count := n, origin := o } } :=
        ⟨hx.wanted, fun b hb => (hx.one b hb).trans hle, fun ha hb => (hx.two ha hb).trans hle⟩
      refine ⟨bay_formWanted hmore, formWanted_steadfast hmore, ?_, fun h => ?_⟩
      · rw [(formWanted_rest _).1]
        exact hle
      · rw [hm] at h
        cases h
    · rw [raise_same hge]
      exact (Alight.refl x).lamp hx

theorem takeRequest_mute (p : VPort) (n : Option Nat) (o : SwOrigin) (x : State) :
    (takeRequest p n o x).sel.muteUser = x.sel.muteUser := by
  unfold takeRequest
  split
  · rfl
  · split <;> rfl

theorem scheduleRequest_alight (n : Option Nat) (x : State) : Alight x (scheduleRequest n x) :=
  Onward.alight ⟨by simp, by simp, by simp, by simp, by
    unfold scheduleRequest
    split
    · rw [takeRequest_mute]
      exact id
    · exact id⟩

theorem bookedMode_alight (bk : Booking) (x : State) : Alight x (bookedMode bk x) := by
  unfold bookedMode
  split
  · exact Onward.alight ⟨rfl, rfl, rfl, id, id⟩ rfl
  · exact .refl x

theorem clearPresenter_alight (x : State) : Alight x (clearPresenter x) :=
  Onward.alight ⟨by simp [clearPresenter], by simp [clearPresenter], by simp [clearPresenter], by simp [clearPresenter],
    by simp [clearPresenter]⟩ (by simp [clearPresenter])

theorem runningRaise_alight (r : Bool) (o : Occ) (bk : Booking) (hm : x.lock.maint = false) : Alight x (runningRaise r o bk x) :=
  .ite ((raise_alight _ _ hm).trans (modSched_alight ..)) (.refl x)

theorem runningEffects_alight (r : Bool) (o : Occ) (bk : Booking) (hm : x.lock.maint = false) :
    Alight x (runningEffects r o bk x) :=
  (runningRaise_alight r o bk hm).trans ((bookedMode_alight bk _).trans ((scheduleRequest_alight _ _).trans
    ((clearUnlocked_alight _).trans (clearPresenter_alight _))))

theorem runningNotice_alight (x : State) : Alight x (runningNotice x) := by
  unfold runningNotice
  split
  · exact notify_alight ..
  · exact .refl x

theorem runningActions_alight (r l : Bool) (x : State) : Alight x (runningActions r l x) := by
  unfold runningActions
  split
  · exact .refl x
  · split
    · exact .refl x
    · split
      · exact modSched_alight ..
      · rename_i hw
        rw [withheld_eq, Bool.not_eq_true] at hw
        exact (runningEffects_alight _ _ _ hw).trans ((modSched_alight ..).trans (runningNotice_alight _))

theorem prewarmActions_alight (x : State) : Alight x (prewarmActions x) := by
  unfold prewarmActions
  split
  · exact .refl x
  · split
    · exact .refl x
    · rename_i hw
      rw [withheld_eq, Bool.not_eq_true] at hw
      refine Alight.trans ?_ (notify_alight ..)
      split
      · exact .ite ((raise_alight _ _ hw).trans (modSched_alight ..)) (.refl x)
      · exact .refl x

/-- What a retirement leaves: the lamps, the picture, the modes and the locks. -/
abbrev Retires (x y : State) : Prop := y.lamp = x.lamp ∧ y.sel = x.sel ∧ y.mode = x.mode ∧ y.lock = x.lock

theorem retires_trans (h : Retires x y) (h' : Retires y z) : Retires x z := by
  obtain ⟨h1, h2, h3, h4⟩ := h
  rwa [Retires, h1, h2, h3, h4] at h'

theorem writeExceptions_retires (l : List Exc) (x : State) : Retires x (writeExceptions l x) := by
  unfold writeExceptions
  split <;> simp [Retires]

theorem retireBooking_retires (n : Nat) (x : State) : Retires x (retireBooking n x) := by
  unfold retireBooking
  exact retires_trans (y := askOwn (.booking n) (emptyBooking n x)) (by simp [Retires, emptyBooking]) (writeExceptions_retires ..)

theorem retireIfPast_retires (c : HallClock) (x : State) (n : Nat) : Retires x (retireIfPast c x n) := by
  unfold retireIfPast
  split
  · split
    · exact retireBooking_retires n x
    · exact ⟨rfl, rfl, rfl, rfl⟩
  · exact ⟨rfl, rfl, rfl, rfl⟩

theorem retirePast_retires (c : HallClock) (x : State) : Retires x (retirePast c x) := by
  have hfold (l : List Nat) (y : State) : Retires y (l.foldl (retireIfPast c) y) := by
    induction l generalizing y with
    | nil => exact ⟨rfl, rfl, rfl, rfl⟩
    | cons n l ih => exact retires_trans (retireIfPast_retires c y n) (ih _)
  exact retires_trans (hfold (filled x.work.bookings) x) (writeExceptions_retires _ (putExceptions _ _))

theorem retires_alight (h : Retires x y) : Alight x y := by
  obtain ⟨hlamp, hsel, hmode, hlock⟩ := h
  exact .of_same hmode hlock hsel hlamp

theorem enterRunning_alight (n : Nat) (bk : Booking) (d : Date) (l : Bool) (x : State) : Alight x (enterRunning n bk d l x) := by
  unfold enterRunning
  exact (modSched_alight _ x).trans (runningActions_alight ..)
theorem enterPrewarm_alight (n : Nat) (bk : Booking) (d : Date) (x : State) : Alight x (enterPrewarm n bk d x) :=
  (modSched_alight ..).trans (prewarmActions_alight _)
theorem enterGrace_alight (x : State) : Alight x (enterGrace x) := by
  unfold enterGrace
  split
  · exact .refl x
  · exact (modSched_alight ..).trans (.ite (.refl _) ((clearUnlocked_alight _).trans (notify_alight ..)))
theorem retireEnded_alight (o : Occ) (x : State) : Alight x (retireEnded o x) := by
  unfold retireEnded
  split
  · exact .ite (retires_alight (retireBooking_retires ..)) (.refl x)
  · exact .refl x
theorem endActive_alight (x : State) : Alight x (endActive x) := by
  unfold endActive
  split
  · exact .refl x
  · exact (modSched_alight ..).trans ((retireEnded_alight ..).trans (.ite (.refl _) (notify_alight ..)))

/-! ## The evaluation -/

theorem evalRunningEnds_alight (c : HallClock) (x : State) : Alight x (evalRunningEnds c x) := by
  unfold evalRunningEnds
  split
  · exact .ite (.ite (enterGrace_alight x) (endActive_alight x)) (.refl x)
  · exact .refl x
theorem evalRunningBegins_alight (c : HallClock) (e : Bool) (x : State) : Alight x (evalRunningBegins c e x) := by
  unfold evalRunningBegins
  split
  · exact .refl x
  · split
    · exact enterRunning_alight ..
    · exact .refl x
theorem evalPrewarmBegins_alight (c : HallClock) (x : State) : Alight x (evalPrewarmBegins c x) := by
  unfold evalPrewarmBegins
  split
  · exact .refl x
  · split
    · exact enterPrewarm_alight ..
    · exact .refl x

/-- The judgement of the records but for its drop. -/
def judgedRecords (c : HallClock) (edge : Bool) (x : State) : State :=
  let s1 := evalRunningEnds c x
  let s2 := if graceOver c s1 then endActive s1 else s1
  evalPrewarmBegins c (evalRunningBegins c edge (evalNextInGrace c s2))

theorem judgedRecords_alight (c : HallClock) (e : Bool) (x : State) : Alight x (judgedRecords c e x) :=
  (evalRunningEnds_alight c x).trans (Alight.trans (.ite (endActive_alight _) (.refl _))
    (Alight.trans (.ite (endActive_alight _) (.refl _)) ((evalRunningBegins_alight ..).trans (evalPrewarmBegins_alight ..))))

theorem judgeRecords_eq (c : HallClock) (e : Bool) (x : State) :
    judgeRecords c e x = if graceOver c (evalRunningEnds c x) then scheduleDrop (judgedRecords c e x) else judgedRecords c e x := rfl

theorem withLock_notices (f : State → State) (x : State) : ∃ q, withLock f x = { f x with notices := q } := by
  unfold withLock
  dsimp only
  split
  · exact ⟨_, rfl⟩
  · exact ⟨_, rfl⟩

/-- An evaluation leaves the bays in use alight, or ends with the schedule's drop, where no record calls. -/
theorem evaluate_alight (e : Bool) (x : State) : Alight x (evaluate e x) ∨
    ∃ v q, Alight x v ∧ recordCalls v = false ∧ v.lock.maint = false ∧ evaluate e x = { drop .schedule v with notices := q } := by
  unfold evaluate
  split
  · exact .inl (.refl x)
  · rename_i c hc
    obtain ⟨q, hq⟩ := withLock_notices (fun x => judgeRecords c e (retirePast c x)) x
    have hjudged := (retires_alight (retirePast_retires c x)).trans (judgedRecords_alight c e (retirePast c x))
    rw [hq, judgeRecords_eq]
    by_cases hover : graceOver c (evalRunningEnds c (retirePast c x)) = true
    · rw [if_pos hover]
      by_cases hdrop : (recordCalls (judgedRecords c e (retirePast c x)) || withheld (judgedRecords c e (retirePast c x))) = true
      · left
        rw [scheduleDrop, if_pos hdrop]
        exact hjudged.trans (.of_same rfl rfl rfl rfl)
      · right
        rw [Bool.not_eq_true, Bool.or_eq_false_iff, withheld_eq] at hdrop
        exact ⟨_, q, hjudged, hdrop.1, hdrop.2, by rw [scheduleDrop_drops hdrop.1 (by rw [withheld_eq, hdrop.2])]⟩
    · left
      rw [if_neg hover]
      exact hjudged.trans (.of_same rfl rfl rfl rfl)

theorem retakeActions_alight (x : State) : Alight x (retakeActions x) :=
  Alight.trans (.ite (runningActions_alight ..) (.refl x)) (prewarmActions_alight _)

/-- With no record that calls there is no action to take again. -/
theorem retakeActions_idle (h : recordCalls x = false) : retakeActions x = x := by
  obtain ⟨hup, hact⟩ := Bool.or_eq_false_iff.1 h
  have hrun : activeIn x .running = false := by
    rw [← hact]
    rfl
  have hnone : x.sched.upcoming = none := by simpa using hup
  simp [retakeActions, hrun, prewarmActions, hnone]

/-- The schedule at RESTART leaves the bays in use alight, or ends with its drop. -/
theorem restartSchedule_alight (x : State) : Alight x (restartSchedule x) ∨
    ∃ v q, Alight x v ∧ v.lock.maint = false ∧ restartSchedule x = { drop .schedule v with notices := q } := by
  have hidle : Alight x (modSched (fun y => { y with idle := 0 }) x) := modSched_alight ..
  rcases evaluate_alight false (modSched (fun y => { y with idle := 0 }) x) with h | ⟨v, q, hv, hcalls, hm, he⟩
  · exact .inl (hidle.trans (h.trans (retakeActions_alight _)))
  · refine .inr ⟨v, q, hidle.trans hv, hm, ?_⟩
    have hstill : recordCalls { drop .schedule v with notices := q } = false := by
      have hsched : (drop .schedule v).sched = v.sched := by simp
      simpa only [recordCalls, hsched] using hcalls
    rw [restartSchedule, he, retakeActions_idle hstill]

/-! ## The bays at RESTART -/

/-- What no step of the Lamp Controller's restart touches. -/
abbrev Lampwise (x y : State) : Prop :=
  y.uptime = x.uptime ∧ y.pins = x.pins ∧ y.work = x.work ∧ y.mode = x.mode ∧ y.heat = x.heat ∧ y.sel = x.sel ∧ y.sched = x.sched ∧
    y.lock = x.lock

theorem lampwise_trans (h : Lampwise x y) (h' : Lampwise y z) : Lampwise x z := by
  obtain ⟨h1, h2, h3, h4, h5, h6, h7, h8⟩ := h
  rwa [Lampwise, h1, h2, h3, h4, h5, h6, h7, h8] at h'

theorem strikingEnds_lampwise (b : Bay) (x : State) : Lampwise x (strikingEnds b x) := by
  unfold strikingEnds
  split <;> simp [Lampwise, leaveStriking]

theorem restartBay_lampwise (b : Bay) (x : State) : Lampwise x (restartBay b x) := by
  unfold restartBay
  dsimp only
  refine lampwise_trans (strikingEnds_lampwise b x) ?_
  split <;> simp [Lampwise]

theorem restartNotice_notices (b : Bay) (x : State) : ∃ q, restartNotice b x = { x with notices := q } := by
  unfold restartNotice
  split
  · exact ⟨_, rfl⟩
  · exact ⟨_, rfl⟩

theorem restartCause_lampwise (b : Bay) (x : State) : Lampwise x (restartCause b x) := by
  unfold restartCause
  split <;> simp [Lampwise]

/-- A bay after its own step of RESTART (R25). -/
def bayAfter (x : State) (b : Bay) : BayCtl :=
  { bay x b with
    st := stateAfter (bay x b).st (x.pins.lit.get b) x.lock.maint
    timer := timerAfter x (stateAfter (bay x b).st (x.pins.lit.get b) x.lock.maint)
    causeMark := false
    stamp := none
    burnSince := if (bay x b).st = .striking then x.uptime else (bay x b).burnSince
    lastExt := if (bay x b).st.burning && !(stateAfter (bay x b).st (x.pins.lit.get b) x.lock.maint).burning then some x.uptime
      else (bay x b).lastExt }

theorem bayAfter_congr (hb : bay y b = bay x b) (hu : y.uptime = x.uptime) (hp : y.pins = x.pins) (hl : y.lock = x.lock) :
    bayAfter y b = bayAfter x b := by
  simp only [bayAfter, timerAfter, hb, hu, hp, hl]

theorem bay_leaveBurning (b a : Bay) (x : State) :
    bay (leaveBurning b x) a = if a = b then { bay x a with lastExt := some x.uptime } else bay x a := by
  rw [bay, leaveBurning_lamp]
  exact bay_modBay b a _ x

theorem bay_strikingEnds (b a : Bay) (x : State) : bay (strikingEnds b x) a = bay x a := by
  unfold strikingEnds
  split <;> rfl

theorem bay_restartBay (b a : Bay) (x : State) : bay (restartBay b x) a = if a = b then bayAfter x b else bay x a := by
  have hup : (strikingEnds b x).uptime = x.uptime := (strikingEnds_lampwise b x).1
  unfold restartBay bayAfter
  dsimp only
  by_cases hab : a = b
  · subst hab
    split <;> simp [bay_leaveBurning, bay_strikingEnds, *]
  · split <;> simp [bay_leaveBurning, bay_modBay, bay_strikingEnds, hab]

/-- The state of the bays and of the demand after the first steps of RESTART. -/
def baysRestarted (x : State) : State := restartDemand (restartBay .bayB (restartBay .bayA x))

theorem bay_baysRestarted (b : Bay) (x : State) : bay (baysRestarted x) b = bayAfter x b := by
  have h : bay (baysRestarted x) b = bay (restartBay .bayB (restartBay .bayA x)) b := rfl
  obtain ⟨hu, hp, -, -, -, -, -, hl⟩ := restartBay_lampwise .bayA x
  rw [h, bay_restartBay, bay_restartBay]
  cases b
  · simp
  · rw [if_pos rfl]
    exact bayAfter_congr (by rw [bay_restartBay, if_neg (by decide)]) hu hp hl

theorem baysRestarted_lampwise (x : State) : Lampwise x (baysRestarted x) :=
  lampwise_trans (restartBay_lampwise .bayA x) (restartBay_lampwise .bayB _)

/-- The number of bays that burn after RESTART. -/
def burningAfter (x : State) : Nat :=
  (if (bayAfter x .bayA).st.burning then 1 else 0) + (if (bayAfter x .bayB).st.burning then 1 else 0)

theorem baysRestarted_demand (x : State) : (baysRestarted x).lamp.count = burningAfter x ∧ (baysRestarted x).lamp.origin = .restart ∧
    ∀ b, (baysRestarted x).lamp.wanted.get b = (bayAfter x b).st.burning := by
  have h : ∀ b, bay (restartBay .bayB (restartBay .bayA x)) b = bayAfter x b := fun b => bay_baysRestarted b x
  refine ⟨?_, rfl, fun b => ?_⟩
  · rw [burningAfter, ← h, ← h]
    rfl
  · rw [← h]
    cases b <;> rfl

/-- No bay is Striking after RESTART. -/
theorem bayAfter_inUse (x : State) (b : Bay) : (bayAfter x b).st.inUse = (bayAfter x b).st.burning := by
  simp only [bayAfter]
  unfold stateAfter
  split <;> (try split) <;> rfl

theorem baysRestarted_steadfast (x : State) : Steadfast (baysRestarted x) := by
  obtain ⟨hcount, -, hwanted⟩ := baysRestarted_demand x
  constructor
  · intro b hb
    rwa [hwanted, ← bayAfter_inUse, ← bay_baysRestarted]
  · intro b hb
    rw [bay_baysRestarted, bayAfter_inUse] at hb
    rw [hcount, burningAfter]
    cases b <;> rw [if_pos hb] <;> omega
  · intro ha hb
    rw [bay_baysRestarted, bayAfter_inUse] at ha hb
    rw [hcount, burningAfter, if_pos ha, if_pos hb]

/-! ## The bays that an open door or a ballast fault puts out -/

/-- A bay that burns with its door open or its ballast fault asserted. -/
def hasCause (x : State) (b : Bay) : Bool := (bay x b).st.burning && (x.pins.door.get b || x.pins.ballast.get b)

/-- A bay put out by its cause at RESTART. -/
def putOut (x : State) (b : Bay) (y : BayCtl) : BayCtl :=
  { y with st := .cooling, timer := some (x.uptime + 90000), lastExt := some x.uptime, causeMark := true,
           doorFault := y.doorFault || x.pins.door.get b }

/-- The state between the extinguish of a bay with a cause and the failover. -/
def caused (b : Bay) (x : State) : State :=
  let z := modBay b (fun y => { y with causeMark := true })
    (forceOut b (modBay b (fun y => { y with doorFault := y.doorFault || x.pins.door.get b }) x))
  { z with lamp := { z.lamp with wanted := z.lamp.wanted.set b false } }

theorem forceOut_burning (h : (bay x b).st.burning = true) : forceOut b x = extinguish b x := by
  unfold forceOut
  split <;> simp_all [BaySt.burning]

theorem bay_caused (h : (bay x b).st.burning = true) (a : Bay) :
    bay (caused b x) a = if a = b then putOut x b (bay x a) else bay x a := by
  have hb : (bay (modBay b (fun y => { y with doorFault := y.doorFault || x.pins.door.get b }) x) b).st.burning = true := by
    rwa [bay_modBay_self]
  have hz : bay (caused b x) a = bay (modBay b (fun y => { y with causeMark := true })
    (forceOut b (modBay b (fun y => { y with doorFault := y.doorFault || x.pins.door.get b }) x))) a := rfl
  rw [hz, forceOut_burning hb, bay_modBay, bay_extinguish, bay_modBay]
  split <;> rfl

theorem caused_rest (b : Bay) (x : State) :
    (caused b x).lamp.count = x.lamp.count ∧ (caused b x).lamp.wanted = x.lamp.wanted.set b false := by
  have h := forceOut_rest b (modBay b (fun y => { y with doorFault := y.doorFault || x.pins.door.get b }) x)
  refine ⟨h.1, ?_⟩
  simp only [caused, modBay_rest, h.2.1]

theorem caused_steadfast (h : Steadfast x) (hb : (bay x b).st.burning = true) : Steadfast (caused b x) := by
  obtain ⟨hcount, hwanted⟩ := caused_rest b x
  have hout : (bay (caused b x) b).st.inUse = false := by rw [bay_caused hb, if_pos rfl]; rfl
  have hother : ∀ a, (bay (caused b x) a).st.inUse = true → a ≠ b ∧ (bay x a).st.inUse = true := by
    intro a ha
    have hab : a ≠ b := by
      rintro rfl
      rw [hout] at ha
      cases ha
    rw [bay_caused hb, if_neg hab] at ha
    exact ⟨hab, ha⟩
  refine ⟨fun a ha => ?_, fun a ha => ?_, fun hA hB => ?_⟩
  · rw [hwanted, PerBay.get_set, if_neg (hother a ha).1]
    exact h.wanted a (hother a ha).2
  · rw [hcount]
    exact h.one a (hother a ha).2
  · cases b
    · exact absurd rfl (hother _ hA).1
    · exact absurd rfl (hother _ hB).1

theorem restartCause_eq (h : Steadfast x) (hc : hasCause x b = true) : restartCause b x = formWanted (caused b x) := by
  have hburn : (bay x b).st.burning = true := (Bool.and_eq_true_iff.1 hc).1
  have huse : (bay x b).st.inUse = true := by
    cases hst : (bay x b).st <;> simp_all [BaySt.burning, BaySt.inUse]
  set y := modBay b (fun y => { y with doorFault := y.doorFault || x.pins.door.get b }) x with hy
  have huse' : (bay y b).st.inUse = true := by rwa [hy, bay_modBay_self]
  have hwanted : y.lamp.wanted.get b = true := h.wanted b huse
  have hz : (modBay b (fun y => { y with causeMark := true }) (forceOut b y)).lamp.wanted.get b = true := by
    rw [(modBay_rest ..).2.2.1, (forceOut_rest b y).2.1, hwanted]
  have hcount : (caused b x).lamp.count ≠ 0 := by
    have h1 := h.one b huse
    rw [(caused_rest b x).1]
    omega
  have hc' : ((bay x b).st.burning && (x.pins.door.get b || x.pins.ballast.get b)) = true := hc
  rw [restartCause, if_pos hc', ← hy, outByCause_wanted huse' hwanted, leaveWanted, if_pos hz]
  exact if_neg hcount

theorem restartCause_none (hc : hasCause x b = false) : restartCause b x = x := by
  rw [restartCause, if_neg]
  exact fun h => by rw [hasCause, h] at hc; cases hc

/-- A bay with a cause goes out, and every other bay stays. -/
theorem bay_restartCause (h : Steadfast x) (b a : Bay) :
    bay (restartCause b x) a = if a = b ∧ hasCause x b = true then putOut x b (bay x a) else bay x a := by
  cases hc : hasCause x b
  · rw [restartCause_none hc, if_neg (by simp)]
  · have hburn : (bay x b).st.burning = true := (Bool.and_eq_true_iff.1 hc).1
    rw [restartCause_eq h hc, bay_formWanted (caused_steadfast h hburn), bay_caused hburn]
    simp

theorem restartCause_steadfast (h : Steadfast x) (b : Bay) : Steadfast (restartCause b x) := by
  cases hc : hasCause x b
  · rwa [restartCause_none hc]
  · rw [restartCause_eq h hc]
    exact formWanted_steadfast (caused_steadfast h (Bool.and_eq_true_iff.1 hc).1)

theorem restartCause_demand (h : Steadfast x) (b : Bay) :
    (restartCause b x).lamp.count = x.lamp.count ∧ (restartCause b x).lamp.origin = x.lamp.origin := by
  cases hc : hasCause x b
  · rw [restartCause_none hc]
    exact ⟨rfl, rfl⟩
  · have horigin : (caused b x).lamp.origin = x.lamp.origin := by
      have hb : (bay (modBay b (fun y => { y with doorFault := y.doorFault || x.pins.door.get b }) x) b).st.burning = true := by
        rw [bay_modBay_self]
        exact (Bool.and_eq_true_iff.1 hc).1
      simp only [caused, forceOut_burning hb, modBay_rest, (extinguish_rest ..).2.1]
    rw [restartCause_eq h hc, (formWanted_rest _).1, (formWanted_rest _).2.1, (caused_rest b x).1, horigin]
    exact ⟨rfl, rfl⟩

/-! ## The Lamp Controller at RESTART -/

/-- A bay as RESTART leaves it, before the schedule (R25). -/
def bayRestarted (x : State) (b : Bay) : BayCtl :=
  if (bayAfter x b).st.burning && (x.pins.door.get b || x.pins.ballast.get b) then putOut x b (bayAfter x b) else bayAfter x b

theorem restartLamps_eq (x : State) :
    ∃ q, restartLamps x = restartCause .bayB (restartCause .bayA { baysRestarted x with notices := q }) := by
  obtain ⟨q, hq⟩ := restartNotice_notices .bayA (baysRestarted x)
  obtain ⟨r, hr⟩ := restartNotice_notices .bayB (restartNotice .bayA (baysRestarted x))
  refine ⟨r, ?_⟩
  rw [restartLamps, ← baysRestarted, hr, hq]

/-- The restarted bays with their notices placed. -/
structure Ready (x y : State) : Prop where
  steadfast : Steadfast y
  bays : ∀ b, bay y b = bayAfter x b
  same : Lampwise x y
  count : y.lamp.count = burningAfter x
  origin : y.lamp.origin = .restart
  wanted : ∀ b, y.lamp.wanted.get b = (bayAfter x b).st.burning

theorem baysRestarted_ready (x : State) (q : NoticeQ) : Ready x { baysRestarted x with notices := q } := by
  obtain ⟨h1, h2, h3⟩ := baysRestarted_demand x
  exact ⟨(baysRestarted_steadfast x).of_lamp rfl, fun b => bay_baysRestarted b x, baysRestarted_lampwise x, h1, h2, h3⟩

theorem bay_causes (h : Ready x y) (b : Bay) : bay (restartCause .bayB (restartCause .bayA y)) b = bayRestarted x b := by
  obtain ⟨hu, hp, -⟩ := restartCause_lampwise .bayA y
  obtain ⟨hux, hpx, -⟩ := h.same
  have hA : hasCause y .bayA = ((bayAfter x .bayA).st.burning && (x.pins.door.get .bayA || x.pins.ballast.get .bayA)) := by
    rw [hasCause, h.bays, hpx]
  have hB : hasCause (restartCause .bayA y) .bayB =
      ((bayAfter x .bayB).st.burning && (x.pins.door.get .bayB || x.pins.ballast.get .bayB)) := by
    rw [hasCause, bay_restartCause h.steadfast, if_neg (by simp), h.bays, hp, hpx]
  rw [bay_restartCause (restartCause_steadfast h.steadfast _), hB, bay_restartCause h.steadfast, hA, h.bays, bayRestarted]
  cases b <;> simp [putOut, hu, hp, hux, hpx]

theorem bay_restartLamps (x : State) (b : Bay) : bay (restartLamps x) b = bayRestarted x b := by
  obtain ⟨q, hq⟩ := restartLamps_eq x
  rw [hq]
  exact bay_causes (baysRestarted_ready x q) b

theorem restartLamps_steadfast (x : State) : Steadfast (restartLamps x) := by
  obtain ⟨q, hq⟩ := restartLamps_eq x
  rw [hq]
  exact restartCause_steadfast (restartCause_steadfast (baysRestarted_ready x q).steadfast _) _

theorem restartLamps_demand (x : State) : (restartLamps x).lamp.count = burningAfter x ∧ (restartLamps x).lamp.origin = .restart := by
  obtain ⟨q, hq⟩ := restartLamps_eq x
  have h := baysRestarted_ready x q
  have hA := restartCause_demand h.steadfast .bayA
  have hB := restartCause_demand (restartCause_steadfast h.steadfast .bayA) .bayB
  rw [hq]
  exact ⟨hB.1.trans (hA.1.trans h.count), hB.2.trans (hA.2.trans h.origin)⟩

theorem restartLamps_lampwise (x : State) : Lampwise x (restartLamps x) := by
  obtain ⟨q, hq⟩ := restartLamps_eq x
  rw [hq]
  exact lampwise_trans (baysRestarted_ready x q).same (lampwise_trans (restartCause_lampwise ..) (restartCause_lampwise ..))

/-- With no door open and no ballast fault the bays that burn are the wanted ones. -/
theorem restartLamps_wanted (x : State) (h : ∀ b, x.pins.door.get b = false ∧ x.pins.ballast.get b = false) (b : Bay) :
    (restartLamps x).lamp.wanted.get b = (bayAfter x b).st.burning := by
  obtain ⟨q, hq⟩ := restartLamps_eq x
  have hr := baysRestarted_ready x q
  have hnone : ∀ b, hasCause { baysRestarted x with notices := q } b = false := by
    intro b
    obtain ⟨-, hp, -⟩ := hr.same
    rw [hasCause, hp, (h b).1, (h b).2]
    simp
  rw [hq, restartCause_none (hnone .bayA), restartCause_none (hnone .bayB)]
  exact hr.wanted b

/-! ## The blocks at RESTART -/

/-- The part as RESTART leaves it before the schedule, from the state before. -/
structure Blocks (x y : State) : Prop where
  bays : ∀ b, bay y b = bayRestarted x b
  steadfast : Steadfast y
  count : y.lamp.count = burningAfter x
  origin : y.lamp.origin = .restart
  wanted : (∀ b, x.pins.door.get b = false ∧ x.pins.ballast.get b = false) → ∀ b, y.lamp.wanted.get b = (bayAfter x b).st.burning
  uptime : y.uptime = x.uptime
  temp : y.mode.temp = none
  used : y.mode.persistUsed = x.mode.persistUsed
  requested : y.mode.requested = x.mode.requested
  level : y.heat.level = .normal
  housing : y.heat.housing = x.heat.housing
  unlocked : y.lock.unlocked = false
  maint : y.lock.maint = x.lock.maint
  attempts : y.lock.attempts = x.lock.attempts
  sched : y.sched = x.sched
  work : y.work = { x.work with filters := y.work.filters, masks := y.work.masks }
  sel : y.sel.st = .noSignal ∧ y.sel.port = .p1 ∧ y.sel.noSigFrom = x.uptime ∧ y.sel.muteUser = false

theorem restoreKey_work (s : State) (r : Records) (k : RecKey) (hk : k ∈ filterKeys) :
    restoreKey s r k = { r with filters := (restoreKey s r k).filters, masks := (restoreKey s r k).masks } := by
  have hcopy : ∀ f : Records, copyRec k f r = { r with filters := (copyRec k f r).filters, masks := (copyRec k f r).masks } := by
    intro f
    rcases List.mem_append.1 hk with h | h
    · obtain ⟨n, -, rfl⟩ := List.mem_map.1 h
      rfl
    · obtain ⟨n, -, rfl⟩ := List.mem_map.1 h
      rfl
  unfold restoreKey
  split
  · exact hcopy _
  · exact hcopy _

theorem restoreKeys_work (s : State) (l : List RecKey) (h : ∀ k ∈ l, k ∈ filterKeys) (r : Records) :
    l.foldl (restoreKey s) r = { r with filters := (l.foldl (restoreKey s) r).filters, masks := (l.foldl (restoreKey s) r).masks } := by
  induction l generalizing r with
  | nil => rfl
  | cons k l ih =>
    have hk := restoreKey_work s r k (h k (by simp))
    have hl := ih (fun j hj => h j (by simp [hj])) (restoreKey s r k)
    rw [List.foldl_cons, hl, hk]

theorem restartFilters_work (x : State) :
    (restartFilters x).work = { x.work with filters := (restartFilters x).work.filters, masks := (restartFilters x).work.masks } := by
  have h : (restartFilters x).work = filterKeys.foldl (restoreKey x) x.work := writeBacks_work ..
  rw [h]
  exact restoreKeys_work x filterKeys (fun _ hk => hk) x.work

theorem writeBacks_rest (keys : List RecKey) (x : State) : (writeBacks keys x).heat = x.heat ∧ (writeBacks keys x).lock = x.lock ∧
    (writeBacks keys x).sched = x.sched ∧ (writeBacks keys x).sel = x.sel := by
  unfold writeBacks
  induction keys generalizing x with
  | nil => exact ⟨rfl, rfl, rfl, rfl⟩
  | cons k l ih => simpa using ih (askOwn k x)

theorem restartFilters_rest (x : State) : (restartFilters x).lamp = x.lamp ∧ (restartFilters x).uptime = x.uptime ∧
    (restartFilters x).mode = x.mode ∧ (restartFilters x).heat = x.heat ∧ (restartFilters x).lock = x.lock ∧
    (restartFilters x).sched = x.sched ∧ (restartFilters x).sel = x.sel :=
  ⟨writeBacks_lamp .., writeBacks_uptime .., Restored.writeBacks_mode .., (writeBacks_rest ..).1, (writeBacks_rest ..).2.1,
    (writeBacks_rest ..).2.2.1, (writeBacks_rest ..).2.2.2⟩

/-- The fallback taken up leaves the selector in its state on its port. -/
theorem handFallback_rest (x : State) : (handFallback x).mode = x.mode ∧ (handFallback x).heat = x.heat ∧
    (handFallback x).lock = x.lock ∧ (handFallback x).sched = x.sched ∧ (handFallback x).sel.st = x.sel.st ∧
    (handFallback x).sel.port = x.sel.port ∧ (handFallback x).sel.noSigFrom = x.sel.noSigFrom ∧
    (handFallback x).sel.muteUser = x.sel.muteUser := by
  simp [handFallback, judgeLoss]

/-- The picture's blocks at RESTART. -/
def pictureRestarted (x : State) : State := restartGeo (restartSel (restartFan x))

theorem pictureRestarted_rest (x : State) : (pictureRestarted x).lamp = x.lamp ∧ (pictureRestarted x).uptime = x.uptime ∧
    (pictureRestarted x).mode = x.mode ∧ (pictureRestarted x).heat.level = x.heat.level ∧
    (pictureRestarted x).heat.housing = x.heat.housing ∧ (pictureRestarted x).lock = x.lock ∧
    (pictureRestarted x).sched = x.sched ∧ (pictureRestarted x).work = x.work ∧
    (pictureRestarted x).sel = { State.reset.sel with noSigFrom := x.uptime } := ⟨rfl, rfl, rfl, rfl, rfl, rfl, rfl, rfl, rfl⟩

/-- The lock and the line at RESTART. -/
def lockRestarted (x : State) : State := restartLine (clearUnlocked x)

theorem lockRestarted_rest (x : State) : (lockRestarted x).lamp = x.lamp ∧ (lockRestarted x).uptime = x.uptime ∧
    (lockRestarted x).mode = x.mode ∧ (lockRestarted x).heat = x.heat ∧ (lockRestarted x).sched = x.sched ∧
    (lockRestarted x).work = x.work ∧ (lockRestarted x).sel = x.sel ∧
    (lockRestarted x).lock = { x.lock with unlocked := false, unlockedBy := none } := ⟨rfl, rfl, rfl, rfl, rfl, rfl, rfl, rfl⟩

/-- The blocks before the Lamp Controller at RESTART. -/
def calmed (x : State) : State := restartMode (restartHeat (emptyQueue x))

theorem calmed_rest (x : State) : (∀ b, bayRestarted (calmed x) b = bayRestarted x b) ∧ (∀ b, bayAfter (calmed x) b = bayAfter x b) ∧
    (calmed x).uptime = x.uptime ∧ (calmed x).pins = x.pins ∧ (calmed x).work = x.work ∧ (calmed x).sched = x.sched ∧
    (calmed x).lock = x.lock ∧ (calmed x).mode.temp = none ∧ (calmed x).mode.persistUsed = x.mode.persistUsed ∧
    (calmed x).mode.requested = x.mode.requested ∧
    (calmed x).heat.level = .normal ∧ (calmed x).heat.housing = x.heat.housing :=
  ⟨fun _ => rfl, fun _ => rfl, rfl, rfl, rfl, rfl, rfl, rfl, rfl, rfl, rfl, rfl⟩

theorem restartBlocks_eq (x : State) :
    restartBlocks x = restartFilters (lockRestarted (handFallback (pictureRestarted (restartLamps (calmed x))))) := rfl

theorem restartBlocks_blocks (x : State) : Blocks x (restartBlocks x) := by
  obtain ⟨hrest, hafter, hup, hpins, hwork, hsched, hlock, htemp, hused, hrequested, hlevel, hhousing⟩ := calmed_rest x
  obtain ⟨a, ha⟩ : ∃ a, a = calmed x := ⟨_, rfl⟩
  rw [restartBlocks_eq, ← ha]
  rw [← ha] at hrest hafter hup hpins hwork hsched hlock htemp hused hrequested hlevel hhousing
  have hdemand := restartLamps_demand a
  have hsteady := restartLamps_steadfast a
  have hbay := bay_restartLamps a
  have hwanted := restartLamps_wanted a
  have hcount : burningAfter a = burningAfter x := by rw [burningAfter, hafter, hafter, burningAfter]
  obtain ⟨lup, -, lwork, lmode, lheat, -, lsched, llock⟩ := restartLamps_lampwise a
  generalize restartLamps a = l at *
  obtain ⟨flamp, fup, fmode, flevel, fhousing, flock, fsched, fwork, fsel⟩ := pictureRestarted_rest l
  generalize pictureRestarted l = f at *
  obtain ⟨gmode, gheat, glock, gsched, gst, gport, gfrom, gmute⟩ := handFallback_rest f
  have glamp : (handFallback f).lamp = f.lamp := handFallback_lamp f
  have gwork : (handFallback f).work = f.work := handFallback_work f
  have gup : (handFallback f).uptime = f.uptime := handFallback_uptime f
  generalize handFallback f = g at *
  obtain ⟨klamp, kup, kmode, kheat, ksched, kwork, ksel, klock⟩ := lockRestarted_rest g
  generalize lockRestarted g = k at *
  obtain ⟨ylamp, yup, ymode, yheat, ylock, ysched, ysel⟩ := restartFilters_rest k
  have ywork := restartFilters_work k
  generalize restartFilters k = y at *
  have hlamp : y.lamp = l.lamp := by rw [ylamp, klamp, glamp, flamp]
  have hybay : ∀ b, bay y b = bay l b := fun b => by rw [bay, hlamp, bay]
  rw [kwork, gwork, fwork, lwork, hwork] at ywork
  rw [klock, glock, flock, llock, hlock] at ylock
  rw [kmode, gmode, fmode, lmode] at ymode
  exact
    { bays := fun b => by rw [hybay, hbay, hrest]
      steadfast := hsteady.of_lamp hlamp
      count := by rw [hlamp, hdemand.1, hcount]
      origin := by rw [hlamp, hdemand.2]
      wanted := fun h b => by rw [hlamp, hwanted (by rwa [hpins]), hafter]
      uptime := by rw [yup, kup, gup, fup, lup, hup]
      temp := by rw [ymode, htemp]
      used := by rw [ymode, hused]
      requested := by rw [ymode, hrequested]
      level := by rw [yheat, kheat, gheat, flevel, lheat, hlevel]
      housing := by rw [yheat, kheat, gheat, fhousing, lheat, hhousing]
      unlocked := by rw [ylock]
      maint := by rw [ylock]
      attempts := by rw [ylock]
      sched := by rw [ysched, ksched, gsched, fsched, lsched, hsched]
      work := ywork
      sel := by
        rw [ysel, ksel, gst, gport, gfrom, gmute, fsel, lup, hup]
        exact ⟨rfl, rfl, rfl, rfl⟩ }

/-! ## The schedule at RESTART -/

theorem syncMode_blocks (h : Blocks x y) : Blocks x (syncMode y) where
  bays := h.bays
  steadfast := h.steadfast.of_lamp rfl
  count := h.count
  origin := h.origin
  wanted := h.wanted
  uptime := h.uptime
  temp := h.temp
  used := h.used
  requested := h.requested
  level := h.level
  housing := h.housing
  unlocked := h.unlocked
  maint := h.maint
  attempts := h.attempts
  sched := h.sched
  work := h.work
  sel := h.sel

theorem restartSchedule_apart (x : State) : Apart x (restartSchedule x) := by simp [Apart, restartSchedule]

/-- The schedule at RESTART changes no record but bookings and exceptions, and no time but the idle timer. -/
theorem restartSchedule_wanes (x : State) :
    Wanes (fun _ => True) (modSched (fun y => { y with idle := 0 }) x) (restartSchedule x) := by
  refine (evaluate_wanes (edge := false) (fun _ _ _ _ _ _ _ => trivial) fun _ _ => trivial).trans (Steady.wanes ?_)
  exact Steady.trans (.ite (runningActions_steady ..) (.refl _)) (prewarmActions_steady _)

/-- A bay after RESTART, where the demand ends at `n`: one that is Lit goes out where the schedule drops the demand. -/
def bayFinal (x : State) (n : Nat) (b : Bay) : BayCtl :=
  if (bayRestarted x b).st = .lit ∧ n = 0 then
    { bayRestarted x b with st := .cooling, timer := some (x.uptime + 90000), lastExt := some x.uptime }
  else bayRestarted x b

theorem lit_count (h : Steadfast x) (hb : (bay x b).st = .lit) : x.lamp.count ≠ 0 := by
  have h1 := h.one b (by rw [hb]; rfl)
  omega

/-- What the schedule makes of the restarted lamps. -/
theorem restartSchedule_lamps (h : Blocks x y) :
    (∀ b, bay (restartSchedule y) b = bayFinal x (restartSchedule y).lamp.count b) ∧
      (x.lock.maint = true → (restartSchedule y).lamp.count = burningAfter x) := by
  rcases restartSchedule_alight y with halight | ⟨v, q, halight, hm, he⟩
  · have hk := halight.lamp h.steadfast
    refine ⟨fun b => ?_, fun hx => (hk.withheld (h.maint.trans hx)).trans h.count⟩
    rw [bayFinal, if_neg, hk.bays, h.bays]
    rintro ⟨hlit, hzero⟩
    rw [← h.bays, ← hk.bays] at hlit
    exact lit_count hk.steadfast hlit hzero
  · have hk := halight.lamp h.steadfast
    have hup : v.uptime = x.uptime := by
      have hw := (restartSchedule_apart y).2.2.2.2
      rw [he] at hw
      simpa using hw.trans h.uptime
    have hcount : (restartSchedule y).lamp.count = 0 := by
      rw [he]
      exact (setDemand_rest ..).1
    refine ⟨fun b => ?_, fun hx => ?_⟩
    · have hb : bay (restartSchedule y) b = bay (drop .schedule v) b := by
        rw [he]
        rfl
      rw [hb, hcount, bayFinal, ← h.bays, ← hk.bays]
      by_cases hv : v.lamp.count = 0
      · rw [drop_none hv, if_neg fun hl => lit_count hk.steadfast hl.1 hv]
      · rw [(drop_empties hv).2.2.2]
        simp [coolingTime, second, hup]
    · rw [halight.onward.maint, h.maint, hx] at hm
      cases hm

theorem restartSchedule_onward (x : State) : Onward x (restartSchedule x) := by
  rcases restartSchedule_alight x with h | ⟨v, q, h, -, he⟩
  · exact h.onward
  · have hdrop : Onward v { drop .schedule v with notices := q } :=
      .of_same (drop_mode ..) (drop_lock ..) (drop_sel ..)
    rw [he]
    exact h.onward.trans hdrop

/-! ## What follows the schedule -/

/-- What settling and the start of a write leave of a state. -/
structure Stands (x y : State) : Prop where
  bays : ∀ b, ∃ st, bay y b = { bay x b with stamp := st }
  count : y.lamp.count = x.lamp.count
  origin : y.lamp.origin = x.lamp.origin
  wanted : y.lamp.wanted = x.lamp.wanted
  temp : y.mode.temp = x.mode.temp
  used : y.mode.persistUsed = x.mode.persistUsed
  requested : y.mode.requested = x.mode.requested
  level : y.heat.level = x.heat.level
  housing : y.heat.housing = x.heat.housing
  lock : y.lock = x.lock
  work : y.work = x.work
  clock : y.sched.clock = x.sched.clock
  active : y.sched.active = x.sched.active
  upcoming : y.sched.upcoming = x.sched.upcoming
  lastEnded : y.sched.lastEnded = x.sched.lastEnded
  idle : x.sched.idle = 0 → y.sched.idle = 0
  mute : y.sel.muteUser = x.sel.muteUser
  sel : x.sel.st ≠ .scanning → y.sel = x.sel

theorem Stands.trans (h : Stands x y) (h' : Stands y z) : Stands x z where
  bays b := by
    obtain ⟨p, hp⟩ := h.bays b
    obtain ⟨q, hq⟩ := h'.bays b
    exact ⟨q, by rw [hq, hp]⟩
  count := h'.count.trans h.count
  origin := h'.origin.trans h.origin
  wanted := h'.wanted.trans h.wanted
  temp := h'.temp.trans h.temp
  used := h'.used.trans h.used
  requested := h'.requested.trans h.requested
  level := h'.level.trans h.level
  housing := h'.housing.trans h.housing
  lock := h'.lock.trans h.lock
  work := h'.work.trans h.work
  clock := h'.clock.trans h.clock
  active := h'.active.trans h.active
  upcoming := h'.upcoming.trans h.upcoming
  lastEnded := h'.lastEnded.trans h.lastEnded
  idle hx := h'.idle (h.idle hx)
  mute := h'.mute.trans h.mute
  sel hx := by
    have e := h.sel hx
    rw [← e] at hx ⊢
    exact h'.sel hx

/-- A step that leaves all these blocks. -/
theorem Stands.of_same (h1 : y.lamp = x.lamp := by simp) (h2 : y.mode = x.mode := by simp) (h3 : y.heat = x.heat := by simp)
    (h4 : y.lock = x.lock := by simp) (h5 : y.work = x.work := by simp) (h6 : y.sched = x.sched := by simp)
    (h7 : y.sel = x.sel := by simp) : Stands x y := by
  constructor
  case bays => exact fun b => ⟨(bay x b).stamp, by rw [bay, bay, h1]⟩
  all_goals simp [h1, h2, h3, h4, h5, h6, h7]

theorem settle_idle (h : x.sched.idle = 0) : (settle x).sched.idle = 0 := by
  rw [settle_eq, syncFaults_sched, syncWaiters_sched]
  unfold syncIdle
  split
  · rfl
  · simpa using h

theorem settle_stands (x : State) : Stands x (settle x) where
  bays := bay_settle x
  count := settle_count x
  origin := settle_origin x
  wanted := settle_wanted x
  temp := settle_temp x
  used := settle_persistUsed x
  requested := settle_requested x
  level := settle_level x
  housing := by
    have e := congrArg Heat.housing (settle_heat_bare x)
    exact e
  lock := settle_lock x
  work := settle_work x
  clock := settle_clock x
  active := settle_active x
  upcoming := settle_upcoming x
  lastEnded := settle_lastEnded x
  idle := settle_idle
  mute := by
    rw [settle_sel]
    unfold syncScan scanReturns
    split <;> rfl
  sel := settle_sel_of_ne

theorem follow_stands (x : State) : Stands x (follow x) := by
  have hback : Stands (settle x) (follow x) := by
    have e : settle x = syncFaults (follow x) := rfl
    exact .of_same (by rw [e, syncFaults_lamp]) (by rw [e, syncFaults_mode]) (by rw [e, syncFaults_heat]) (by rw [e, syncFaults_lock])
      (by rw [e, syncFaults_work]) (by rw [e, syncFaults_sched]) (by rw [e, syncFaults_sel])
  exact (settle_stands x).trans hback

theorem startWrite_stands (x : State) : Stands x (startWrite x) := .of_same

theorem releaseStore_stands (x : State) : Stands x (releaseStore x) := by
  have hopen : Stands x { x with store := { x.store with busy := none } } := .of_same rfl rfl rfl rfl rfl rfl rfl
  exact hopen.trans (startWrite_stands _)

theorem rejudgeFaults_stands (x : State) : Stands x (rejudgeFaults x) := .of_same rfl rfl rfl rfl rfl rfl rfl

/-- The state that RESTART ends in. -/
def restartEnd (x : State) : State := settle (restartAll x)

theorem closing_stands (x : State) : Stands x (settle (releaseStore (rejudgeFaults (follow x)))) :=
  (follow_stands x).trans ((rejudgeFaults_stands _).trans ((releaseStore_stands _).trans (settle_stands _)))

theorem restartEnd_stands (x : State) : Stands (restartSchedule (syncMode (restartBlocks (holdStore x)))) (restartEnd x) := by
  unfold restartEnd restartAll
  exact closing_stands _

/-! ## The bays after RESTART (O51) -/

/-- A bay that counts as alight at RESTART (R25). -/
def staysAlight (x : State) (b : Bay) : Bool := (bay x b).st.inUse && x.pins.lit.get b && !x.lock.maint

theorem bayAfter_alight (h : staysAlight x b = true) : (bayAfter x b).st = if (bay x b).st = .lit then .lit else .warming := by
  obtain ⟨⟨huse, hlit⟩, hm⟩ : ((bay x b).st.inUse = true ∧ x.pins.lit.get b = true) ∧ x.lock.maint = false := by
    simpa [staysAlight] using h
  rcases (inUse_iff _).1 huse with e | e | e <;> simp [bayAfter, stateAfter, e, hlit, hm]

theorem bayAfter_dark (h : staysAlight x b = false) : (bayAfter x b).st =
    if (bay x b).st = .empty then .empty else if (bay x b).st = .failed then .failed else .rest := by
  have hor : (bay x b).st.inUse = true → (x.pins.lit.get b && !x.lock.maint) = false := by
    intro hu
    simpa [staysAlight, hu] using h
  cases hst : (bay x b).st <;> simp_all [bayAfter, stateAfter, BaySt.inUse]

theorem bayAfter_burning (x : State) (b : Bay) : (bayAfter x b).st.burning = staysAlight x b := by
  cases h : staysAlight x b
  · rw [bayAfter_dark h]
    split
    · rfl
    · split <;> rfl
  · rw [bayAfter_alight h]
    split <;> rfl

theorem bayAfter_timer (x : State) (b : Bay) : (bayAfter x b).timer = timerAfter x (bayAfter x b).st := rfl

/-- A bay that is not alight is as its own step of RESTART leaves it. -/
theorem bayFinal_dark (h : staysAlight x b = false) (n : Nat) : bayFinal x n b = bayAfter x b := by
  have hburn : (bayAfter x b).st.burning = false := by rw [bayAfter_burning, h]
  have hrest : bayRestarted x b = bayAfter x b := by rw [bayRestarted, hburn]; rfl
  rw [bayFinal, hrest, if_neg]
  rintro ⟨hlit, -⟩
  rw [hlit] at hburn
  cases hburn

/-- A bay alight with a cause goes out by it. -/
theorem bayFinal_caused (h : staysAlight x b = true) (hc : x.pins.door.get b = true ∨ x.pins.ballast.get b = true) (n : Nat) :
    bayFinal x n b = putOut x b (bayAfter x b) := by
  have hrest : bayRestarted x b = putOut x b (bayAfter x b) := by
    rw [bayRestarted, bayAfter_burning, h, if_pos]
    simpa using hc
  rw [bayFinal, hrest, if_neg]
  rintro ⟨hlit, -⟩
  cases hlit

/-- A bay alight without a cause is as its own step leaves it, but where it is Lit and the demand ends at 0. -/
theorem bayFinal_alight (hd : x.pins.door.get b = false) (hb : x.pins.ballast.get b = false) (n : Nat) :
    bayFinal x n b = if (bayAfter x b).st = .lit ∧ n = 0 then
      { bayAfter x b with st := .cooling, timer := some (x.uptime + 90000), lastExt := some x.uptime } else bayAfter x b := by
  have hrest : bayRestarted x b = bayAfter x b := by
    rw [bayRestarted, hd, hb]
    simp
  rw [bayFinal, hrest]

/-- What RESTART keeps of every bay. -/
theorem bayFinal_kept (x : State) (n : Nat) (b : Bay) : (bayFinal x n b).strikes = (bay x b).strikes ∧
    (bayFinal x n b).doorFlag = (bay x b).doorFlag ∧ (bayFinal x n b).lastLoss = (bay x b).lastLoss ∧
    (bayFinal x n b).lossBar = (bay x b).lossBar := by
  unfold bayFinal bayRestarted
  split <;> split <;> exact ⟨rfl, rfl, rfl, rfl⟩

/-- A bay that burnt and burns no more has its last extinguish set. -/
theorem bayFinal_lastExt (n : Nat) (hs : (bay x b).st.burning = true) (ht : (bayFinal x n b).st.burning = false) :
    (bayFinal x n b).lastExt = some x.uptime := by
  cases h : staysAlight x b
  · have hafter : (bayAfter x b).st.burning = false := by rw [bayAfter_burning, h]
    have hext : (bayAfter x b).lastExt =
        if (bay x b).st.burning && !(bayAfter x b).st.burning then some x.uptime else (bay x b).lastExt := rfl
    rw [bayFinal_dark h, hext, hs, hafter]
    rfl
  · by_cases hc : x.pins.door.get b = true ∨ x.pins.ballast.get b = true
    · rw [bayFinal_caused h hc]
      rfl
    · rw [not_or, Bool.not_eq_true, Bool.not_eq_true] at hc
      rw [bayFinal_alight hc.1 hc.2] at ht ⊢
      by_cases hout : (bayAfter x b).st = .lit ∧ n = 0
      · rw [if_pos hout]
      · rw [if_neg hout, bayAfter_burning, h] at ht
        cases ht

/-- The bay's clauses of O51. -/
theorem bayFinal_clauses (x : State) (n : Nat) (b : Bay) :
    ((bay x b).st = .empty → (bayFinal x n b).st = .empty) ∧
    ((bay x b).st = .failed → (bayFinal x n b).st = .failed) ∧
    ((bay x b).st ≠ .empty → (bay x b).st ≠ .failed → staysAlight x b = false →
      (bayFinal x n b).st = .rest ∧ (bayFinal x n b).timer = some (x.uptime + 150000)) ∧
    (staysAlight x b = true → x.pins.door.get b = true ∨ x.pins.ballast.get b = true →
      (bayFinal x n b).st = .cooling ∧ (bayFinal x n b).timer = some (x.uptime + 90000) ∧ (bayFinal x n b).causeMark = true) ∧
    (staysAlight x b = true → x.pins.door.get b = false → x.pins.ballast.get b = false →
      ((bay x b).st ≠ .lit → (bayFinal x n b).st = .warming ∧ (bayFinal x n b).timer = some (x.uptime + 45000)) ∧
      ((bay x b).st = .lit → n ≠ 0 → (bayFinal x n b).st = .lit) ∧
      ((bay x b).st = .lit → n = 0 → (bayFinal x n b).st = .cooling ∧ (bayFinal x n b).timer = some (x.uptime + 90000))) := by
  have hdark (hst : (bay x b).st = .empty ∨ (bay x b).st = .failed) : staysAlight x b = false := by
    rcases hst with e | e <;> simp [staysAlight, e, BaySt.inUse]
  refine ⟨fun he => ?_, fun hf => ?_, fun he hf h => ?_, fun h hc => ?_, fun h hd hb => ⟨fun hl => ?_, fun hl hn => ?_, fun hl hn => ?_⟩⟩
  · rw [bayFinal_dark (hdark (.inl he)), bayAfter_dark (hdark (.inl he)), if_pos he]
  · rw [bayFinal_dark (hdark (.inr hf)), bayAfter_dark (hdark (.inr hf)), if_neg (by rw [hf]; decide), if_pos hf]
  · rw [bayFinal_dark h, bayAfter_timer, bayAfter_dark h, if_neg he, if_neg hf]
    exact ⟨rfl, rfl⟩
  · rw [bayFinal_caused h hc]
    exact ⟨rfl, rfl, rfl⟩
  · rw [bayFinal_alight hd hb, bayAfter_alight h, if_neg hl, if_neg (by simp), bayAfter_timer, bayAfter_alight h, if_neg hl]
    exact ⟨rfl, rfl⟩
  · rw [bayFinal_alight hd hb, bayAfter_alight h, if_pos hl, if_neg (by simp [hn]), bayAfter_alight h, if_pos hl]
  · rw [bayFinal_alight hd hb, bayAfter_alight h, if_pos hl, if_pos ⟨rfl, hn⟩]
    exact ⟨rfl, rfl⟩

theorem burningAfter_eq (x : State) : burningAfter x =
    (if staysAlight x .bayA then 1 else 0) + (if staysAlight x .bayB then 1 else 0) := by
  rw [burningAfter, bayAfter_burning, bayAfter_burning]

/-! ## The parts of RESTART together -/

theorem holdStore_blocks (x : State) : Blocks x (syncMode (restartBlocks (holdStore x))) := by
  have h := syncMode_blocks (restartBlocks_blocks (holdStore x))
  exact ⟨h.bays, h.steadfast, h.count, h.origin, h.wanted, h.uptime, h.temp, h.used, h.requested, h.level, h.housing, h.unlocked,
    h.maint, h.attempts, h.sched, h.work, h.sel⟩

/-- What RESTART does whatever the schedule holds. -/
structure Outcome (x t : State) : Prop where
  temp : t.mode.temp = none
  used : t.mode.persistUsed = x.mode.persistUsed
  level : t.heat.level = .normal
  housing : t.heat.housing = x.heat.housing
  unlocked : t.lock.unlocked = false
  maint : t.lock.maint = x.lock.maint
  attempts : t.lock.attempts = x.lock.attempts
  line : t.comms.errCount = 0 ∧ t.comms.deaf = false
  mute : t.sel.muteUser = false
  lamps : t.work.lamps = x.work.lamps
  profiles : t.work.profiles = x.work.profiles
  codes : t.work.codes = x.work.codes
  settings : t.work.settings = x.work.settings
  clock : t.sched.clock = x.sched.clock
  idle : t.sched.idle = 0
  bays : ∀ b, ∃ st, bay t b = { bayFinal x t.lamp.count b with stamp := st }
  count : x.lock.maint = true → t.lamp.count = 0

theorem outcome_of_blocks (h : Blocks x y) (hs : Stands (restartSchedule y) t) (hl : t.comms.errCount = 0 ∧ t.comms.deaf = false) :
    Outcome x t := by
  have hon := restartSchedule_onward y
  have hwanes := restartSchedule_wanes y
  have hap := (restartSchedule_apart y).2.2.1
  obtain ⟨hbays, hmaint⟩ := restartSchedule_lamps h
  generalize restartSchedule y = w at *
  have hwork : w.work = { x.work with
      bookings := w.work.bookings, exceptions := w.work.exceptions, filters := y.work.filters, masks := y.work.masks } := by
    have e : (modSched (fun y => { y with idle := 0 }) y).work = y.work := rfl
    have hw := hwanes.work
    rw [e, h.work] at hw
    exact hw
  have hidle : w.sched.idle = 0 := by
    have e := congrArg Sched.idle hwanes.sched
    exact e
  have hclock : w.sched.clock = x.sched.clock := by
    have e : (modSched (fun y => { y with idle := 0 }) y).sched.clock = y.sched.clock := rfl
    rw [hwanes.clock, e, h.sched]
  have htemp : w.mode.temp = y.mode.temp := by
    have e := congrArg ModeUnit.temp hon.mode
    exact e
  have hused : w.mode.persistUsed = y.mode.persistUsed := by
    have e := congrArg ModeUnit.persistUsed hon.mode
    exact e
  refine
    { temp := hs.temp.trans (htemp.trans h.temp)
      used := hs.used.trans (hused.trans h.used)
      level := by rw [hs.level, hap, h.level]
      housing := by rw [hs.housing, hap, h.housing]
      unlocked := by rw [hs.lock, hon.unlocked h.unlocked]
      maint := by rw [hs.lock, hon.maint, h.maint]
      attempts := by rw [hs.lock, hon.attempts, h.attempts]
      line := hl
      mute := by rw [hs.mute, hon.mute h.sel.2.2.2]
      lamps := by rw [hs.work, hwork]
      profiles := by rw [hs.work, hwork]
      codes := by rw [hs.work, hwork]
      settings := by rw [hs.work, hwork]
      clock := hs.clock.trans hclock
      idle := hs.idle hidle
      bays := fun b => by
        obtain ⟨st, hst⟩ := hs.bays b
        exact ⟨st, by rw [hst, hbays, hs.count]⟩
      count := fun hm => ?_ }
  have hdark : ∀ b, staysAlight x b = false := fun b => by simp [staysAlight, hm]
  rw [hs.count, hmaint hm, burningAfter_eq, hdark, hdark]
  rfl

theorem restartEnd_outcome (x : State) : Outcome x (restartEnd x) := by
  refine outcome_of_blocks (holdStore_blocks x) (restartEnd_stands x) ?_
  rw [restartEnd, settle_comms, restartAll_comms]
  exact ⟨rfl, rfl⟩

/-! ## The retirements before the evaluation -/

/-- The exceptions from a clock's date on of the bookings that stay are kept. -/
def KeepsDue (c : HallClock) (x y : State) : Prop :=
  ∀ e ∈ x.work.exceptions, c.date ≤ e.date → place y.work.bookings e.booking ≠ none → e ∈ y.work.exceptions

theorem KeepsDue.trans {P : Nat → Prop} (h : KeepsDue c x y) (h' : KeepsDue c y z) (hw : Wanes P y z) : KeepsDue c x z := by
  intro e he hd hz
  refine h' e (h e he hd fun hy => ?_) hd hz
  obtain ⟨bk, hbk⟩ := Option.ne_none_iff_exists'.1 hz
  rw [hw.filled hbk] at hy
  cases hy

theorem retireBooking_keepsDue (n : Nat) (x : State) : KeepsDue c x (retireBooking n x) := by
  intro e he _ hy
  rw [retireBooking_work] at hy ⊢
  refine List.mem_filter.2 ⟨he, ?_⟩
  rw [bne_iff_ne]
  rintro rfl
  exact hy ((place_setPlace_none x.work.bookings e.booking e.booking).trans (if_pos rfl))

theorem retireIfPast_keepsDue (x : State) (n : Nat) : KeepsDue c x (retireIfPast c x n) := by
  unfold retireIfPast
  split
  · split
    · exact retireBooking_keepsDue n x
    · exact fun e he _ _ => he
  · exact fun e he _ _ => he

theorem retireExceptions_keepsDue (x : State) : KeepsDue c x (retireExceptions c x) := by
  intro e he hd _
  rw [retireExceptions, writeExceptions_work]
  exact List.mem_filter.2 ⟨he, by simpa using hd⟩

theorem retirePast_keepsDue (c : HallClock) (x : State) : KeepsDue c x (retirePast c x) := by
  have hfold (l : List Nat) (y : State) : KeepsDue c y (l.foldl (retireIfPast c) y) ∧
      Wanes (fun _ => True) y (l.foldl (retireIfPast c) y) := by
    induction l generalizing y with
    | nil => exact ⟨fun e he _ _ => he, .refl y⟩
    | cons n l ih =>
      obtain ⟨hk, hw⟩ := ih (retireIfPast c y n)
      exact ⟨(retireIfPast_keepsDue y n).trans hk hw, (retireIfPast_wanes fun _ _ _ _ => trivial).trans hw⟩
  exact (hfold _ x).1.trans (retireExceptions_keepsDue _) (retireExceptions_wanes (P := fun _ => True) c _)

theorem retirePast_faded (c : HallClock) (x : State) : Wanes (fun n => unnamed x n = true) x (retirePast c x) :=
  retirePast_wanes fun _ _ _ _ h => h

theorem otherRunning_none {d u : Nat} : otherRunning x d u = [] ↔ ∀ n bk, place x.work.bookings n = some bk →
    (occurs x n bk d && windowHolds d bk.start bk.stop u && !named x.sched.active n d) = false := by
  rw [List.eq_nil_iff_forall_not_mem]
  constructor
  · intro h n bk hbk
    obtain ⟨k, rfl, hk⟩ := place_eq_some.1 hbk
    by_contra hf
    exact h (k + 1, bk) (Restored.bookingsWhere_mem.2 ⟨k, Nat.add_comm .., hk, eq_true_of_ne_false hf⟩)
  · rintro h ⟨n, bk⟩ hmem
    obtain ⟨i, rfl, hi, hf⟩ := Restored.bookingsWhere_mem.1 hmem
    rw [h _ bk (place_eq_some.2 ⟨i, Nat.add_comm .., hi⟩)] at hf
    cases hf

/-- A retirement makes no occurrence of the clock's own date. -/
theorem otherRunning_retirePast {u : Nat} (h : otherRunning x c.date u = []) : otherRunning (retirePast c x) c.date u = [] := by
  rw [otherRunning_none] at h ⊢
  intro n bk hbk
  have hx := h n bk ((retirePast_faded c x).filled hbk)
  rw [retirePast_sched]
  cases hocc : occurs (retirePast c x) n bk c.date
  · rfl
  · have hold : occurs x n bk c.date = true := by
      unfold occurs at hocc ⊢
      cases hdates : bk.dates with
      | once y =>
        rw [hdates] at hocc
        exact hocc
      | weekly days f t =>
        rw [hdates] at hocc
        simp only [occursIn, Bool.and_eq_true, Bool.not_eq_true', List.contains_eq_mem, decide_eq_false_iff_not] at hocc ⊢
        exact ⟨hocc.1, fun hin => hocc.2 (retirePast_keepsDue c x _ hin (Nat.le_refl _) (by rw [hbk]; simp))⟩
    rwa [hold] at hx

/-! ## The evaluation at RESTART -/

theorem evaluate_notices (hc : x.sched.clock = some c) :
    ∃ q, evaluate false x = { judgeRecords c false (retirePast c x) with notices := q } := by
  obtain ⟨q, hq⟩ := withLock_notices (fun y => judgeRecords c false (retirePast c y)) x
  exact ⟨q, by simp only [evaluate, hc, hq]⟩

/-- A Running record before its end holds its place. -/
theorem judgeRecords_running {o : Occ} (ho : x.sched.active = some o) (hp : o.phase = .running) (hc : c.abs < minuteAbs o.date o.stop) :
    judgeRecords c false x = evalPrewarmBegins c x := by
  have hends : evalRunningEnds c x = x := by simp [evalRunningEnds, ho, Nat.not_le.2 hc]
  have hover : graceOver c x = false := by simp [graceOver, ho, hp]
  have hnext : evalNextInGrace c x = x := by simp [evalNextInGrace, activeIn, ho, hp]
  have hbegins : evalRunningBegins c false x = x := by simp [evalRunningBegins, ho]
  simp [judgeRecords, hends, hover, hnext, hbegins]

/-- A Grace before its end holds its place where no other booking is Running. -/
theorem judgeRecords_grace {o : Occ} (ho : x.sched.active = some o) (hp : o.phase = .grace)
    (hc : c.abs < minuteAbs o.date (o.stop + o.grace)) (hr : otherRunning x c.date c.abs = []) :
    judgeRecords c false x = evalPrewarmBegins c x := by
  have hends : evalRunningEnds c x = x := by simp [evalRunningEnds, ho, hp]
  have hlate : decide (o.graceEnd ≤ c.abs) = false := decide_eq_false (Nat.not_le.2 hc)
  have hover : graceOver c x = false := by simp [graceOver, ho, hlate]
  have hnext : evalNextInGrace c x = x := by simp [evalNextInGrace, hr]
  have hbegins : evalRunningBegins c false x = x := by simp [evalRunningBegins, ho]
  simp [judgeRecords, hends, hover, hnext, hbegins]

/-- An upcoming record stays where no booking is Running. -/
theorem judgeRecords_upcoming {u : Occ} (ha : x.sched.active = none) (hu : x.sched.upcoming = some u)
    (hr : otherRunning x c.date c.abs = []) : judgeRecords c false x = x := by
  have hends : evalRunningEnds c x = x := by simp [evalRunningEnds, ha]
  have hover : graceOver c x = false := by simp [graceOver, ha]
  have hnext : evalNextInGrace c x = x := by simp [evalNextInGrace, hr]
  have hbegins : evalRunningBegins c false x = x := by simp [evalRunningBegins, ha, hr]
  have hprewarm : evalPrewarmBegins c x = x := by simp [evalPrewarmBegins, hu]
  simp [judgeRecords, hends, hover, hnext, hbegins, hprewarm]

/-! ## The actions taken again -/

/-- What a Prewarm does beside its raise. -/
structure Prewarms (x y : State) : Prop where
  sel : y.sel = x.sel
  mode : y.mode = x.mode
  active : y.sched.active = x.sched.active
  none : y.sched.upcoming = none → y = x

theorem prewarmActions_prewarms (x : State) : Prewarms x (prewarmActions x) := by
  unfold prewarmActions
  split
  · exact ⟨rfl, rfl, rfl, fun _ => rfl⟩
  · rename_i o ho
    split
    · exact ⟨rfl, rfl, rfl, fun _ => rfl⟩
    · have h : ∀ y : State, y.sel = x.sel → y.mode = x.mode → y.sched.active = x.sched.active → y.sched.upcoming ≠ none → ∀ l,
          Prewarms x (notify .booking .upcoming l y) := fun y h1 h2 h3 h4 l => ⟨h1, h2, h3, fun h => absurd h h4⟩
      split
      · split
        · refine h _ ?_ ?_ ?_ ?_ _ <;> simp
        · exact h x rfl rfl rfl (by simp [ho]) _
      · exact h x rfl rfl rfl (by simp [ho]) _

theorem evalPrewarmBegins_prewarms (c : HallClock) (x : State) : Prewarms x (evalPrewarmBegins c x) := by
  unfold evalPrewarmBegins
  split
  · exact ⟨rfl, rfl, rfl, fun _ => rfl⟩
  · split
    · rename_i p _
      have h := prewarmActions_prewarms (modSched (fun y => { y with upcoming := some (newOcc p.1 p.2 c.date .prewarm) }) x)
      refine ⟨h.sel, h.mode, h.active, fun hnone => ?_⟩
      have e := h.none hnone
      rw [enterPrewarm, e] at hnone
      cases hnone
    · exact ⟨rfl, rfl, rfl, fun _ => rfl⟩

theorem raiseAllowed_open (hl : x.heat.level = .normal) (hm : x.lock.maint = false) : raiseAllowed x = true := by
  have hw := withheld_eq x
  rw [hm, withheld, beq_eq_false_iff_ne] at hw
  simp [raiseAllowed, hl, hw]

/-- What the actions of a Running record do when they are taken again outside Maintenance (R140, R150). -/
structure Retaken (o : Occ) (bk : Booking) (x y : State) : Prop where
  active : y.sched.active = some { o with raised := true, late := true }
  upcoming : y.sched.upcoming = x.sched.upcoming
  requested : y.mode.requested = bk.mode.getD x.mode.requested
  count : y.lamp.count = max x.lamp.count (bookCount x bk)
  origin : y.lamp.origin = if max x.lamp.count (bookCount x bk) = x.lamp.count then x.lamp.origin else .schedule
  still : bk.source = none → y.sel.st = x.sel.st ∧ y.sel.port = x.sel.port
  switch : ∀ k p, bk.source = some k → profileAt x k = some p → x.sel.st = .noSignal →
    y.sel.st = .switching ∧ y.sel.req = some ⟨p.port, some k, .schedule, x.uptime⟩

theorem bookedMode_rest (bk : Booking) (x : State) : (bookedMode bk x).mode.requested = bk.mode.getD x.mode.requested ∧
    (bookedMode bk x).sel = x.sel ∧ (bookedMode bk x).work = x.work ∧ (bookedMode bk x).sched = x.sched ∧
    (bookedMode bk x).lamp = x.lamp ∧ (bookedMode bk x).uptime = x.uptime := by
  unfold bookedMode
  cases bk.mode <;> exact ⟨rfl, rfl, rfl, rfl, rfl, rfl⟩

/-- The schedule's request in NoSignal begins a switch. -/
theorem scheduleRequest_switches {k : Nat} {p : Profile} (hp : profileAt x k = some p) (hs : x.sel.st = .noSignal) :
    scheduleRequest (some k) x = startSwitch p.port (some k) .schedule x := by
  simp [scheduleRequest, profileOf, hp, takeRequest, noSwitch, requestBusy, hs]

theorem runningNotice_notices (x : State) : ∃ q, runningNotice x = { x with notices := q } := by
  unfold runningNotice
  split
  · exact ⟨_, rfl⟩
  · exact ⟨_, rfl⟩

theorem clearPresenter_rest (x : State) : (clearPresenter x).mode = x.mode ∧ (clearPresenter x).sched = x.sched ∧
    (clearPresenter x).lamp = x.lamp ∧ (clearPresenter x).sel = { x.sel with muteUser := false } := by
  simp [clearPresenter]

theorem runningActions_retaken {o : Occ} {bk : Booking} (ho : x.sched.active = some o) (hbk : place x.work.bookings o.booking = some bk)
    (hm : x.lock.maint = false) (hl : x.heat.level = .normal) : Retaken o bk x (runningActions true true x) := by
  have hraise : runningRaise true o bk x =
      modSched (fun y => { y with active := some { o with raised := true } }) (raise .schedule (bookCount x bk) x) := by
    simp [runningRaise, raiseAllowed_open hl hm]
  have hact : runningActions true true x = runningNotice (markLate true (runningEffects true o bk x)) := by
    simp [runningActions, ho, hbk, withheld_eq, hm]
  obtain ⟨q, hq⟩ := runningNotice_notices (markLate true (runningEffects true o bk x))
  obtain ⟨r, hr⟩ : ∃ r, r = runningRaise true o bk x := ⟨_, rfl⟩
  have hrl : r.lamp = (raise .schedule (bookCount x bk) x).lamp := by rw [hr, hraise]; rfl
  have hrs : r.sched = { x.sched with active := some { o with raised := true } } := by rw [hr, hraise]; simp
  have hrm : r.mode = x.mode ∧ r.sel = x.sel ∧ r.work = x.work ∧ r.uptime = x.uptime := by rw [hr, hraise]; simp
  obtain ⟨hrm, hrsel, hrw, hru⟩ := hrm
  obtain ⟨bm, bsel, bw, bs, bl, bu⟩ := bookedMode_rest bk r
  have heff : runningEffects true o bk x = clearPresenter (clearUnlocked (scheduleRequest bk.source (bookedMode bk r))) := by
    rw [runningEffects, ← hr]
  obtain ⟨pm, ps, pl, psel⟩ := clearPresenter_rest (clearUnlocked (scheduleRequest bk.source (bookedMode bk r)))
  have hmode : (runningEffects true o bk x).mode.requested = bk.mode.getD x.mode.requested := by
    rw [heff, pm, clearUnlocked_mode, scheduleRequest_mode, bm, hrm]
  have hsched : (runningEffects true o bk x).sched = { x.sched with active := some { o with raised := true } } := by
    rw [heff, ps, clearUnlocked_sched, scheduleRequest_sched, bs, hrs]
  have hlamp : (runningEffects true o bk x).lamp = (raise .schedule (bookCount x bk) x).lamp := by
    rw [heff, pl, clearUnlocked_lamp, scheduleRequest_lamp, bl, hrl]
  have hsel : (runningEffects true o bk x).sel = { (scheduleRequest bk.source (bookedMode bk r)).sel with muteUser := false } := by
    rw [heff, psel]
    rfl
  rw [hact, hq]
  constructor
  · simp [markLate, modSched, hsched]
  · simp [markLate, modSched, hsched]
  · exact hmode
  · have e : (raise .schedule (bookCount x bk) x).lamp.count = max x.lamp.count (bookCount x bk) := (setDemand_rest ..).1
    exact (congrArg LampCtl.count hlamp).trans e
  · exact (congrArg LampCtl.origin hlamp).trans (setDemand_rest ..).2.1
  · intro hnone
    have e : scheduleRequest none (bookedMode bk r) = bookedMode bk r := rfl
    rw [hnone, e, bsel, hrsel] at hsel
    have hst : (runningEffects true o bk x).sel.st = x.sel.st ∧ (runningEffects true o bk x).sel.port = x.sel.port := by
      rw [hsel]
      exact ⟨rfl, rfl⟩
    exact hst
  · intro k p hk hp hst
    have hp' : profileAt (bookedMode bk r) k = some p := by
      rw [profileAt, bw, hrw]
      exact hp
    have hst' : (bookedMode bk r).sel.st = .noSignal := by rw [bsel, hrsel, hst]
    rw [hk, scheduleRequest_switches hp' hst', startSwitch, bu, hru] at hsel
    have hreq : (runningEffects true o bk x).sel.st = .switching ∧
        (runningEffects true o bk x).sel.req = some ⟨p.port, some k, .schedule, x.uptime⟩ := by
      rw [hsel]
      exact ⟨rfl, rfl⟩
    exact hreq

/-- The Prewarm actions of an upcoming record outside Maintenance (R139). -/
theorem prewarmActions_raises {u : Occ} {bk : Booking} (hu : x.sched.upcoming = some u)
    (hbk : place x.work.bookings u.booking = some bk) (hm : x.lock.maint = false) (hl : x.heat.level = .normal) :
    (prewarmActions x).sched.upcoming = some { u with raised := true } ∧
      (prewarmActions x).lamp.count = max x.lamp.count (bookCount x bk) := by
  have e : (raise .schedule (bookCount x bk) x).lamp.count = max x.lamp.count (bookCount x bk) := (setDemand_rest ..).1
  simp [prewarmActions, hu, hbk, withheld_eq, hm, raiseAllowed_open hl hm, e]

/-! ## The records at RESTART (O51) -/

/-- The state in which the evaluation at RESTART judges the records. -/
structure Prepared (x p : State) : Prop where
  count : p.lamp.count = burningAfter x
  origin : p.lamp.origin = .restart
  st : p.sel.st = .noSignal
  port : p.sel.port = .p1
  requested : p.mode.requested = x.mode.requested
  maint : p.lock.maint = x.lock.maint
  level : p.heat.level = .normal
  uptime : p.uptime = x.uptime
  active : p.sched.active = x.sched.active
  upcoming : p.sched.upcoming = x.sched.upcoming
  lastEnded : p.sched.lastEnded = x.sched.lastEnded
  settings : p.work.settings = x.work.settings
  profiles : p.work.profiles = x.work.profiles
  named : ∀ n, unnamed x n = false → place p.work.bookings n = place x.work.bookings n

/-- The idle timer of a restarted part. -/
def idleZero (y : State) : State := modSched (fun z => { z with idle := 0 }) y

theorem retirePast_prepared (h : Blocks x y) (c : HallClock) : Prepared x (retirePast c (idleZero y)) := by
  obtain ⟨hlamp, hsel, hmode, hlock⟩ := retirePast_retires c (idleZero y)
  obtain ⟨-, -, hheat, -, hup⟩ := retirePast_apart c (idleZero y)
  have hsched := retirePast_sched c (idleZero y)
  have hwanes := retirePast_faded c (idleZero y)
  generalize retirePast c (idleZero y) = p at *
  have hwork : p.work = { x.work with
      bookings := p.work.bookings, exceptions := p.work.exceptions, filters := y.work.filters, masks := y.work.masks } := by
    have hw := hwanes.work
    have e : (idleZero y).work = y.work := rfl
    rw [e, h.work] at hw
    exact hw
  have hrecords : p.sched = { x.sched with idle := 0 } := by
    rw [← h.sched]
    exact hsched
  obtain ⟨hst, hport, -, -⟩ := h.sel
  exact
    { count := (congrArg LampCtl.count hlamp).trans h.count
      origin := (congrArg LampCtl.origin hlamp).trans h.origin
      st := (congrArg Selector.st hsel).trans hst
      port := (congrArg Selector.port hsel).trans hport
      requested := (congrArg ModeUnit.requested hmode).trans h.requested
      maint := (congrArg LockUnit.maint hlock).trans h.maint
      level := (congrArg Heat.level hheat).trans h.level
      uptime := hup.trans h.uptime
      active := by rw [hrecords]
      upcoming := by rw [hrecords]
      lastEnded := by rw [hrecords]
      settings := by rw [hwork]
      profiles := by rw [hwork]
      named := fun n hn => by
        have hun : unnamed (idleZero y) n = false := by
          rw [← hn, unnamed, unnamed, idleZero, modSched, h.sched]
        have e : (idleZero y).work.bookings = x.work.bookings := by
          have e' : (idleZero y).work = y.work := rfl
          rw [e', h.work]
        rw [hwanes.spared (by rw [hun]; decide), e] }

theorem unnamed_of_active {o : Occ} (h : x.sched.active = some o) : unnamed x o.booking = false := by simp [unnamed, h]
theorem unnamed_of_upcoming {u : Occ} (h : x.sched.upcoming = some u) : unnamed x u.booking = false := by simp [unnamed, h]

/-- The count that a booking or the plan gives. -/
def countOf (x : State) (bk : Booking) : Nat := bk.lamps.getD (if x.work.settings.plan = .single then 1 else 2)

theorem bookCount_eq (bk : Booking) (h : y.work.settings = x.work.settings) : bookCount y bk = countOf x bk := by
  rw [bookCount, planCount, h, countOf]
  cases x.work.settings.plan <;> rfl

/-- The evaluation at RESTART where a record holds its place: at most a Prewarm begins. -/
structure Evaluated (x e : State) : Prop where
  st : e.sel.st = .noSignal
  port : e.sel.port = .p1
  requested : e.mode.requested = x.mode.requested
  maint : e.lock.maint = x.lock.maint
  level : e.heat.level = .normal
  uptime : e.uptime = x.uptime
  active : e.sched.active = x.sched.active
  lastEnded : e.sched.lastEnded = x.sched.lastEnded
  settings : e.work.settings = x.work.settings
  profiles : e.work.profiles = x.work.profiles
  named : ∀ n, unnamed x n = false → place e.work.bookings n = place x.work.bookings n
  demand : e.sched.upcoming = none → e.lamp.count = burningAfter x ∧ e.lamp.origin = .restart

theorem evalPrewarmBegins_evaluated {p : State} (h : Prepared x p) (c : HallClock) (q : NoticeQ) :
    Evaluated x { evalPrewarmBegins c p with notices := q } := by
  have hpre := evalPrewarmBegins_prewarms c p
  have hsteady := evalPrewarmBegins_steady c p
  have hmaint := (evalPrewarmBegins_alight c p).onward.maint
  obtain ⟨-, -, hheat, -, hup⟩ := evalPrewarmBegins_apart c p
  generalize evalPrewarmBegins c p = e at *
  exact
    { st := (congrArg Selector.st hpre.sel).trans h.st
      port := (congrArg Selector.port hpre.sel).trans h.port
      requested := (congrArg ModeUnit.requested hpre.mode).trans h.requested
      maint := hmaint.trans h.maint
      level := (congrArg Heat.level hheat).trans h.level
      uptime := hup.trans h.uptime
      active := hpre.active.trans h.active
      lastEnded := hsteady.lastEnded.trans h.lastEnded
      settings := (congrArg Records.settings hsteady.work).trans h.settings
      profiles := (congrArg Records.profiles hsteady.work).trans h.profiles
      named := fun n hn => (congrArg (fun r : Records => place r.bookings n) hsteady.work).trans (h.named n hn)
      demand := fun hnone => by
        obtain rfl := hpre.none hnone
        exact ⟨h.count, h.origin⟩ }

/-- What RESTART makes of a Running record before its end. -/
structure RunningKept (x : State) (o : Occ) (bk : Booking) (t : State) : Prop where
  active : t.sched.active = some { o with raised := true, late := true }
  lastEnded : t.sched.lastEnded = x.sched.lastEnded
  requested : t.mode.requested = bk.mode.getD x.mode.requested
  demand : t.sched.upcoming = none → t.lamp.count = max (burningAfter x) (countOf x bk) ∧
    t.lamp.origin = if countOf x bk ≤ burningAfter x then .restart else .schedule
  still : bk.source = none → t.sel.st = .noSignal ∧ t.sel.port = .p1
  switch : ∀ k p, bk.source = some k → profileAt x k = some p →
    t.sel.st = .switching ∧ t.sel.req = some ⟨p.port, some k, .schedule, x.uptime⟩

theorem retakeActions_running {e : State} {o : Occ} {bk : Booking} (h : Evaluated x e) (ho : x.sched.active = some o)
    (hp : o.phase = .running) (hbk : place x.work.bookings o.booking = some bk) (hm : x.lock.maint = false) :
    RunningKept x o bk (retakeActions e) := by
  have hactive : e.sched.active = some o := h.active.trans ho
  have hin : activeIn e .running = true := by simp [activeIn, hactive, hp]
  have hplace : place e.work.bookings o.booking = some bk := (h.named _ (unnamed_of_active ho)).trans hbk
  have hrun := runningActions_retaken hactive hplace (h.maint.trans hm) h.level
  have hlast := (runningActions_steady true true e).lastEnded
  have heq : retakeActions e = prewarmActions (runningActions true true e) := by simp [retakeActions, hin]
  rw [heq]
  generalize runningActions true true e = f at *
  have hpre := prewarmActions_prewarms f
  have hlast' := (prewarmActions_steady f).lastEnded
  generalize prewarmActions f = w at *
  exact
    { active := hpre.active.trans hrun.active
      lastEnded := hlast'.trans (hlast.trans h.lastEnded)
      requested := by rw [hpre.mode, hrun.requested, h.requested]
      demand := fun hnone => by
        obtain rfl := hpre.none hnone
        obtain ⟨hc, ho⟩ := h.demand (hrun.upcoming.symm.trans hnone)
        rw [hrun.count, hrun.origin, bookCount_eq bk h.settings, hc, ho]
        exact ⟨rfl, by simp only [max_eq_left_iff]⟩
      still := fun hnone => by
        rw [hpre.sel, (hrun.still hnone).1, (hrun.still hnone).2]
        exact ⟨h.st, h.port⟩
      switch := fun k p hk hpk => by
        have hpk' : profileAt e k = some p := by rwa [profileAt, h.profiles]
        rw [hpre.sel, ← h.uptime]
        exact hrun.switch k p hk hpk' h.st }

/-- Settling leaves what RESTART makes of a Running record. -/
theorem RunningKept.stands {o : Occ} {bk : Booking} (h : RunningKept x o bk w) (hs : Stands w t) : RunningKept x o bk t where
  active := hs.active.trans h.active
  lastEnded := hs.lastEnded.trans h.lastEnded
  requested := hs.requested.trans h.requested
  demand hnone := by
    rw [hs.count, hs.origin]
    exact h.demand (hs.upcoming.symm.trans hnone)
  still hnone := by
    rw [hs.sel (by rw [(h.still hnone).1]; decide)]
    exact h.still hnone
  switch k p hk hp := by
    rw [hs.sel (by rw [(h.switch k p hk hp).1]; decide)]
    exact h.switch k p hk hp

theorem restartSchedule_running {o : Occ} {bk : Booking} (h : Blocks x y) (hc : x.sched.clock = some c) (hm : x.lock.maint = false)
    (ho : x.sched.active = some o) (hp : o.phase = .running) (hbefore : c.abs < minuteAbs o.date o.stop)
    (hbk : place x.work.bookings o.booking = some bk) : RunningKept x o bk (restartSchedule y) := by
  have hclock : (idleZero y).sched.clock = some c := by rw [idleZero, modSched, h.sched, hc]
  obtain ⟨q, hq⟩ := evaluate_notices hclock
  have hprep := retirePast_prepared h c
  rw [judgeRecords_running (hprep.active.trans ho) hp hbefore] at hq
  have heq : restartSchedule y = retakeActions (evaluate false (idleZero y)) := rfl
  rw [heq, hq]
  exact retakeActions_running (evalPrewarmBegins_evaluated hprep c q) ho hp hbk hm

theorem otherRunning_blocks {u : Nat} (h : Blocks x y) (hr : otherRunning x c.date u = []) :
    otherRunning (retirePast c (idleZero y)) c.date u = [] := by
  refine otherRunning_retirePast (otherRunning_none.2 ?_)
  rw [otherRunning_none] at hr
  have hb : (idleZero y).work.bookings = x.work.bookings ∧ (idleZero y).work.exceptions = x.work.exceptions := by
    have e : (idleZero y).work = y.work := rfl
    rw [e, h.work]
    exact ⟨rfl, rfl⟩
  have ha : (idleZero y).sched.active = x.sched.active := by rw [idleZero, modSched, h.sched]
  intro n bk hbk
  rw [occurs, hb.2, ha]
  exact hr n bk (by rwa [← hb.1])

theorem restartSchedule_grace {o : Occ} (h : Blocks x y) (hc : x.sched.clock = some c) (hr : otherRunning x c.date c.abs = [])
    (ho : x.sched.active = some o) (hp : o.phase = .grace) (hbefore : c.abs < minuteAbs o.date (o.stop + o.grace)) :
    (restartSchedule y).sched.active = some o ∧ (restartSchedule y).sched.lastEnded = x.sched.lastEnded := by
  have hclock : (idleZero y).sched.clock = some c := by rw [idleZero, modSched, h.sched, hc]
  obtain ⟨q, hq⟩ := evaluate_notices hclock
  have hprep := retirePast_prepared h c
  rw [judgeRecords_grace (hprep.active.trans ho) hp hbefore (otherRunning_blocks h hr)] at hq
  have heq : restartSchedule y = retakeActions (evaluate false (idleZero y)) := rfl
  rw [heq, hq]
  have hev := evalPrewarmBegins_evaluated hprep c q
  generalize ({ evalPrewarmBegins c (retirePast c (idleZero y)) with notices := q } : State) = e at *
  have hactive : e.sched.active = some o := hev.active.trans ho
  have hin : activeIn e .running = false := by simp [activeIn, hactive, hp]
  have hretake : retakeActions e = prewarmActions e := by simp [retakeActions, hin]
  rw [hretake, (prewarmActions_prewarms e).active, (prewarmActions_steady e).lastEnded]
  exact ⟨hactive, hev.lastEnded⟩

theorem restartSchedule_upcoming {u : Occ} {bk : Booking} (h : Blocks x y) (hc : x.sched.clock = some c) (hm : x.lock.maint = false)
    (hr : otherRunning x c.date c.abs = []) (ha : x.sched.active = none) (hu : x.sched.upcoming = some u)
    (hbk : place x.work.bookings u.booking = some bk) :
    (restartSchedule y).sched.active = none ∧ (restartSchedule y).sched.upcoming = some { u with raised := true } ∧
      (restartSchedule y).lamp.count = max (burningAfter x) (countOf x bk) := by
  have hclock : (idleZero y).sched.clock = some c := by rw [idleZero, modSched, h.sched, hc]
  obtain ⟨q, hq⟩ := evaluate_notices hclock
  have hp := retirePast_prepared h c
  rw [judgeRecords_upcoming (hp.active.trans ha) (hp.upcoming.trans hu) (otherRunning_blocks h hr)] at hq
  have heq : restartSchedule y = retakeActions (evaluate false (idleZero y)) := rfl
  rw [heq, hq]
  generalize retirePast c (idleZero y) = p at *
  obtain ⟨e, he⟩ : ∃ e : State, e = { p with notices := q } := ⟨_, rfl⟩
  have hactive : e.sched.active = none := by rw [he]; exact hp.active.trans ha
  have hup : e.sched.upcoming = some u := by rw [he]; exact hp.upcoming.trans hu
  have hplace : place e.work.bookings u.booking = some bk := by rw [he]; exact (hp.named _ (unnamed_of_upcoming hu)).trans hbk
  have hmaint : e.lock.maint = false := by rw [he]; exact hp.maint.trans hm
  have hlevel : e.heat.level = .normal := by rw [he]; exact hp.level
  have hcount : e.lamp.count = burningAfter x := by rw [he]; exact hp.count
  have hsettings : e.work.settings = x.work.settings := by rw [he]; exact hp.settings
  have hin : activeIn e .running = false := by simp [activeIn, hactive]
  have hretake : retakeActions e = prewarmActions e := by simp [retakeActions, hin]
  obtain ⟨h1, h2⟩ := prewarmActions_raises hup hplace hmaint hlevel
  rw [← he, hretake, (prewarmActions_prewarms e).active, h1, h2, hcount, bookCount_eq bk hsettings]
  exact ⟨hactive, rfl, rfl⟩

/-- With an unset clock and no record the schedule does nothing at RESTART. -/
theorem restartSchedule_unset (h : Blocks x y) (hc : x.sched.clock = none) (ha : x.sched.active = none) (hu : x.sched.upcoming = none) :
    restartSchedule y = idleZero y := by
  have hclock : (idleZero y).sched.clock = none := by rw [idleZero, modSched, h.sched, hc]
  have hcalls : recordCalls (idleZero y) = false := by simp [recordCalls, idleZero, modSched, h.sched, ha, hu]
  have heq : restartSchedule y = retakeActions (evaluate false (idleZero y)) := rfl
  rw [heq, evaluate_unset hclock, retakeActions_idle hcalls]

theorem unset_stands (h : Blocks x y) (hs : Stands (idleZero y) t) :
    t.sel.st = .noSignal ∧ t.sel.port = .p1 ∧ t.sel.noSigFrom = x.uptime ∧ t.work.bookings = x.work.bookings ∧
      t.lamp.origin = .restart ∧ t.lamp.count = burningAfter x ∧
      ((∀ b, x.pins.door.get b = false ∧ x.pins.ballast.get b = false) → ∀ b, t.lamp.wanted.get b = staysAlight x b) := by
  obtain ⟨hst, hport, hfrom, -⟩ := h.sel
  have hsel : t.sel = y.sel := hs.sel (by rw [idleZero, modSched, hst]; decide)
  have hwork : t.work = y.work := hs.work
  rw [hsel, hwork, h.work]
  refine ⟨hst, hport, hfrom, rfl, hs.origin.trans h.origin, hs.count.trans h.count, fun hcauses b => ?_⟩
  rw [hs.wanted, ← bayAfter_burning]
  exact h.wanted hcauses b

/-! ## RESTART -/

theorem exec_restart {snd : Sender} {a : Answer} (h : takesNow s snd [] = true) (hc : below snd .facility = false)
    (ha : (if (nextEvent s).store.busy.isSome then ⟨{ nextEvent s with comms := { s.comms with restartBy := some snd } }, [], 0, none⟩
      else yes (restartAll (nextEvent s)) (fun _ => ["RESTART"])) = a) :
    exec (.restart snd []) s = .next (answer snd a) := by
  have hcmd : cmdRestart snd [] (nextEvent s) = a := by
    rw [← ha]
    exact gate_passes hc (lockedOut_facility hc)
  rw [← hcmd]
  exact run_verb h

/-- With a write in progress RESTART waits. -/
theorem exec_restart_waits {snd : Sender} (h : takesNow s snd [] = true) (hc : below snd .facility = false) (hb : s.store.busy ≠ none) :
    exec (.restart snd []) s = .next { nextEvent s with comms := { s.comms with restartBy := some snd } } := by
  have hbusy : (nextEvent s).store.busy.isSome = true := Option.isSome_iff_ne_none.2 hb
  rw [exec_restart h hc (if_pos hbusy), answer, if_pos (by simp)]

theorem exec_restart_now {snd : Sender} (h : takesNow s snd [] = true) (hc : below snd .facility = false) (hb : s.store.busy = none) :
    exec (.restart snd []) s = .next (answer snd ⟨restartEnd (nextEvent s), ["OK", "RESTART"], 0, none⟩) := by
  have hbusy : ¬(nextEvent s).store.busy.isSome = true := by
    rw [nextEvent, hb]
    decide
  exact exec_restart h hc (if_neg hbusy)

/-- The bays of the part that RESTART leaves. -/
theorem Outcome.bayClauses (h : Outcome x t) (b : Bay) :
    ((bay x b).st = .empty → (bay t b).st = .empty) ∧
    ((bay x b).st = .failed → (bay t b).st = .failed) ∧
    ((bay x b).st ≠ .empty → (bay x b).st ≠ .failed → staysAlight x b = false →
      (bay t b).st = .rest ∧ (bay t b).timer = some (x.uptime + 150000)) ∧
    (staysAlight x b = true → x.pins.door.get b = true ∨ x.pins.ballast.get b = true →
      (bay t b).st = .cooling ∧ (bay t b).timer = some (x.uptime + 90000) ∧ (bay t b).causeMark = true) ∧
    (staysAlight x b = true → x.pins.door.get b = false → x.pins.ballast.get b = false →
      ((bay x b).st ≠ .lit → (bay t b).st = .warming ∧ (bay t b).timer = some (x.uptime + 45000)) ∧
      ((bay x b).st = .lit → t.lamp.count ≠ 0 → (bay t b).st = .lit) ∧
      ((bay x b).st = .lit → t.lamp.count = 0 → (bay t b).st = .cooling ∧ (bay t b).timer = some (x.uptime + 90000))) ∧
    ((bay x b).st.burning = true → (bay t b).st.burning = false → (bay t b).lastExt = some x.uptime) ∧
    (bay t b).strikes = (bay x b).strikes ∧ (bay t b).doorFlag = (bay x b).doorFlag ∧
    (bay t b).lastLoss = (bay x b).lastLoss ∧ (bay t b).lossBar = (bay x b).lossBar := by
  obtain ⟨st, hst⟩ := h.bays b
  obtain ⟨h1, h2, h3, h4, h5⟩ := bayFinal_clauses x t.lamp.count b
  rw [hst]
  exact ⟨h1, h2, h3, h4, h5, bayFinal_lastExt _, bayFinal_kept x _ b⟩

/-- Settles O51: RESTART restores the blocks before the schedule (`Blocks`), the schedule's operations put no bay out but by its drop
(`restartSchedule_lamps`), and a record that holds its place has its actions taken again (`restartSchedule_running`). -/
theorem restartKeepsRecords : Obligations.RestartKeepsRecords := by
  intro s snd htakes hfac
  refine ⟨exec_restart_waits htakes hfac, fun hbusy => ?_⟩
  intro alight burning count
  have hblocks := holdStore_blocks (nextEvent s)
  have hstands := restartEnd_stands (nextEvent s)
  have hout := restartEnd_outcome (nextEvent s)
  have hexec := exec_restart_now htakes hfac hbusy
  have hburning : burningAfter (nextEvent s) = burning := burningAfter_eq (nextEvent s)
  generalize restartEnd (nextEvent s) = t at *
  generalize syncMode (restartBlocks (holdStore (nextEvent s))) = y at *
  refine ⟨t, hexec, hout.temp, hout.used, hout.level, hout.housing, hout.unlocked, hout.maint, hout.attempts, hout.line.1, hout.line.2,
    hout.mute, hout.lamps, hout.profiles, hout.codes, hout.settings, hout.clock, hout.idle, hout.bayClauses, hout.count, ?_, ?_⟩
  · intro hc ha hu
    rw [restartSchedule_unset hblocks hc ha hu] at hstands
    have h := unset_stands hblocks hstands
    rw [hburning] at h
    exact h
  · intro c hc hm
    refine ⟨fun o bk ho hp hbefore hbk => ?_, fun hr => ⟨fun o ho hp hbefore => ?_, fun u bk ha hu hbk => ?_⟩⟩
    · have h := (restartSchedule_running hblocks hc hm ho hp hbefore hbk).stands hstands
      have hdemand := h.demand
      rw [hburning] at hdemand
      exact ⟨h.active, h.lastEnded, h.requested, hdemand, h.still, h.switch⟩
    · obtain ⟨h1, h2⟩ := restartSchedule_grace hblocks hc hr ho hp hbefore
      exact ⟨hstands.active.trans h1, hstands.lastEnded.trans h2⟩
    · obtain ⟨h1, h2, h3⟩ := restartSchedule_upcoming hblocks hc hm hr ha hu hbk
      rw [hburning] at h3
      exact ⟨hstands.active.trans h1, hstands.upcoming.trans h2, hstands.count.trans h3⟩

end Sys2Proof.Restarting
